-- ==== Sys2Proof/Word.lean ====
section
/-! DEFINITION. The word and index types of the model: bytes, the numbers of lanes, actuators, zones,
presence channels, steps and recipes, and sets coded one bit per member (R205: "sets take one bit
per member, with bit n for member n"). -/

namespace Sys2Proof

/-- One data byte of a CAN frame. -/
abbrev Byte := BitVec 8

/-- Lanes L0 to L3; drive channel Dn always serves lane Ln (R116). -/
abbrev LaneId := Fin 4

/-- Actuators A0 to A9. -/
abbrev ActId := Fin 10

/-- Zones Z0 to Z11. -/
abbrev ZoneId := Fin 12

/-- Presence channels P0 to P11; P11 is the shielded reference (R159). -/
abbrev ChanId := Fin 12

/-- Step records 0 to 95. -/
abbrev StepId := Fin 96

/-- Recipe records 0 to 15. -/
abbrev RecipeId := Fin 16

/-- A set of zones, bit n for Zn. -/
abbrev ZoneSet := BitVec 12

/-- A set of actuators, bit n for An. -/
abbrev ActSet := BitVec 10

/-- A set of lanes, bit n for Ln. -/
abbrev LaneSet := BitVec 4

/-- A set of presence channels, bit n for Pn. -/
abbrev ChanSet := BitVec 12

/-- A set of stations, bit n for station n. -/
abbrev StationSet := BitVec 6

/-- A set of settings groups, bit n for the n-th row of R194's table. -/
abbrev GroupSet := BitVec 7

end Sys2Proof
end

