-- ==== Sys2Proof/Syntax.lean ====
section
/-! DEFINITION. The commands of the S740: one constructor per row of spec/opcode_table.json. A frame
command carries the data bytes of its frame as they stand on the bus, so that every form check of
R44, R180, R199 and R205 is part of its meaning; an event command carries what the event measures.

A request row carries its kind code by being that row: the frame of `runRecipe st body` is the byte 1
followed by `body` (section 11.3), and likewise for the other request and service rows. -/

namespace Sys2Proof

/-- The six stations (R41), in the order of their numbers 0 to 5. -/
inductive Station where
  | body | pad2L | pad2R | pad3 | padCargo | tester
  deriving DecidableEq, Repr

/-- Every command the block takes: station frames, service frames, the vehicle's frame, the supply, reset and
wake lines, hall pulses, samples, and the ends of the part's own timed operations. -/
inductive Instr where
  /-- RUN_RECIPE: request kind 1 from a station; `body` is the bytes after the kind byte. -/
  | runRecipe (st : Station) (body : List Byte)
  /-- RUN_STEP: request kind 2. -/
  | runStep (st : Station) (body : List Byte)
  /-- LEARN: request kind 3. -/
  | learn (st : Station) (body : List Byte)
  /-- HOLD: request kind 4. -/
  | hold (st : Station) (body : List Byte)
  /-- HALT: request kind 5. -/
  | halt (st : Station) (body : List Byte)
  /-- RESUME: request kind 6. -/
  | resume (st : Station) (body : List Byte)
  /-- CANCEL: request kind 7. -/
  | cancel (st : Station) (body : List Byte)
  /-- CLEAR_FAULT: request kind 8. -/
  | clearFault (st : Station) (body : List Byte)
  /-- ACK_RESTART: request kind 9. -/
  | ackRestart (st : Station) (body : List Byte)
  /-- UNKNOWN_KIND_REQUEST: a request frame whose kind code is none of the nine. -/
  | unknownKindRequest (st : Station) (kind : Byte) (body : List Byte)
  /-- DISCARDED_FRAME: a frame the part discards, with its identifier and data. -/
  | discardedFrame (ident : BitVec 11) (data : List Byte)
  /-- VEHICLE_STATE: a frame on 0x3A8. -/
  | vehicleState (data : List Byte)
  /-- READ_FIELD: service operation 1; `body` is the bytes after the operation byte. -/
  | readField (body : List Byte)
  /-- WRITE_FIELD: service operation 2. -/
  | writeField (body : List Byte)
  /-- CLEAR_LOG: service operation 3. -/
  | clearLog (body : List Byte)
  /-- FACTORY_PROFILE: service operation 4. -/
  | factoryProfile (body : List Byte)
  /-- RESTART: service operation 5. -/
  | restart (body : List Byte)
  /-- UNKNOWN_SERVICE_OPERATION: a service frame with an unknown operation, or one too short for its operation. -/
  | unknownServiceOperation (data : List Byte)
  /-- SERVICE_WRITE_COMPLETION: the 10 ms of a WRITE_FIELD end. -/
  | serviceWriteCompletion
  /-- CLEAR_LOG_COMPLETION: the 10 ms of a CLEAR_LOG end. -/
  | clearLogCompletion
  /-- FACTORY_PROFILE_COMPLETION: the 10 ms of a FACTORY_PROFILE end. -/
  | factoryProfileCompletion
  /-- POWER_ON: the supply rises from absent to `mv` millivolts. -/
  | powerOn (mv : Nat)
  /-- BROWNOUT: the supply falls to `mv` millivolts, below 6.0 V. -/
  | brownout (mv : Nat)
  /-- RESET_LINE: the reset line is asserted and released. -/
  | resetLine
  /-- WAKE_LINE: the wake line is asserted. -/
  | wakeLine
  /-- STORE_CHECK_COMPLETE: the settings groups have been loaded and checked; `damaged` names the groups whose
  stored bytes have been damaged since their last write. -/
  | storeCheckComplete (damaged : GroupSet)
  /-- WAKE_START_UP_COMPLETE: the end of the wake start-up. -/
  | wakeStartUpComplete
  /-- HALL_PULSE: one hall pulse of an actuator. -/
  | hallPulse (a : ActId)
  /-- LOAD_SAMPLE: a current reading in mA of a lane's channel, with the motor supply in mV. -/
  | loadSample (l : LaneId) (reading : Nat) (mv : Nat)
  /-- BLANKING_END: the blanking samples of a lane's drive have ended. -/
  | blankingEnd (l : LaneId)
  /-- STALL: a lane's channel has seen 80 ms without a hall pulse. -/
  | stall (l : LaneId)
  /-- RELAY_MADE: a lane's 15 ms make timer expires. -/
  | relayMade (l : LaneId)
  /-- BRAKE_END: a lane's 50 ms brake expires. -/
  | brakeEnd (l : LaneId)
  /-- REVERSAL_BRAKE_END: a lane's 40 ms reversal brake expires. -/
  | reversalBrakeEnd (l : LaneId)
  /-- RUN_ON_END: an actuator's 100 ms run-on window expires. -/
  | runOnEnd (a : ActId)
  /-- GATE_TIMER_EXPIRY: a lane's 30 s gate timer expires. -/
  | gateTimerExpiry (l : LaneId)
  /-- CLAIM_TIMER_EXPIRY: a lane's 30 s claim timer expires. -/
  | claimTimerExpiry (l : LaneId)
  /-- DWELL_TIMER_EXPIRY: a lane's dwell timer expires. -/
  | dwellTimerExpiry (l : LaneId)
  /-- PAUSE_TIMER_EXPIRY: a lane's 120 s pause timer expires. -/
  | pauseTimerExpiry (l : LaneId)
  /-- HOLD_LAPSE: 200 ms have passed since a lane's latest hold. -/
  | holdLapse (l : LaneId)
  /-- CLEAR_TIMER_EXPIRY: a fenced lane's 1000 ms clear timer expires. -/
  | clearTimerExpiry (l : LaneId)
  /-- TOTAL_TIMER_EXPIRY: a fenced lane's 10 s total timer expires. -/
  | totalTimerExpiry (l : LaneId)
  /-- YIELD_TIMER_EXPIRY: the 500 ms yield timer of a lane's wait-list entry expires. -/
  | yieldTimerExpiry (l : LaneId)
  /-- HALT_TIMEOUT: a presence channel's halt timer expires. -/
  | haltTimeout (c : ChanId)
  /-- DRIFT_TIMER_EXPIRY: a presence channel's 5 s drift timer expires. -/
  | driftTimerExpiry (c : ChanId)
  /-- FRESHNESS_TIMER_EXPIRY: 300 ms have passed since the last decoded Vehicle State. -/
  | freshnessTimerExpiry
  /-- DOZE_TIMER_EXPIRY: the doze time has passed. -/
  | dozeTimerExpiry
  /-- SILENCE_TIMER_EXPIRY: 2 s have passed since the last CAN frame. -/
  | silenceTimerExpiry
  /-- SUPPLY_MEASUREMENT: the supply monitor's own 10 ms measurement, in mV. -/
  | supplyMeasurement (mv : Nat)
  /-- PRESENCE_SAMPLE_ROUND: the raw converter counts of P0 to P11. -/
  | presenceSampleRound (counts : Vector (BitVec 16) 12)
  /-- SEEDING_END: a presence channel has its 16 seeding samples. -/
  | seedingEnd (c : ChanId)
  /-- TUNE_TRIAL_END: the tune in progress has the 8 rounds of its trial. -/
  | tuneTrialEnd
  /-- COALESCING_TIMER_EXPIRY: the Status Reporter's 20 ms coalescing timer expires. -/
  | coalescingTimerExpiry
  /-- PERIOD_TIMER_EXPIRY: the Status Reporter's period timer expires. -/
  | periodTimerExpiry
  /-- BROWNOUT_RECOVERY: the supply rises to `mv` millivolts, above 6.0 V. -/
  | brownoutRecovery (mv : Nat)
  deriving DecidableEq, Repr

end Sys2Proof
end

