-- ==== Sys2Proof/Decode.lean ====
section
/-! DEFINITION. The block fetches and decodes no instruction, and no row of spec/opcode_table.json gives bits ("fixed" and
"fields" are empty in every row), so no word spells a command. The frames' own layouts are decoded in
Machine/Operands.lean. -/

namespace Sys2Proof

/-- The command that a word spells by the table's bits: none, because no row has any. -/
def decodeTableWord (_nbits _w : Nat) : Option Instr := none

end Sys2Proof
end

