-- ==== Sys2Proof/Config.lean ====
section
/-! DEFINITION. What the model fixes where the spec fixes nothing: the values of the environment at
`State.reset`. Figures that the spec gives stand in Machine/Figures.lean. The spec leaves no result of any command
open, so there is no free value here. -/

namespace Sys2Proof.Config

/-- DESIGN CHOICE (log entry 2), unsafe: the motor supply that the pin carries at `State.reset`, in mV. It is the
12.6 V of chapter 12. -/
def resetSupply : Nat := 12600

/-- DESIGN CHOICE (log entry 1), unsafe: the milliseconds that pass in one step on an empty queue. -/
def tickMs : Nat := 1

end Sys2Proof.Config
end

