-- ==== Sys2Proof/Machine/Types.lean ====
section
/-! DEFINITION. The records the spec gives each block: actuators, steps and recipes, lanes, drive channels, load
contexts, presence channels, log entries and the rest, with the enumerations their fields range over. -/

namespace Sys2Proof.Machine

open Sys2Proof (Byte LaneId ActId ZoneId ChanId StepId RecipeId ZoneSet ActSet LaneSet ChanSet StationSet GroupSet Station Instr)

/-! ### Cabin Map and Plan Store -/

/-- A bridge polarity; an actuator's direction sense is the one that increases its count (R1). -/
inductive Sense where
  | forward | reverse
  deriving DecidableEq, Repr

/-- Speed classes, in the order of their codes 0 to 2. -/
inductive SpeedClass where
  | creep | normal | fast
  deriving DecidableEq, Repr

/-- Contact policies, codes 0 and 1. -/
inductive Policy where
  | pause | slow
  deriving DecidableEq, Repr

/-- Advance modes, codes 0 to 2. -/
inductive AdvanceMode where
  | continuous | hold | stepwise
  deriving DecidableEq, Repr

/-- The target field of a step (R12). -/
inductive Target where
  | endLow | endHigh | num (n : Nat)
  deriving DecidableEq, Repr

/-- Gate relations. -/
inductive Relation where
  | atLeast | atMost
  deriving DecidableEq, Repr

/-- A gate: a condition on another actuator's position (R23, R27). -/
structure Gate where
  act : ActId
  rel : Relation
  pos : Nat
  deriving DecidableEq, Repr

/-- A step record (R23). `actuator = none` makes it empty; `next = none` is END. -/
structure StepRec where
  actuator : Option ActId
  target : Target
  cls : SpeedClass
  policy : Policy
  dwell : Nat
  extraZones : Option ZoneSet
  gate : Option Gate
  next : Option StepId
  deriving DecidableEq, Repr

/-- A recipe record (R30). -/
structure RecipeRec where
  valid : Bool
  trackA : StepId
  trackB : Option StepId
  permitted : StationSet
  holdRequired : Bool
  deriving DecidableEq, Repr

/-- The stored fields of an actuator record (R1). -/
structure ActuatorRec where
  travel : Nat
  sense : Sense
  dutyCreep : Nat
  dutyNormal : Nat
  dutyFast : Nat
  softMargin : Nat
  firmMargin : Nat
  sweep : Vector ZoneSet 4
  profile : Vector Nat 32
  storedPosition : Nat
  storedReferenced : Bool
  motionMark : Bool
  deriving DecidableEq, Repr

/-- An actuator's drive condition (section 1.2). -/
inductive DriveCond where
  | atRest | inRunOn | driven
  deriving DecidableEq, Repr

/-- The runtime fields of an actuator record (R2) with the Cabin Map's drive condition and run-on window (R4). -/
structure ActRun where
  position : Nat
  referenced : Bool
  binding : Option LaneId
  manualPulses : Nat
  lastPolarity : Sense
  cond : DriveCond
  runOn : Option Nat
  deriving DecidableEq, Repr

/-- The end kind of a resolved target (R12). -/
inductive EndKind where
  | low | high | interior
  deriving DecidableEq, Repr

/-! ### Lane Engine -/

/-- The fourteen lane states, in the order of their codes 0 to 13. -/
inductive LaneState where
  | idle | waitGate | claiming | arming | moving | settling | stopping | reversing | fenced | dwell
  | waitAdvance | paused | faulted | offline
  deriving DecidableEq, Repr

/-- Pause reasons, in the order of their codes 1 to 10. -/
inductive PauseReason where
  | halted | holdLapsed | softContact | firmContact | fenceTimeout | claimTimeout | gateTimeout
  | interlock | supply | partnerFault
  deriving DecidableEq, Repr

/-- Resume points (R86). -/
inductive ResumePoint where
  | motion | claim | gate | afterStep | advance
  deriving DecidableEq, Repr

/-- Last results, in the order of their codes 16 to 20. -/
inductive Result where
  | completed | cancelled | abandoned | preempted | faulted
  deriving DecidableEq, Repr

/-- Fault reasons of a lane, codes 1 to 3. -/
inductive FaultReason where
  | reverseBlocked | driveFault | learnFailed
  deriving DecidableEq, Repr

/-- What a lane is running (R67). -/
inductive Plan where
  | recipe (n : RecipeId) (trackB : Bool)
  | singleStep
  | learn
  deriving DecidableEq, Repr

/-- The current step of a lane: a step number or INLINE (R36, R67). -/
inductive CurStep where
  | stored (n : StepId)
  | inline
  deriving DecidableEq, Repr

/-- Where STOPPING and REVERSING lead (R67). -/
inductive StopDest where
  | paused (r : PauseReason)
  | fenced
  | idle (r : Result)
  deriving DecidableEq, Repr

/-- A pending order (R67): in SETTLING, a halt or a cancel; in FAULTED(REVERSE_BLOCKED) during its brake, a clear. -/
inductive PendingOrder where
  | halt (r : PauseReason)
  | cancel (r : Result)
  | clear (r : Result)
  deriving DecidableEq, Repr

/-- Motion kinds (R116). -/
inductive MotionKind where
  | homing | step | correction | backOff | learnHome | learnRise | learnReturn
  deriving DecidableEq, Repr

/-- The step context of a lane (R68). `motion` is BACK_OFF while the lane is in REVERSING, and else the motion that the
lane is making or will make next; `completed` says that the step has completed and is the last of its track;
`slowDropped` that the SLOW policy has dropped its class to CREEP. -/
structure StepCtx where
  step : StepRec
  act : ActId
  p0 : Nat
  endKind : EndKind
  pt : Nat
  motion : MotionKind
  homingPending : Bool
  correctionUsed : Bool
  cls : SpeedClass
  slowDropped : Bool
  sweep : ZoneSet
  guardLost : Bool
  completed : Bool
  deriving DecidableEq, Repr

/-- The lane record (R67) with the lane's timers (R68, R84); a timer that is not running is `none`, a running one
holds its remaining milliseconds. `inline` is the inline step record of a RUN_STEP, held until IDLE or OFFLINE (R36, R40). Held zones stand in the zone
table, their one home (R16). -/
structure Lane where
  state : LaneState
  pauseReason : Option PauseReason
  resumePoint : Option ResumePoint
  owner : Option Station
  tag : Option Byte
  mode : Option AdvanceMode
  plan : Option Plan
  partner : Option LaneId
  currentStep : Option CurStep
  curAct : Option ActId
  inline : Option StepRec
  stepsCompleted : Nat
  bound : List ActId
  incidents : BitVec 7
  holdTime : Option Nat
  lastResult : Option Result
  faultReason : Option FaultReason
  stopDest : Option StopDest
  pendingOrder : Option PendingOrder
  ctx : Option StepCtx
  gateTimer : Option Nat
  claimTimer : Option Nat
  dwellTimer : Option Nat
  clearTimer : Option Nat
  totalTimer : Option Nat
  pauseTimer : Option Nat
  lapseTimer : Option Nat
  deriving DecidableEq, Repr

/-- An entry of the wait list (R99); `yieldTimer = none` is an expired yield timer. -/
structure WaitEntry where
  lane : LaneId
  wanted : ZoneSet
  yieldTimer : Option Nat
  yieldMade : Bool
  deriving DecidableEq, Repr

/-! ### Drive Unit -/

/-- The phase of a drive channel (R116). -/
inductive Phase where
  | relayOpen | making | driving | braking
  deriving DecidableEq, Repr

/-- A drive direction, as the direction of the count (R116). -/
inductive Direction where
  | increasing | decreasing
  deriving DecidableEq, Repr

/-- A drive channel record (R116). `stopPoint` is the back-off order's stop point (R128); `slowed` says that the
slow-down of this drive has been applied (R121); `reversal` that the brake running is the 40 ms one;
`stallTime` is absent while the stall watch does not measure. -/
structure Drive where
  connected : Option ActId
  phase : Phase
  direction : Option Direction
  duty : Nat
  kind : Option MotionKind
  endKind : Option EndKind
  aim : Nat
  stopPoint : Nat
  cls : Option SpeedClass
  slowed : Bool
  blanking : Bool
  stallTime : Option Nat
  saturation : Nat
  makeTimer : Option Nat
  brakeTimer : Option Nat
  reversal : Bool
  failed : Bool
  deriving DecidableEq, Repr

/-! ### Load Monitor -/

/-- Classification modes (R135). -/
inductive ClassMode where
  | profile | absolute
  deriving DecidableEq, Repr

/-- Phases of a learn sweep (R151). -/
inductive LearnPhase where
  | home | rise | back
  deriving DecidableEq, Repr

/-- The learn record of a learn lane (R151). -/
structure LearnRec where
  phase : LearnPhase
  startPosition : Nat
  startReferenced : Bool
  bins : Vector (Nat × Nat) 32
  travel : Option Nat
  deriving DecidableEq, Repr

/-- The load context of a lane (R134): drive part (`filtered` to `deviation`), step part, and a learn lane's learn
record. -/
structure Load where
  filtered : Option Nat
  samples : Nat
  blanking : Nat
  mode : ClassMode
  marginSoft : Nat
  marginFirm : Nat
  softRun : Nat
  firmRun : Nat
  absRun : Nat
  deviation : Option Int
  softHandled : Bool
  eligible : Bool
  bins : Vector (Nat × Nat) 32
  origin : Option Nat
  learn : Option LearnRec
  deriving DecidableEq, Repr

/-- What a load sample is classified as (R141). -/
inductive LoadOutcome where
  | none | soft | firm
  deriving DecidableEq, Repr

/-! ### Presence Unit -/

/-- Channel kinds (R159). -/
inductive ChanKind where
  | seat | edge | ref
  deriving DecidableEq, Repr

/-- Channel states (R160). -/
inductive ChanState where
  | starting | clear | near | contact | tuning
  deriving DecidableEq, Repr

/-- The stored fields of a presence channel (R159). -/
structure ChannelCfg where
  guard : ZoneSet
  protects : ActSet
  nearThr : Nat
  contactThr : Nat
  weight : Nat
  haltTimeout : Nat
  reseedEnable : Bool
  gain : Nat
  tuneTarget : Nat
  deriving DecidableEq, Repr

/-- The runtime fields of a presence channel (R160). -/
structure ChanRun where
  state : ChanState
  guardLost : Bool
  filtered : Nat
  baseline : Nat
  nearRun : Nat
  contactRun : Nat
  nearRelease : Nat
  contactRelease : Nat
  haltTimer : Option Nat
  driftTimer : Option Nat
  seedCount : Nat
  seedSum : Nat
  deriving DecidableEq, Repr

/-- A tune in progress (R172, R173). The channel's own gain, baseline and filtered count are not touched while it
runs, so the saved gain is the channel's gain; `bit` is the weight of the trial's bit. -/
structure Tune where
  channel : ChanId
  savedBaseline : Nat
  savedFiltered : Nat
  savedState : ChanState
  bit : Nat
  trialGain : Nat
  kept : Option Nat
  sum : Nat
  count : Nat
  deriving DecidableEq, Repr

/-- The Presence Unit beside its channels: the tuning queue, the tune in progress, the reseed count, the last
reseeded channel, and the time to the next sample round. -/
structure Presence where
  queue : ChanSet
  tune : Option Tune
  reseedCount : Nat
  lastReseeded : Option ChanId
  roundTimer : Option Nat
  deriving DecidableEq, Repr

/-! ### Vehicle Monitor -/

/-- Ignition, codes 0 to 2. -/
inductive Ignition where
  | off | acc | run
  deriving DecidableEq, Repr

/-- The held Vehicle State (R180). -/
structure VehicleState where
  speed : Nat
  park : Bool
  ignition : Ignition
  rearLeftOpen : Bool
  rearRightOpen : Bool
  tailgateOpen : Bool
  sleepPermit : Bool
  deriving DecidableEq, Repr

/-- The Vehicle State with its freshness (R181) and the store freeze (R183). -/
structure Vehicle where
  held : VehicleState
  fresh : Bool
  freshTimer : Option Nat
  freeze : Bool
  deriving DecidableEq, Repr

/-- The supply monitor (R184, R185). `pin` is the motor supply in mV that the environment last presented;
`measured` the latest measurement in mV. -/
structure Supply where
  pin : Nat
  measured : Nat
  timer : Option Nat
  lowRun : Nat
  low : Bool
  deriving DecidableEq, Repr

/-- Power modes (section 9.4). -/
inductive PowerMode where
  | active | doze | sleep
  deriving DecidableEq, Repr

/-- Restart causes, in the order of their codes 1 to 4 (R192). -/
inductive Cause where
  | powerOn | brownout | resetLine | testerRestart
  deriving DecidableEq, Repr

/-- The power mode with its timers, a SLEEP condition that waits for a service write (R189), and the restart
notice (R193). -/
structure Power where
  mode : PowerMode
  dozeTimer : Option Nat
  silenceTimer : Option Nat
  silenceExpired : Bool
  sleepWaiting : Bool
  notice : Option Cause
  deriving DecidableEq, Repr

/-- Where the part stands in a start-up: none running, the restart start-up held back by the supply (R186), the
restart start-up loading the store (R192), or the wake start-up (R191). -/
inductive StartUp where
  | running
  | held (c : Cause)
  | loading (c : Cause)
  | wake
  deriving DecidableEq, Repr

/-! ### Request Unit -/

/-- Verdicts, in the order of their codes 0 to 19 (R65). -/
inductive Verdict where
  | accepted | notReady | badRequest | noRecipe | notPermitted | outOfReach | stationCondition
  | interlock | supplyLow | planInvalid | occupied | conflict | noLane | notActive | notOwner
  | superseded | preemptPending | storeFrozen | storeBusy | serviceRefused
  deriving DecidableEq, Repr

/-- The object of a history entry (R66). -/
inductive ReqObject where
  | recipe (n : RecipeId)
  | actuator (a : ActId)
  | mask (m : LaneSet)
  deriving DecidableEq, Repr

/-- A request history entry (R66). -/
structure HistEntry where
  station : Station
  tag : Byte
  kind : Byte
  object : Option ReqObject
  verdict : Verdict
  time : Nat
  deriving DecidableEq, Repr

/-- A decoded RUN or LEARN request (R43); LEARN reads no advance mode and no preempt flag. -/
inductive RunReq where
  | recipe (mode : AdvanceMode) (preempt : Bool) (n : RecipeId)
  | step (mode : AdvanceMode) (preempt : Bool) (a : ActId) (t : Target) (c : SpeedClass) (p : Policy)
  | learn (a : ActId)
  deriving DecidableEq, Repr

/-- Addressing of a command (R43). -/
inductive Addressing where
  | byTag
  | byMask (m : LaneSet)
  deriving DecidableEq, Repr

/-- The pending-preempt slot's contents (R62). -/
structure Preempt where
  station : Station
  tag : Byte
  run : RunReq
  awaited : LaneSet
  deriving DecidableEq, Repr

/-- The Request Unit's state (section 3.8): start-up flag, held waking request, pending-preempt slot, and the
request history, oldest entry first. -/
structure RequestUnit where
  ready : Bool
  held : Option (Station × List Byte)
  slot : Option Preempt
  history : List HistEntry
  deriving DecidableEq, Repr

/-! ### Fault Log and Settings Store -/

/-- Fault log kinds, in the order of R197's table. -/
inductive LogKind where
  | firmContact | reverseBlocked | driveFault | learnFailed | storeCorrupt
  deriving DecidableEq, Repr

/-- Settings groups, in the order of R194's table. -/
inductive Group where
  | actuators | channels | steps | recipes | general | counters | faultLog
  deriving DecidableEq, Repr

/-- A fault log entry (R197); `preceding` holds the history copies, oldest first. -/
structure LogEntry where
  sequence : Nat
  kind : LogKind
  restartCount : Nat
  time : Nat
  mode : PowerMode
  lane : Option LaneId
  actuator : Option ActId
  position : Option Nat
  deviation : Option Int
  arrangement : Option (Station × Byte)
  group : Option Group
  preceding : List HistEntry
  deriving DecidableEq, Repr

/-- The seven settings groups' contents (R194); the log's oldest entry is first. -/
structure Settings where
  actuators : Vector ActuatorRec 10
  channels : Vector ChannelCfg 12
  steps : Vector StepRec 96
  recipes : Vector RecipeRec 16
  dozeTime : Nat
  lifetime : Nat
  restartCount : Nat
  log : List LogEntry
  deriving DecidableEq, Repr

/-- Writable and readable fields of an actuator record, in field-number order (R1, R2, section 11.1). -/
inductive ActField where
  | travel | sense | dutyCreep | dutyNormal | dutyFast | softMargin | firmMargin
  | sweep (q : Fin 4) | profile (b : Fin 32)
  | storedPosition | storedReferenced | motionMark | position | referenced | binding | manualPulses
  deriving DecidableEq, Repr

/-- Fields of a presence channel (R159, and the runtime fields of R160 that R177 names). -/
inductive ChanField where
  | guard | protects | nearThr | contactThr | weight | haltTimeout | reseedEnable | gain | tuneTarget
  | state | guardLost | filtered | baseline
  deriving DecidableEq, Repr

/-- Fields of a step record; a gate takes three field numbers (section 11.1). -/
inductive StepField where
  | actuator | target | cls | policy | dwell | extraZones | gateAct | gateRel | gatePos | next
  deriving DecidableEq, Repr

/-- Fields of a recipe record (R30). -/
inductive RecipeField where
  | valid | trackA | trackB | permitted | holdRequired
  deriving DecidableEq, Repr

/-- Fields of COUNTERS (section 11.1). -/
inductive CounterField where
  | lifetime | restartCount | notice
  deriving DecidableEq, Repr

/-- Fields of a history copy, in the row order of R66; the time takes two field numbers, high half first. -/
inductive HistField where
  | station | tag | kind | object | verdict | timeHigh | timeLow
  deriving DecidableEq, Repr

/-- Fields of a log entry, in the row order of R197; the time takes two field numbers, high half first. -/
inductive LogField where
  | sequence | kind | restartCount | timeHigh | timeLow | mode | lane | actuator | position | deviation
  | arrangement | group | preceding (copy : Fin 4) (f : HistField)
  deriving DecidableEq, Repr

/-- A field that a service frame names (R199). -/
inductive FieldRef where
  | actuator (a : ActId) (f : ActField)
  | channel (c : ChanId) (f : ChanField)
  | step (n : StepId) (f : StepField)
  | recipe (n : RecipeId) (f : RecipeField)
  | dozeTime
  | counter (f : CounterField)
  | log (i : Nat) (f : LogField)
  deriving DecidableEq, Repr

/-- What a service read finds (R199): a value coded in 16 bits, the indication absent, or no such log entry. -/
inductive ReadResult where
  | value (v : BitVec 16)
  | absent
  | notActive
  deriving DecidableEq, Repr

/-- A store-changing service operation in progress, with its tag (R200, R202). -/
inductive SvcOp where
  | write (tag : Byte) (f : FieldRef) (v : BitVec 16)
  | clearLog (tag : Byte)
  | factoryProfile (tag : Byte) (a : ActId)
  deriving DecidableEq, Repr

/-- The service side of the Fault Log & Store: the operation in progress with its 10 ms timer, and the service frame
held from a wake (R191). -/
structure ServiceUnit where
  busy : Option SvcOp
  timer : Option Nat
  held : Option (List Byte)
  deriving DecidableEq, Repr

/-! ### Status Reporter and transmission -/

/-- The seven pending-change flags (section 11.4). -/
inductive Flag where
  | lane (l : LaneId) | positions | sets | general
  deriving DecidableEq, Repr

/-- The Status Reporter: the flags, the coalescing timer and the period timer (R206, R207). `batched` says that the
coalescing timer has expired at this very moment, for a period timer that expires together with it. -/
structure Reporter where
  lanes : LaneSet
  positions : Bool
  sets : Bool
  general : Bool
  coalesce : Option Nat
  period : Option Nat
  batched : Bool
  deriving DecidableEq, Repr

/-- A frame that the part sends. -/
structure Frame where
  ident : BitVec 11
  data : List Byte
  deriving DecidableEq, Repr

/-- A transmit place (R207): one per identifier and page, and one per lane on 0x3B1. -/
inductive Place where
  | lane (l : LaneId) (page1 : Bool)
  | positions
  | sets
  | general (page1 : Bool)
  deriving DecidableEq, Repr

/-- Transmission (R207): the replies in the order of their verdicts, and the status frames that wait, each in its
place. No command of the table takes a frame off the bus side. -/
structure Tx where
  replies : List Frame
  status : List (Place × Frame)
  deriving DecidableEq, Repr

end Sys2Proof.Machine
end

