-- ==== Sys2Proof/Machine/Figures.lean ====
section
/-! DEFINITION. The figures the spec fixes in the part: times in milliseconds, distances in counts, currents in mA,
voltages in mV, and the tables of section 2.3, 6.3 and 8.1. -/

namespace Sys2Proof.Machine

/-- WAIT_GATE gives up after 30 s (R73). -/
abbrev gateTime : Nat := 30000
/-- CLAIMING gives up after 30 s (R74). -/
abbrev claimTime : Nat := 30000
/-- PAUSED and WAIT_ADVANCE end after 120 s (R87). -/
abbrev pauseTime : Nat := 120000
/-- A hold lapses after 200 ms (R84). -/
abbrev holdTime : Nat := 200
/-- The fence clear timer, 1000 ms (R109). -/
abbrev clearTime : Nat := 1000
/-- The fence total timer, 10 s (R109). -/
abbrev totalTime : Nat := 10000
/-- The yield timer of a wait-list entry, 500 ms (R99). -/
abbrev yieldTime : Nat := 500
/-- The relay make time, 15 ms (R118). -/
abbrev makeTime : Nat := 15
/-- The brake, 50 ms (R124). -/
abbrev brakeTime : Nat := 50
/-- The reversal brake, 40 ms (R124). -/
abbrev reversalTime : Nat := 40
/-- A stall is 80 ms without a pulse (R125). -/
abbrev stallLimit : Nat := 80
/-- The run-on window, 100 ms (R4). -/
abbrev runOnTime : Nat := 100
/-- A drift timer, 5 s (R171). -/
abbrev driftTime : Nat := 5000
/-- A Vehicle State is fresh for 300 ms (R181). -/
abbrev freshTime : Nat := 300
/-- Bus silence, 2 s (R189). -/
abbrev silenceTime : Nat := 2000
/-- The supply monitor's own period, 10 ms (R184). -/
abbrev supplyPeriod : Nat := 10
/-- A store-changing service operation takes 10 ms (R200, R202). -/
abbrev serviceTime : Nat := 10
/-- The coalescing timer, 20 ms (R206). -/
abbrev coalesceTime : Nat := 20
/-- The status period while ACTIVE with a lane outside IDLE and OFFLINE, 200 ms (R207). -/
abbrev fastPeriod : Nat := 200
/-- The status period otherwise, 1000 ms (R207). -/
abbrev slowPeriod : Nat := 1000
/-- Sample rounds fall every 10 ms in ACTIVE (R162). -/
abbrev roundActive : Nat := 10
/-- Sample rounds fall every 100 ms in DOZE (R162). -/
abbrev roundDoze : Nat := 100

/-- The end window W (R11). -/
abbrev endWindow : Nat := 30
/-- The target tolerance (R11). -/
abbrev tolerance : Nat := 8
/-- The margin of a sweep span (R14). -/
abbrev sweepMargin : Nat := 24
/-- The back-off distance (R144). -/
abbrev backOffDistance : Nat := 40
/-- The manual pulses that unreference an actuator (R5). -/
abbrev manualLimit : Nat := 50

/-- Full scale of the current sensor (R129). -/
abbrev fullScale : Nat := 20000
/-- The absolute limit of R140. -/
abbrev absoluteLimit : Nat := 12000
/-- The flat profile value of a factory store and of R155. -/
abbrev flatProfile : Nat := 2500
/-- Blanking of a drive other than a back-off, in samples (R125, R137). -/
abbrev blankingLong : Nat := 60
/-- Blanking of a back-off, in samples (R125, R137). -/
abbrev blankingShort : Nat := 20
/-- A count of samples in a bin stops at 65535 (R134, R138). -/
abbrev binCountMax : Nat := 65535
/-- The notional travel of the learn accumulators is 4000 counts, so 4001 positions (R153). -/
abbrev learnPositions : Nat := 4001
/-- The smallest and largest travel (R1, R154). -/
abbrev travelMin : Nat := 200
abbrev travelMax : Nat := 4000
/-- Profile values range over 200 to 15000 mA (R1, R150, R155). -/
abbrev profileMin : Nat := 200
abbrev profileMax : Nat := 15000

/-- The supply-low threshold, 9.0 V (R185). -/
abbrev lowSupply : Nat := 9000
/-- The supply threshold of acceptance and RESUME, 9.5 V (R52, R58). -/
abbrev acceptSupply : Nat := 9500
/-- The supervisor's threshold, 6.0 V (R186). -/
abbrev brownoutSupply : Nat := 6000
/-- Ten low measurements bring supply-low into force (R185). -/
abbrev lowRunLimit : Nat := 10

/-- The drive starts at 250 ‰ and rises by 50 ‰ a sample (R119, R120). -/
abbrev startDuty : Nat := 250
abbrev dutyStep : Nat := 50

/-- Slow-down distance of a class (R120). -/
def slowDistance : SpeedClass → Nat
  | .creep => 0
  | .normal => 80
  | .fast => 120

/-- Coast allowance of a class (R120). -/
def coast : SpeedClass → Nat
  | .creep => 4
  | .normal => 12
  | .fast => 24

/-- The number of a station (R41). -/
def stationNo : Station → Nat
  | .body => 0
  | .pad2L => 1
  | .pad2R => 2
  | .pad3 => 3
  | .padCargo => 4
  | .tester => 5

/-- The station reach table (R33), bit n for An. -/
def reach : Station → ActSet
  | .body => 0b1111111111#10
  | .pad2L => 0b0000000111#10
  | .pad2R => 0b0000111000#10
  | .pad3 => 0b1111101101#10
  | .padCargo => 0b1111011011#10
  | .tester => 0b1111111111#10

/-- The kind of a presence channel (R159). -/
def chanKind (c : ChanId) : ChanKind :=
  if c.val < 4 then .seat else if c.val < 11 then .edge else .ref

/-- The reference channel P11 (R159). -/
abbrev refChan : ChanId := 11

/-- The identifiers of section 11. -/
abbrev replyIdent : BitVec 11 := 0x3B0#11
abbrev laneIdent : BitVec 11 := 0x3B1#11
abbrev positionsIdent : BitVec 11 := 0x3B2#11
abbrev setsIdent : BitVec 11 := 0x3B3#11
abbrev generalIdent : BitVec 11 := 0x3B4#11
abbrev serviceReplyIdent : BitVec 11 := 0x3BC#11

/-- All lanes, actuators, zones and channels in the order of their numbers. -/
def allLanes : List LaneId := [0, 1, 2, 3]
def allActs : List ActId := [0, 1, 2, 3, 4, 5, 6, 7, 8, 9]
def allZones : List ZoneId := [0, 1, 2, 3, 4, 5, 6, 7, 8, 9, 10, 11]
def allChans : List ChanId := [0, 1, 2, 3, 4, 5, 6, 7, 8, 9, 10, 11]
def allBins : List (Fin 32) := List.finRange 32
def allGroups : List Group := [.actuators, .channels, .steps, .recipes, .general, .counters, .faultLog]

/-- Entry i of a table. -/
abbrev put {α : Type} {n : Nat} (v : Vector α n) (i : Fin n) (x : α) : Vector α n := v.set i.val x i.isLt

/-- The table whose entry i is `f i`. -/
def tab {α : Type} {n : Nat} (f : Fin n → α) : Vector α n := ⟨⟨List.ofFn f⟩, by simp⟩

/-- Membership in a set coded one bit per member. -/
abbrev has {w : Nat} (s : BitVec w) (i : Fin w) : Bool := s.getLsbD i.val

/-- The set of one member. -/
def single {w : Nat} (i : Fin w) : BitVec w := BitVec.twoPow w i.val

/-- `a` is a subset of `b`. -/
def subset {w : Nat} (a b : BitVec w) : Bool := a &&& ~~~b == 0#w

/-- `a` and `b` share a member. -/
def meets {w : Nat} (a b : BitVec w) : Bool := a &&& b != 0#w

/-- The set of the lanes for which `p` holds. -/
def lanesWhere (p : LaneId → Bool) : LaneSet := BitVec.ofBoolListLE [p 0, p 1, p 2, p 3]

/-- The set of the zones for which `p` holds. -/
def zonesWhere (p : ZoneId → Bool) : ZoneSet :=
  BitVec.ofBoolListLE [p 0, p 1, p 2, p 3, p 4, p 5, p 6, p 7, p 8, p 9, p 10, p 11]

/-- The set of the actuators for which `p` holds. -/
def actsWhere (p : ActId → Bool) : ActSet :=
  BitVec.ofBoolListLE [p 0, p 1, p 2, p 3, p 4, p 5, p 6, p 7, p 8, p 9]

/-- The set of the channels for which `p` holds. -/
def chansWhere (p : ChanId → Bool) : ChanSet :=
  BitVec.ofBoolListLE [p 0, p 1, p 2, p 3, p 4, p 5, p 6, p 7, p 8, p 9, p 10, p 11]

end Sys2Proof.Machine
end

