-- ==== Sys2Proof/Machine/Factory.lean ====
section
/-! DEFINITION. Factory contents of the settings groups (R1, R13, R23, R38, R39, R159, R187, R195) and the values that
the blocks' records take at restart (R21, R98, R133, R158, R178, R180 and their like). -/

namespace Sys2Proof.Machine

/-- The factory travel of an actuator (section 1.1). -/
def factoryTravel (a : ActId) : Nat :=
  match a.val with
  | 0 | 3 => 3200
  | 2 | 5 => 900
  | 7 | 9 => 2400
  | _ => 1800

/-- The factory sweep map of an actuator, quarters q0 to q3 (R13), bit n for Zn. -/
def factorySweep (a : ActId) : Vector ZoneSet 4 :=
  match a.val with
  | 0 => #v[0x005#12, 0x005#12, 0x014#12, 0x014#12]
  | 1 => #v[0x004#12, 0x004#12, 0x004#12, 0x004#12]
  | 2 => #v[0x005#12, 0x005#12, 0x005#12, 0x005#12]
  | 3 => #v[0x00A#12, 0x00A#12, 0x028#12, 0x028#12]
  | 4 => #v[0x008#12, 0x008#12, 0x008#12, 0x008#12]
  | 5 => #v[0x00A#12, 0x00A#12, 0x00A#12, 0x00A#12]
  | 6 => #v[0x040#12, 0x050#12, 0x050#12, 0x050#12]
  | 7 => #v[0x040#12, 0x440#12, 0x500#12, 0x100#12]
  | 8 => #v[0x080#12, 0x0A0#12, 0x0A0#12, 0x0A0#12]
  | _ => #v[0x080#12, 0x880#12, 0xA00#12, 0x200#12]

/-- The factory record of an actuator (R1). -/
def factoryActuator (a : ActId) : ActuatorRec :=
  { travel := factoryTravel a, sense := .forward
    dutyCreep := 350, dutyNormal := 700, dutyFast := 950
    softMargin := 1500, firmMargin := 3000
    sweep := factorySweep a, profile := tab fun _ => flatProfile
    storedPosition := 0, storedReferenced := false, motionMark := false }

/-- The factory guard set of a channel (R159). -/
def factoryGuard (c : ChanId) : ZoneSet :=
  match c.val with
  | 0 => 0x004#12
  | 1 => 0x008#12
  | 2 => 0x040#12
  | 3 => 0x080#12
  | 4 => 0x001#12
  | 5 => 0x002#12
  | 6 => 0x010#12
  | 7 => 0x020#12
  | 8 => 0x100#12
  | 9 => 0x200#12
  | 10 => 0xC00#12
  | _ => 0#12

/-- The factory protected actuators of a channel (R159). -/
def factoryProtects (c : ChanId) : ActSet :=
  match c.val with
  | 0 => 0b0000000110#10
  | 1 => 0b0000110000#10
  | 2 => 0b0011000000#10
  | 3 => 0b1100000000#10
  | _ => 0#10

/-- The factory record of a presence channel (R159). -/
def factoryChannel (c : ChanId) : ChannelCfg :=
  { guard := factoryGuard c, protects := factoryProtects c
    nearThr := if chanKind c = .seat then 60 else 25
    contactThr := if chanKind c = .seat then 120 else 50
    weight := match chanKind c with
      | .seat => 50
      | .edge => 100
      | .ref => 0
    haltTimeout := if chanKind c = .edge then 60 else 0
    reseedEnable := decide (chanKind c = .edge)
    gain := 32, tuneTarget := 800 }

/-- An empty factory step record (R23). -/
def emptyStep : StepRec :=
  { actuator := none, target := .endLow, cls := .creep, policy := .pause, dwell := 0
    extraZones := none, gate := none, next := none }

/-- A factory step: every one has contact policy PAUSE and no extra zones (R38). -/
def factoryStepRec (a : ActId) (t : Target) (c : SpeedClass) (g : Option Gate) (d : Nat)
    (n : Option StepId) : StepRec :=
  { actuator := some a, target := t, cls := c, policy := .pause, dwell := d
    extraZones := none, gate := g, next := n }

/-- The factory steps 0 to 23 (R38). -/
def factoryStepList : List StepRec :=
  [ factoryStepRec 2 .endHigh .normal none 0 (some 1),
    factoryStepRec 0 .endLow .fast none 0 none,
    factoryStepRec 0 (.num 1600) .normal none 0 (some 3),
    factoryStepRec 2 .endLow .normal none 0 none,
    factoryStepRec 5 .endHigh .normal none 0 (some 5),
    factoryStepRec 3 .endLow .fast none 0 none,
    factoryStepRec 3 (.num 1600) .normal none 0 (some 7),
    factoryStepRec 5 .endLow .normal none 0 none,
    factoryStepRec 6 .endHigh .normal none 0 (some 9),
    factoryStepRec 7 .endHigh .normal (some ⟨6, .atLeast, 1750⟩) 50 none,
    factoryStepRec 8 .endHigh .normal none 0 (some 11),
    factoryStepRec 9 .endHigh .normal (some ⟨8, .atLeast, 1750⟩) 50 none ] ++
  [ factoryStepRec 7 .endLow .normal none 0 (some 13),
    factoryStepRec 6 .endLow .normal (some ⟨7, .atMost, 30⟩) 0 none,
    factoryStepRec 9 .endLow .normal none 0 (some 15),
    factoryStepRec 8 .endLow .normal (some ⟨9, .atMost, 30⟩) 0 none,
    factoryStepRec 0 .endLow .normal none 0 (some 17),
    factoryStepRec 1 .endHigh .normal none 0 none,
    factoryStepRec 3 .endLow .normal none 0 (some 19),
    factoryStepRec 4 .endHigh .normal none 0 none,
    factoryStepRec 1 .endLow .normal none 0 (some 21),
    factoryStepRec 0 (.num 1600) .normal none 0 none,
    factoryStepRec 4 .endLow .normal none 0 (some 23),
    factoryStepRec 3 (.num 1600) .normal none 0 none ]

/-- The factory step table: steps 24 to 95 are empty (R38). -/
def factorySteps : Vector StepRec 96 := ⟨⟨factoryStepList ++ List.replicate 72 emptyStep⟩, rfl⟩

/-- The factory recipes (R39, R30); permitted stations bit n for station n. -/
def factoryRecipe (n : RecipeId) : RecipeRec :=
  match n.val with
  | 0 => ⟨true, 0, none, 0b001011#6, false⟩
  | 1 => ⟨true, 2, none, 0b001011#6, false⟩
  | 2 => ⟨true, 4, none, 0b001101#6, false⟩
  | 3 => ⟨true, 6, none, 0b001101#6, false⟩
  | 4 => ⟨true, 8, some 10, 0b011001#6, true⟩
  | 5 => ⟨true, 12, some 14, 0b011001#6, true⟩
  | 6 => ⟨true, 16, some 18, 0b010001#6, true⟩
  | 7 => ⟨true, 20, some 22, 0b010111#6, false⟩
  | _ => ⟨false, 24, none, 0#6, false⟩

/-- The factory contents of the whole store (R195). -/
def factorySettings : Settings :=
  { actuators := tab factoryActuator, channels := tab factoryChannel
    steps := factorySteps, recipes := tab factoryRecipe
    dozeTime := 30, lifetime := 0, restartCount := 0, log := [] }

/-- A lane record after restart (R98). -/
def Lane.restart : Lane :=
  { state := .idle, pauseReason := none, resumePoint := none, owner := none, tag := none
    mode := none, plan := none, partner := none, currentStep := none, curAct := none, inline := none
    stepsCompleted := 0, bound := [], incidents := 0, holdTime := none, lastResult := none
    faultReason := none, stopDest := none, pendingOrder := none, ctx := none
    gateTimer := none, claimTimer := none, dwellTimer := none, clearTimer := none
    totalTimer := none, pauseTimer := none, lapseTimer := none }

/-- A drive channel after restart (R133). -/
def Drive.restart : Drive :=
  { connected := none, phase := .relayOpen, direction := none, duty := 0, kind := none
    endKind := none, aim := 0, stopPoint := 0, cls := none, slowed := false, blanking := false
    stallTime := none, saturation := 0, makeTimer := none, brakeTimer := none
    reversal := false, failed := false }

/-- The load context of a lane that runs nothing (R158). -/
def Load.restart : Load :=
  { filtered := none, samples := 0, blanking := blankingLong, mode := .absolute
    marginSoft := 0, marginFirm := 0, softRun := 0, firmRun := 0, absRun := 0
    deviation := none, softHandled := false, eligible := true
    bins := tab fun _ => (0, 0), origin := none, learn := none }

/-- An actuator's runtime record as R21 gives it from its stored fields. -/
def ActRun.loaded (r : ActuatorRec) : ActRun :=
  { position := min r.storedPosition r.travel
    referenced := !r.motionMark && r.storedReferenced
    binding := none, manualPulses := 0, lastPolarity := r.sense
    cond := .atRest, runOn := none }

/-- A presence channel after restart (R178): STARTING, runs 0, no timer; `filtered` and `baseline` are set at the end of
seeding, and hold 0 until then. -/
def ChanRun.restart : ChanRun :=
  { state := .starting, guardLost := false, filtered := 0, baseline := 0
    nearRun := 0, contactRun := 0, nearRelease := 0, contactRelease := 0
    haltTimer := none, driftTimer := none, seedCount := 0, seedSum := 0 }

/-- The Presence Unit after restart (R178). -/
def Presence.restart : Presence :=
  { queue := 0, tune := none, reseedCount := 0, lastReseeded := none, roundTimer := none }

/-- The held Vehicle State after restart (R180): stale, freeze clear (R183). -/
def Vehicle.restart : Vehicle :=
  { held := { speed := 255, park := false, ignition := .off, rearLeftOpen := false
              rearRightOpen := false, tailgateOpen := false, sleepPermit := false }
    fresh := false, freshTimer := none, freeze := false }

/-- The Request Unit after restart (section 3.8). -/
def RequestUnit.restart : RequestUnit :=
  { ready := false, held := none, slot := none, history := [] }

/-- The service side after restart (R204). -/
def ServiceUnit.restart : ServiceUnit := { busy := none, timer := none, held := none }

/-- The Status Reporter after restart (R207). -/
def Reporter.restart : Reporter :=
  { lanes := 0, positions := false, sets := false, general := false, coalesce := none, period := none, batched := false }

end Sys2Proof.Machine
end

