-- ==== Sys2Proof/Machine/Checksum.lean ====
section
/-! DEFINITION. The settings groups as stored bytes, and their checksums (R194). The order and the widths of the bytes
are the model's: DESIGN CHOICE (log entry 6). -/

namespace Sys2Proof.Machine

open Sys2Proof (Byte)

/-- A group's place in R194's table. -/
def groupNo : Group → Fin 7
  | .actuators => 0
  | .channels => 1
  | .steps => 2
  | .recipes => 3
  | .general => 4
  | .counters => 5
  | .faultLog => 6

/-- The group at a place of R194's table. -/
def groupAt (i : Fin 7) : Group :=
  match i with
  | 0 => .actuators
  | 1 => .channels
  | 2 => .steps
  | 3 => .recipes
  | 4 => .general
  | 5 => .counters
  | 6 => .faultLog

/-! ### The contents as 16-bit words, one word for each field -/

/-- An optional field as a word: 0 for absent. -/
def optWord (x : Option Nat) : Nat := x.elim 0 (· + 1)

/-- The code of a target field (section 11.1). -/
def Target.word : Target → Nat
  | .endLow => 0xFFF0
  | .endHigh => 0xFFF1
  | .num n => n

/-- A signed field in two's complement. -/
def intWord (x : Int) : Nat := (x % 65536).toNat

/-- A time in milliseconds, high half first. -/
def timeWords (t : Nat) : List Nat := [t / 65536, t % 65536]

/-- The words of an actuator record (R1). -/
def ActuatorRec.words (r : ActuatorRec) : List Nat :=
  [r.travel, (decide (r.sense = .reverse)).toNat, r.dutyCreep, r.dutyNormal, r.dutyFast, r.softMargin, r.firmMargin] ++
    r.sweep.toList.map BitVec.toNat ++ r.profile.toList ++
    [r.storedPosition, r.storedReferenced.toNat, r.motionMark.toNat]

/-- The words of a presence channel record (R159). -/
def ChannelCfg.words (r : ChannelCfg) : List Nat :=
  [r.guard.toNat, r.protects.toNat, r.nearThr, r.contactThr, r.weight, r.haltTimeout, r.reseedEnable.toNat, r.gain,
    r.tuneTarget]

/-- The words of a step record (R23). -/
def StepRec.words (r : StepRec) : List Nat :=
  [optWord (r.actuator.map Fin.val), r.target.word, r.cls.ctorIdx, r.policy.ctorIdx, r.dwell,
    optWord (r.extraZones.map BitVec.toNat), optWord (r.gate.map fun g => g.act.val),
    optWord (r.gate.map fun g => g.rel.ctorIdx), optWord (r.gate.map fun g => g.pos), optWord (r.next.map Fin.val)]

/-- The words of a recipe record (R30). -/
def RecipeRec.words (r : RecipeRec) : List Nat :=
  [r.valid.toNat, r.trackA.val, optWord (r.trackB.map Fin.val), r.permitted.toNat, r.holdRequired.toNat]

/-- The words of a request's object (R66): a sort and a value. -/
def ReqObject.words : ReqObject → List Nat
  | .recipe n => [1, n.val]
  | .actuator a => [2, a.val]
  | .mask m => [3, m.toNat]

/-- The words of a history copy (R66). -/
def HistEntry.words (e : HistEntry) : List Nat :=
  [stationNo e.station, e.tag.toNat, e.kind.toNat] ++ (e.object.map ReqObject.words).getD [0, 0] ++
    [e.verdict.ctorIdx] ++ timeWords e.time

/-- The words of a fault log entry (R197), a sort and a value for each optional field. -/
def LogEntry.words (e : LogEntry) : List Nat :=
  [e.sequence, e.kind.ctorIdx, e.restartCount] ++ timeWords e.time ++
    [e.mode.ctorIdx, optWord (e.lane.map Fin.val), optWord (e.actuator.map Fin.val), optWord e.position,
      e.deviation.isSome.toNat, intWord (e.deviation.getD 0),
      optWord (e.arrangement.map fun x => stationNo x.1), optWord (e.arrangement.map fun x => x.2.toNat),
      optWord (e.group.map Group.ctorIdx), e.preceding.length] ++ e.preceding.flatMap HistEntry.words

/-- The words of a settings group (R194). -/
def Settings.words (t : Settings) : Group → List Nat
  | .actuators => t.actuators.toList.flatMap ActuatorRec.words
  | .channels => t.channels.toList.flatMap ChannelCfg.words
  | .steps => t.steps.toList.flatMap StepRec.words
  | .recipes => t.recipes.toList.flatMap RecipeRec.words
  | .general => [t.dozeTime]
  | .counters => [t.lifetime, t.restartCount]
  | .faultLog => t.log.length :: t.log.flatMap LogEntry.words

/-! ### Checksums -/

/-- The byte sum of a list of words, each stored as two bytes. -/
def byteSum (ws : List Nat) : Nat := ws.foldl (fun n w => n + w / 256 % 256 + w % 256) 0

/-- The checksum of a group (R194): the two's complement of the byte sum of its contents. -/
def Settings.checksum (t : Settings) (g : Group) : Byte := -(BitVec.ofNat 8 (byteSum (t.words g)))

/-- The checksums of all groups, in the order of R194's table. -/
def Settings.checksums (t : Settings) : Vector Byte 7 := tab fun i => t.checksum (groupAt i)

/-- A group's contents and a checksum together sum to 0 modulo 256 (R194). -/
def sumsToZero (t : Settings) (g : Group) (c : Byte) : Bool := BitVec.ofNat 8 (byteSum (t.words g)) + c == 0#8

end Sys2Proof.Machine
end

