-- ==== Sys2Proof/Machine/State.lean ====
section
/-! DEFINITION. The state of the block, its faults and refusals, and the state right after reset. -/

namespace Sys2Proof.Machine

open Sys2Proof (Byte LaneId ActId ZoneId ChanId Instr)

/-- The whole state. Every field but `pending` is the spec's; INVENTORY.md names the rule of each. A view that the spec
derives (the fence set, the guard-lost view, a lane's held zones, the interlock, the relay matrix, the yield
demand) is computed from these fields and not stored again. -/
structure State where
  /-- The commands that wait, first in first out (the model's own). -/
  pending : List Instr
  /-- Milliseconds since the last restart (R66). -/
  now : Nat
  /-- The start-up in progress (R191, R192). -/
  startUp : StartUp
  /-- The RAM copies of the settings groups (section 10). -/
  ram : Settings
  /-- The stored settings groups (R194). -/
  store : Settings
  /-- The checksum byte of each stored group, in the order of R194's table. -/
  checksums : Vector Byte 7
  /-- Runtime fields of the actuators (R2). -/
  acts : Vector ActRun 10
  /-- Zone holders (R16). -/
  holders : Vector (Option LaneId) 12
  /-- Lane records (R67). -/
  lanes : Vector Lane 4
  /-- The wait list, oldest entry first (R99). -/
  waitList : List WaitEntry
  /-- Drive channel records (R116). -/
  drives : Vector Drive 4
  /-- Load contexts (R134). -/
  loads : Vector Load 4
  /-- Runtime fields of the presence channels (R160). -/
  chans : Vector ChanRun 12
  /-- Tuning queue, tune in progress, reseed count, round timer (section 8). -/
  presence : Presence
  /-- The held Vehicle State (R180), freshness and freeze. -/
  vehicle : Vehicle
  /-- The supply monitor (R184, R185). -/
  supply : Supply
  /-- The power mode and its timers (R187, R189), and the restart notice (R193). -/
  power : Power
  /-- The Request Unit (section 3.8). -/
  request : RequestUnit
  /-- The service side of the Fault Log & Store (R199 to R203). -/
  service : ServiceUnit
  /-- The Status Reporter (R206, R207). -/
  report : Reporter
  /-- Frames handed to the bus (R65, R207). -/
  tx : Tx
  deriving DecidableEq, Repr

/-- The reasons for a fault: there are none, because the spec gives every command of the table an effect in every state
and names no event that stops the part. -/
inductive Fault where
  deriving DecidableEq, Repr

/-- The reasons for a refusal. -/
inductive Refusal where
  /-- Raised by an arm of `exec` that has no meaning yet; safe. -/
  | notModelled (mnemonic : String)
  /-- Raised by a meaning whose operands spell no command of its row (`Instr.wf` is false): a frame of another row, or a
  voltage on the wrong side of 6.0 V. No such command can reach the part; safe. -/
  | notACommand
  deriving DecidableEq, Repr

/-- The outcome of a command. -/
abbrev Out : Type := Host.Outcome State Fault Refusal

/-- The part right after a POWER_ON restart has begun (R192 steps 1 and 2): restart values taken, supply measured, the
settings store not yet loaded. The store holds the factory contents (log entry 3). -/
def State.reset : State :=
  { pending := [], now := 0, startUp := .loading .powerOn
    ram := factorySettings, store := factorySettings
    checksums := factorySettings.checksums
    acts := tab fun a => ActRun.loaded (factoryActuator a)
    holders := tab fun _ => none
    lanes := tab fun _ => Lane.restart
    waitList := []
    drives := tab fun _ => Drive.restart
    loads := tab fun _ => Load.restart
    chans := tab fun _ => ChanRun.restart
    presence := Presence.restart
    vehicle := Vehicle.restart
    supply := { pin := Config.resetSupply, measured := Config.resetSupply, timer := some supplyPeriod
                lowRun := 0, low := false }
    power := { mode := .active, dozeTimer := some 30000, silenceTimer := some silenceTime
               silenceExpired := false, sleepWaiting := false, notice := none }
    request := RequestUnit.restart
    service := ServiceUnit.restart
    report := Reporter.restart
    tx := { replies := [], status := [] } }

end Sys2Proof.Machine
end

