-- ==== Sys2Proof/Machine/Clock.lean ====
section
/-! DEFINITION. The passing of time (log entry 1): every running timer counts down, the time since restart and a running
stall measurement count up. Time alone expires nothing: an expiry is a command of its own. -/

namespace Sys2Proof.Machine

/-- A running timer after `ms` milliseconds, held at 0 until its expiry is taken. -/
def elapse (ms : Nat) (t : Option Nat) : Option Nat := t.map fun x => x - ms

/-- A lane's timers after `ms` milliseconds. -/
def Lane.elapsed (ms : Nat) (r : Lane) : Lane :=
  { r with
    gateTimer := elapse ms r.gateTimer, claimTimer := elapse ms r.claimTimer
    dwellTimer := elapse ms r.dwellTimer, clearTimer := elapse ms r.clearTimer
    totalTimer := elapse ms r.totalTimer, pauseTimer := elapse ms r.pauseTimer
    lapseTimer := elapse ms r.lapseTimer }

/-- A drive channel's timers and stall measurement (R125) after `ms` milliseconds. -/
def Drive.elapsed (ms : Nat) (d : Drive) : Drive :=
  { d with
    makeTimer := elapse ms d.makeTimer, brakeTimer := elapse ms d.brakeTimer
    stallTime := d.stallTime.map fun x => x + ms }

/-- A presence channel's timers after `ms` milliseconds. -/
def ChanRun.elapsed (ms : Nat) (x : ChanRun) : ChanRun :=
  { x with haltTimer := elapse ms x.haltTimer, driftTimer := elapse ms x.driftTimer }

/-- The state after `ms` milliseconds in which no command comes, a later moment than the commands before it; the time
since restart wraps at 2^32 (R66). -/
def passTime (ms : Nat) (s : State) : State :=
  { s with
    now := (s.now + ms) % 2 ^ 32
    acts := tab fun a => { s.acts[a] with runOn := elapse ms s.acts[a].runOn }
    lanes := tab fun l => s.lanes[l].elapsed ms
    waitList := s.waitList.map fun e => { e with yieldTimer := elapse ms e.yieldTimer }
    drives := tab fun l => s.drives[l].elapsed ms
    chans := tab fun c => s.chans[c].elapsed ms
    presence := { s.presence with roundTimer := elapse ms s.presence.roundTimer }
    vehicle := { s.vehicle with freshTimer := elapse ms s.vehicle.freshTimer }
    supply := { s.supply with timer := elapse ms s.supply.timer }
    power := { s.power with
      dozeTimer := elapse ms s.power.dozeTimer, silenceTimer := elapse ms s.power.silenceTimer }
    service := { s.service with timer := elapse ms s.service.timer }
    report := { s.report with
      coalesce := elapse ms s.report.coalesce, period := elapse ms s.report.period, batched := false } }

end Sys2Proof.Machine
end

