-- ==== Sys2Proof/Machine/Flags.lean ====
section
/-! DEFINITION. The conditions the spec derives from the state: idleness, the interlock, a current hold, held zones,
the fence set with its reasons, the guard-lost view, the motion states and the yield demand. -/

namespace Sys2Proof.Machine

open Sys2Proof (LaneId ActId ZoneId ChanId ZoneSet ActSet LaneSet Station)

/-- A lane state outside which a lane is busy: IDLE or OFFLINE. -/
def LaneState.free : LaneState → Bool
  | .idle | .offline => true
  | _ => false

/-- The five states that keep tuning suspended (R172, R175). -/
def LaneState.inMotion : LaneState → Bool
  | .arming | .moving | .reversing | .settling | .stopping => true
  | _ => false

/-- Every lane is IDLE or OFFLINE. -/
def allIdle (s : State) : Bool := allLanes.all fun l => s.lanes[l].state.free

/-- Some lane is in one of the five motion states of R172. -/
def anyMotion (s : State) : Bool := allLanes.any fun l => s.lanes[l].state.inMotion

/-- Some channel is DRIVING. -/
def anyDriving (s : State) : Bool := allLanes.any fun l => s.drives[l].phase = .driving

/-- The motion interlock of a vehicle record: fresh, at most 2 km/h, park engaged (R182). Speed 255 counts as above. -/
def Vehicle.interlock (v : Vehicle) : Bool := v.fresh && decide (v.held.speed ≤ 2) && v.held.park

/-- The motion interlock (R182). -/
def interlock (s : State) : Bool := s.vehicle.interlock

/-- The supply check of acceptance and RESUME: the latest measurement is at or above 9.5 V (R52, R58). -/
def supplyOk (s : State) : Bool := decide (acceptSupply ≤ s.supply.measured)

/-- A lane's hold is current while its lapse timer has not expired (R84). -/
def Lane.holdCurrent (r : Lane) : Bool := r.lapseTimer.isSome

/-- The station condition of R42, from the held Vehicle State, fresh or stale. -/
def stationCondition (s : State) : Station → Bool
  | .body | .tester => true
  | .pad2L => s.vehicle.held.rearLeftOpen
  | .pad2R => s.vehicle.held.rearRightOpen
  | .pad3 => s.vehicle.held.rearLeftOpen || s.vehicle.held.rearRightOpen
  | .padCargo => s.vehicle.held.tailgateOpen

/-- The doze time in ms (R187). -/
def dozeMs (s : State) : Nat := s.ram.dozeTime * 1000

/-- The zones that a lane holds (R16, R67). -/
def heldBy (s : State) (l : LaneId) : ZoneSet := zonesWhere fun z => s.holders[z] == some l

/-- The held zone set (R16). -/
def allHeld (s : State) : ZoneSet := zonesWhere fun z => s.holders[z].isSome

/-- The union of the guard sets of the channels for which `p` holds. -/
def guardUnion (s : State) (p : ChanRun → Bool) : ZoneSet :=
  allChans.foldl (fun z c => if p s.chans[c] then z ||| s.ram.channels[c].guard else z) 0#12

/-- The fenced view (R17): the fenced zones by fence reason. -/
structure FenceView where
  presence : ZoneSet
  starting : ZoneSet
  tuning : ZoneSet
  deriving DecidableEq, Repr

/-- The zones of a fenced view. -/
def FenceView.all (v : FenceView) : ZoneSet := v.presence ||| v.starting ||| v.tuning

/-- A fenced view cut down to a set of zones. -/
def FenceView.within (v : FenceView) (z : ZoneSet) : FenceView :=
  ⟨v.presence &&& z, v.starting &&& z, v.tuning &&& z⟩

/-- `v` with the zones of `z` taken from `w`. -/
def FenceView.refreshed (v w : FenceView) (z : ZoneSet) : FenceView :=
  ⟨(v.presence &&& ~~~z) ||| (w.presence &&& z), (v.starting &&& ~~~z) ||| (w.starting &&& z),
   (v.tuning &&& ~~~z) ||| (w.tuning &&& z)⟩

/-- A view in which nothing is fenced. -/
def FenceView.clear : FenceView := ⟨0#12, 0#12, 0#12⟩

/-- The fence set with reasons (R17): PRESENCE before STARTING before TUNING. -/
def fenceView (s : State) : FenceView :=
  let p := guardUnion s fun c => c.state = .near || c.state = .contact
  let st := guardUnion s fun c => c.state = .starting
  let t := guardUnion s fun c => c.state = .tuning
  { presence := p, starting := st &&& ~~~p, tuning := t &&& ~~~(p ||| st) }

/-- The fence set (R17). -/
def fenced (s : State) : ZoneSet := (fenceView s).all

/-- The guard-lost zones (R18). -/
def guardLostZones (s : State) : ZoneSet := guardUnion s fun c => c.guardLost

/-- The actuators that a SEAT channel outside CLEAR protects (R53). -/
def occupiedActs (s : State) : ActSet :=
  allChans.foldl (fun a c =>
    if chanKind c = .seat && s.chans[c].state ≠ .clear then a ||| s.ram.channels[c].protects else a) 0#10

/-- The actuators bound to some lane (R54). -/
def boundActs (s : State) : ActSet := actsWhere fun a => s.acts[a].binding.isSome

/-- An entry's wanted set is grantable when no zone of it is held or fenced (R101). -/
def grantable (s : State) (wanted : ZoneSet) : Bool := !meets wanted (allHeld s ||| fenced s)

/-- A wanted set is blocked by tuning alone (R114): nothing of it held, something of it fenced, and every fenced zone of
it with reason TUNING. -/
def blockedByTuning (s : State) (wanted : ZoneSet) : Bool :=
  let v := fenceView s
  !meets wanted (allHeld s) && meets wanted v.tuning && !meets wanted (v.presence ||| v.starting)

/-- The yield demand (R115). -/
def yieldDemand (s : State) : Bool := s.waitList.any fun e => e.yieldMade

/-- The lanes of the arrangement (station, tag) (R45, R46). -/
def arrangement (s : State) (st : Station) (tag : BitVec 8) : LaneSet :=
  lanesWhere fun l => s.lanes[l].owner == some st && s.lanes[l].tag == some tag && !s.lanes[l].state.free

/-- The lanes of any arrangement of a station (R47). -/
def ownedBy (s : State) (st : Station) : LaneSet :=
  lanesWhere fun l => s.lanes[l].owner == some st && !s.lanes[l].state.free

/-- The lanes that are OFFLINE, for the general status frame. -/
def offlineMask (s : State) : LaneSet := lanesWhere fun l => s.lanes[l].state = .offline

/-- The referenced set (R10). -/
def referencedSet (s : State) : ActSet := actsWhere fun a => s.acts[a].referenced

/-- The GUARD_LOST channels, for the general status frame. -/
def guardLostChans (s : State) : BitVec 12 := chansWhere fun c => s.chans[c].guardLost

/-- An actuator's reported value (R10). -/
def reported (position travel : Nat) : Nat := position * 200 / travel

/-- A service operation is in progress (R200 check 5). -/
def serviceBusy (s : State) : Bool := s.service.busy.isSome

end Sys2Proof.Machine
end

