-- ==== Sys2Proof/Machine/Codes.lean ====
section
/-! DEFINITION. The codes of section 11.3 and of R205, and the layouts of the frames that the part sends (section
11.2). -/

namespace Sys2Proof.Machine

open Sys2Proof (Byte LaneId ActId ZoneId Station)

/-- A verdict's code (R65). -/
def Verdict.code : Verdict → Nat
  | .accepted => 0
  | .notReady => 1
  | .badRequest => 2
  | .noRecipe => 3
  | .notPermitted => 4
  | .outOfReach => 5
  | .stationCondition => 6
  | .interlock => 7
  | .supplyLow => 8
  | .planInvalid => 9
  | .occupied => 10
  | .conflict => 11
  | .noLane => 12
  | .notActive => 13
  | .notOwner => 14
  | .superseded => 15
  | .preemptPending => 16
  | .storeFrozen => 17
  | .storeBusy => 18
  | .serviceRefused => 19

def LaneState.code : LaneState → Nat
  | .idle => 0
  | .waitGate => 1
  | .claiming => 2
  | .arming => 3
  | .moving => 4
  | .settling => 5
  | .stopping => 6
  | .reversing => 7
  | .fenced => 8
  | .dwell => 9
  | .waitAdvance => 10
  | .paused => 11
  | .faulted => 12
  | .offline => 13

def PauseReason.code : PauseReason → Nat
  | .halted => 1
  | .holdLapsed => 2
  | .softContact => 3
  | .firmContact => 4
  | .fenceTimeout => 5
  | .claimTimeout => 6
  | .gateTimeout => 7
  | .interlock => 8
  | .supply => 9
  | .partnerFault => 10

def Result.code : Result → Nat
  | .completed => 16
  | .cancelled => 17
  | .abandoned => 18
  | .preempted => 19
  | .faulted => 20

def FaultReason.code : FaultReason → Nat
  | .reverseBlocked => 1
  | .driveFault => 2
  | .learnFailed => 3

def AdvanceMode.code : AdvanceMode → Nat
  | .continuous => 0
  | .hold => 1
  | .stepwise => 2

def SpeedClass.code : SpeedClass → Nat
  | .creep => 0
  | .normal => 1
  | .fast => 2

def Policy.code : Policy → Nat
  | .pause => 0
  | .slow => 1

def Sense.code : Sense → Nat
  | .forward => 0
  | .reverse => 1

def Relation.code : Relation → Nat
  | .atLeast => 0
  | .atMost => 1

def ChanState.code : ChanState → Nat
  | .starting => 0
  | .clear => 1
  | .near => 2
  | .contact => 3
  | .tuning => 4

def Cause.code : Cause → Nat
  | .powerOn => 1
  | .brownout => 2
  | .resetLine => 3
  | .testerRestart => 4

/-- SLEEP sends no frame, so it has no code; it reads as ACTIVE would not. -/
def PowerMode.code : PowerMode → Nat
  | .active => 0
  | .doze => 1
  | .sleep => 2

def LogKind.code : LogKind → Nat
  | .firmContact => 0
  | .reverseBlocked => 1
  | .driveFault => 2
  | .learnFailed => 3
  | .storeCorrupt => 4

def Group.code : Group → Nat
  | .actuators => 0
  | .channels => 1
  | .steps => 2
  | .recipes => 3
  | .general => 4
  | .counters => 5
  | .faultLog => 6

/-- The target coding of R205. -/
def Target.code : Target → Nat
  | .endLow => 0xFFF0
  | .endHigh => 0xFFF1
  | .num n => n

/-- Yes and set are 1, no and clear 0 (log entry 20). -/
def boolCode (b : Bool) : Nat := if b then 1 else 0

/-- A byte of a number. -/
def byteOf (n : Nat) : Byte := BitVec.ofNat 8 n

/-- The byte n, or 0xFF when absent. -/
def byteOrFF (n : Option Nat) : Byte := byteOf (n.getD 0xFF)

/-- The kind code of a decoded RUN or LEARN request. -/
def RunReq.kind : RunReq → Byte
  | .recipe _ _ _ => 1#8
  | .step _ _ _ _ _ _ => 2#8
  | .learn _ => 3#8

/-- The history object of a decoded RUN or LEARN request. -/
def RunReq.object : RunReq → ReqObject
  | .recipe _ _ n => .recipe n
  | .step _ _ a _ _ _ => .actuator a
  | .learn a => .actuator a

/-- The reply frame (section 11.2). -/
def replyFrame (st : Station) (tag kind : Byte) (v : Verdict) (lanes : BitVec 4) (hold clamp : Bool) : Frame :=
  ⟨replyIdent, [byteOf (stationNo st), tag, kind, byteOf v.code,
    byteOf (lanes.toNat + 16 * boolCode hold + 32 * boolCode clamp)]⟩

/-- The service reply frame (section 11.2). -/
def serviceFrame (op tag : Byte) (v : Verdict) (absent : Bool) (value : BitVec 16) : Frame :=
  ⟨serviceReplyIdent, [op, tag, byteOf v.code, byteOf (boolCode absent),
    byteOf (value.toNat / 256), byteOf (value.toNat % 256)]⟩

/-- A lane status frame, page 0 (section 11.2). -/
def lanePage0 (s : State) (l : LaneId) : Frame :=
  let r := s.lanes[l]
  let result := (r.lastResult.map Result.code).getD 0
  ⟨laneIdent,
    [ byteOf l.val,
      byteOf r.state.code,
      byteOf (match r.state with
        | .paused => (r.pauseReason.map PauseReason.code).getD 0
        | .idle | .faulted | .offline => result
        | _ => 0),
      byteOrFF (r.owner.map stationNo),
      r.tag.getD 0#8,
      byteOrFF (r.currentStep.map fun c => match c with
        | .stored n => n.val
        | .inline => 0xFE),
      byteOrFF (r.curAct.map fun a => a.val),
      r.incidents.setWidth 8 ]⟩

/-- A lane status frame, page 1 (section 11.2). -/
def lanePage1 (s : State) (l : LaneId) : Frame :=
  let r := s.lanes[l]
  let held := (heldBy s l).toNat
  ⟨laneIdent,
    [ byteOf (l.val + 4),
      byteOf ((r.faultReason.map FaultReason.code).getD 0),
      byteOrFF (r.plan.map fun p => match p with
        | .recipe n b => n.val + 16 * boolCode b
        | .singleStep => 0x20
        | .learn => 0x40),
      byteOrFF (r.mode.map AdvanceMode.code),
      byteOrFF (r.partner.map fun p => p.val),
      byteOf r.stepsCompleted,
      byteOf (held / 256),
      byteOf (held % 256) ]⟩

/-- An actuator's reported value as a byte (R10). -/
def reportedByte (s : State) (a : ActId) : Byte :=
  byteOf (reported s.acts[a].position s.ram.actuators[a].travel)

/-- The positions frame (section 11.2). -/
def positionsFrame (s : State) : Frame :=
  ⟨positionsIdent, [0, 1, 2, 3, 4, 5, 6, 7].map fun a : ActId => reportedByte s a⟩

/-- A zone's two-bit fence code (section 11.2). -/
def fenceCode (v : FenceView) (z : ZoneId) : Nat :=
  if has v.presence z then 1 else if has v.starting z then 2 else if has v.tuning z then 3 else 0

/-- The three bytes of a 24-bit value, high byte first. -/
def bytes24 (n : Nat) : List Byte := [byteOf (n / 65536), byteOf (n / 256), byteOf n]

/-- The sets frame (section 11.2). -/
def setsFrame (s : State) : Frame :=
  let v := fenceView s
  let fences := allZones.foldl (fun n z => n + fenceCode v z * 4 ^ z.val) 0
  ⟨setsIdent, [reportedByte s 8, reportedByte s 9] ++ bytes24 fences ++
    bytes24 ((referencedSet s).toNat + (allHeld s).toNat * 4096)⟩

/-- The reported supply (R184): 0.1 V rounded down, at most 255. -/
def reportedSupply (mv : Nat) : Nat := min 255 (mv / 100)

/-- The general status frame, page 0 (section 11.2). -/
def generalPage0 (s : State) : Frame :=
  ⟨generalIdent,
    [ byteOf (s.power.mode.code + 4 * ((s.power.notice.map Cause.code).getD 0)
        + 32 * boolCode (interlock s) + 64 * boolCode s.vehicle.freeze),
      byteOf ((offlineMask s).toNat + 16 * boolCode s.supply.low),
      byteOf (reportedSupply s.supply.measured),
      byteOf (s.ram.lifetime / 256), byteOf (s.ram.lifetime % 256), 0#8, 0#8, 0#8 ]⟩

/-- The general status frame, page 1 (section 11.2). -/
def generalPage1 (s : State) : Frame :=
  let gl := (guardLostChans s).toNat % 2048
  ⟨generalIdent,
    [ 0x80#8, byteOf (s.ram.restartCount / 256), byteOf (s.ram.restartCount % 256),
      byteOf (gl / 256), byteOf (gl % 256), byteOf s.presence.reseedCount,
      byteOrFF (s.presence.lastReseeded.map fun c => c.val), 0#8 ]⟩

end Sys2Proof.Machine
end

