-- ==== Sys2Proof/Machine/Operands.lean ====
section
/-! DEFINITION. The operand forms of received frames: codes and layouts of sections 11.1 and 11.3 with the form checks of
R44, R180, R199 and R205. A decoder answers none where the form is refused. -/

namespace Sys2Proof.Machine

open Sys2Proof (Byte LaneId ActId ZoneId ChanId StepId RecipeId LaneSet Station)

/-- Byte i of a frame's data, 0 past its end. -/
def byteAt (data : List Byte) (i : Nat) : Byte := data.getD i 0#8

/-- Bits lo to lo + n - 1 of a byte, as a number. -/
def bits (b : Byte) (lo n : Nat) : Nat := b.toNat / 2 ^ lo % 2 ^ n

/-- A two-byte value, high byte first (section 11). -/
def wordAt (data : List Byte) (i : Nat) : Nat := (byteAt data i).toNat * 256 + (byteAt data (i + 1)).toNat

/-- A number below n, or none. -/
def below (n k : Nat) : Option (Fin n) := if h : k < n then some ⟨k, h⟩ else none

/-- Codes of the nine request kinds (section 11.3). -/
abbrev kindRunRecipe : Byte := 1#8
abbrev kindRunStep : Byte := 2#8
abbrev kindLearn : Byte := 3#8
abbrev kindHold : Byte := 4#8
abbrev kindHalt : Byte := 5#8
abbrev kindResume : Byte := 6#8
abbrev kindCancel : Byte := 7#8
abbrev kindClearFault : Byte := 8#8
abbrev kindAckRestart : Byte := 9#8

/-- Advance mode codes. -/
def modeOfCode : Nat → Option AdvanceMode
  | 0 => some .continuous
  | 1 => some .hold
  | 2 => some .stepwise
  | _ => none

/-- Speed class codes. -/
def classOfCode : Nat → Option SpeedClass
  | 0 => some .creep
  | 1 => some .normal
  | 2 => some .fast
  | _ => none

/-- Contact policy codes. -/
def policyOfCode : Nat → Option Policy
  | 0 => some .pause
  | 1 => some .slow
  | _ => none

/-- Ignition codes. -/
def ignitionOfCode : Nat → Option Ignition
  | 0 => some .off
  | 1 => some .acc
  | 2 => some .run
  | _ => none

/-- The target coding of the request frame (section 11.1). -/
def targetOfCode (v : Nat) : Option Target :=
  if v = 0xFFF0 then some .endLow
  else if v = 0xFFF1 then some .endHigh
  else if v ≤ 4000 then some (.num v)
  else none

/-- The preempt flag: bit 7, cleared on decoding from any station other than BODY (R43). -/
def preemptFlag (st : Station) (b : Byte) : Bool := b.getLsbD 7 && st = .body

/-- A RUN or LEARN request's fields (R43, R44), `body` being the bytes after the kind code; none is BAD_REQUEST. -/
def decodeRun (st : Station) (kind : Byte) (body : List Byte) : Option RunReq :=
  if kind = kindRunRecipe then
    if body.length < 3 then none
    else do
      let mode ← modeOfCode (bits (byteAt body 1) 0 2)
      let n ← below 16 (byteAt body 2).toNat
      pure (.recipe mode (preemptFlag st (byteAt body 1)) n)
  else if kind = kindRunStep then
    if body.length < 6 then none
    else do
      let mode ← modeOfCode (bits (byteAt body 1) 0 2)
      let a ← below 10 (byteAt body 2).toNat
      let t ← targetOfCode (wordAt body 3)
      let c ← classOfCode (bits (byteAt body 5) 0 2)
      let p ← policyOfCode (bits (byteAt body 5) 4 1)
      pure (.step mode (preemptFlag st (byteAt body 1)) a t c p)
  else if kind = kindLearn then
    if body.length < 2 then none
    else do
      let a ← below 10 (byteAt body 1).toNat
      pure (.learn a)
  else none

/-- The addressing of a command (R43, R44): BY_TAG reads no mask; a mask naming a lane above L3 is refused, and so is an
empty one unless `emptyOk`. -/
def decodeAddressing (emptyOk : Bool) (body : List Byte) : Option Addressing :=
  if body.length < 2 then none
  else
    let b := byteAt body 1
    if b.getLsbD 7 then
      let m := bits b 0 7
      if 15 < m then none
      else if m = 0 && !emptyOk then none
      else some (.byMask (BitVec.ofNat 4 m))
    else some .byTag

/-- A request's object, as far as it can be decoded, for the history (R66). -/
def decodeObject (kind : Byte) (body : List Byte) : Option ReqObject :=
  if kind = kindRunRecipe then
    if body.length < 3 then none else (below 16 (byteAt body 2).toNat).map .recipe
  else if kind = kindRunStep then
    if body.length < 3 then none else (below 10 (byteAt body 2).toNat).map .actuator
  else if kind = kindLearn then
    if body.length < 2 then none else (below 10 (byteAt body 1).toNat).map .actuator
  else if kind = kindHold || kind = kindHalt || kind = kindResume || kind = kindCancel || kind = kindClearFault then
    match decodeAddressing true body with
    | some (.byMask m) => some (.mask m)
    | _ => none
  else none

/-- The Vehicle State frame (R180, section 11.1); none is a discarded frame. -/
def decodeVehicle (data : List Byte) : Option VehicleState :=
  if data.length < 2 then none
  else
    let b := byteAt data 1
    match ignitionOfCode (bits b 1 2) with
    | none => none
    | some ig =>
      some { speed := (byteAt data 0).toNat, park := b.getLsbD 0, ignition := ig
             rearLeftOpen := b.getLsbD 3, rearRightOpen := b.getLsbD 4
             tailgateOpen := b.getLsbD 5, sleepPermit := b.getLsbD 6 }

/-- An actuator field by number and sub-index: R1 and R2 in row order (section 11.1). -/
def actField (n sub : Nat) : Option ActField :=
  match n with
  | 0 => some .travel
  | 1 => some .sense
  | 2 => some .dutyCreep
  | 3 => some .dutyNormal
  | 4 => some .dutyFast
  | 5 => some .softMargin
  | 6 => some .firmMargin
  | 7 => (below 4 sub).map .sweep
  | 8 => (below 32 sub).map .profile
  | 9 => some .storedPosition
  | 10 => some .storedReferenced
  | 11 => some .motionMark
  | 12 => some .position
  | 13 => some .referenced
  | 14 => some .binding
  | 15 => some .manualPulses
  | _ => none

/-- A channel field by number: R159 and the readable fields of R160 in row order. -/
def chanField (n : Nat) : Option ChanField :=
  match n with
  | 0 => some .guard
  | 1 => some .protects
  | 2 => some .nearThr
  | 3 => some .contactThr
  | 4 => some .weight
  | 5 => some .haltTimeout
  | 6 => some .reseedEnable
  | 7 => some .gain
  | 8 => some .tuneTarget
  | 9 => some .state
  | 10 => some .guardLost
  | 11 => some .filtered
  | 12 => some .baseline
  | _ => none

/-- A step field by number: R23 in row order, the gate taking three. -/
def stepField (n : Nat) : Option StepField :=
  match n with
  | 0 => some .actuator
  | 1 => some .target
  | 2 => some .cls
  | 3 => some .policy
  | 4 => some .dwell
  | 5 => some .extraZones
  | 6 => some .gateAct
  | 7 => some .gateRel
  | 8 => some .gatePos
  | 9 => some .next
  | _ => none

/-- A recipe field by number: R30 in row order. -/
def recipeField (n : Nat) : Option RecipeField :=
  match n with
  | 0 => some .valid
  | 1 => some .trackA
  | 2 => some .trackB
  | 3 => some .permitted
  | 4 => some .holdRequired
  | _ => none

/-- A history copy's field: R66 in row order, the time taking two. -/
def histField (n : Nat) : Option HistField :=
  match n with
  | 0 => some .station
  | 1 => some .tag
  | 2 => some .kind
  | 3 => some .object
  | 4 => some .verdict
  | 5 => some .timeHigh
  | 6 => some .timeLow
  | _ => none

/-- A log field by number and sub-index: R197 in row order, the time taking two; bits 4–5 of the sub-index select a
preceding-request copy and bits 0–3 its field. -/
def logField (n : Nat) (sub : Byte) : Option LogField :=
  match n with
  | 0 => some .sequence
  | 1 => some .kind
  | 2 => some .restartCount
  | 3 => some .timeHigh
  | 4 => some .timeLow
  | 5 => some .mode
  | 6 => some .lane
  | 7 => some .actuator
  | 8 => some .position
  | 9 => some .deviation
  | 10 => some .arrangement
  | 11 => some .group
  | 12 =>
    match below 4 (bits sub 4 2), histField (bits sub 0 4) with
    | some i, some f => some (.preceding i f)
    | _, _ => none
  | _ => none

/-- The field that a service frame names by object, index, field number and sub-index (R199, section 11.1); none when it
does not exist. GENERAL and COUNTERS have one record, so their index is not read; every LOG index is one, since R199
answers an index past the entries held with NOT_ACTIVE (log entry 20). -/
def decodeField (object index field sub : Byte) : Option FieldRef :=
  match object.toNat with
  | 0 => do
    let a ← below 10 index.toNat
    let f ← actField field.toNat sub.toNat
    pure (.actuator a f)
  | 1 => do
    let c ← below 12 index.toNat
    let f ← chanField field.toNat
    pure (.channel c f)
  | 2 => do
    let n ← below 96 index.toNat
    let f ← stepField field.toNat
    pure (.step n f)
  | 3 => do
    let n ← below 16 index.toNat
    let f ← recipeField field.toNat
    pure (.recipe n f)
  | 4 => if field.toNat = 0 then some .dozeTime else none
  | 5 =>
    match field.toNat with
    | 0 => some (.counter .lifetime)
    | 1 => some (.counter .restartCount)
    | 2 => some (.counter .notice)
    | _ => none
  | 6 => do
    let f ← logField field.toNat sub
    pure (.log index.toNat f)
  | _ => none

end Sys2Proof.Machine
end

