-- ==== Sys2Proof/Machine/Ops.lean ====
section
/-! DEFINITION. The named operations over the state's records: marking status frames, writing lanes, actuators,
channels, zone holders and settings, the return to ACTIVE, tune suspension, and fault log entries. -/

namespace Sys2Proof.Machine

open Sys2Proof (Byte LaneId ActId ZoneId ChanId ZoneSet ActSet LaneSet ChanSet GroupSet Station)

/-! ### Status marks -/

/-- A mark may start the coalescing timer: not before step 4 of the restart start-up (R207), and not in SLEEP, where
nothing is transmitted (R190). -/
def mayCoalesce (s : State) : Bool :=
  (match s.startUp with
    | .running | .wake => true
    | .held _ | .loading _ => false) && s.power.mode ≠ .sleep

/-- The flags with one more set. -/
def Reporter.flagged (r : Reporter) : Flag → Reporter
  | .lane l => { r with lanes := r.lanes ||| single l }
  | .positions => { r with positions := true }
  | .sets => { r with sets := true }
  | .general => { r with general := true }

/-- Mark a status frame (R206): its flag is set, and the coalescing timer starts if it is not running. -/
def mark (f : Flag) (s : State) : State :=
  let r := s.report.flagged f
  { s with report := if r.coalesce.isNone && mayCoalesce s then { r with coalesce := some coalesceTime } else r }

/-- `mark` when `b`. -/
def markIf (b : Bool) (f : Flag) (s : State) : State := if b then mark f s else s

/-! ### Settings -/

/-- A write to a settings group (R194, R196, R201): the RAM copy and the store change together, and the group's checksum
is computed again from its contents as they then stand. -/
def writeGroup (g : Group) (f : Settings → Settings) (s : State) : State :=
  { s with
    ram := f s.ram, store := f s.store
    checksums := put s.checksums (groupNo g) ((f s.store).checksum g) }

/-- Settings with one actuator record changed. -/
def Settings.onActuator (a : ActId) (f : ActuatorRec → ActuatorRec) (t : Settings) : Settings :=
  { t with actuators := put t.actuators a (f t.actuators[a]) }

/-- Settings with one presence channel record changed. -/
def Settings.onChannel (c : ChanId) (f : ChannelCfg → ChannelCfg) (t : Settings) : Settings :=
  { t with channels := put t.channels c (f t.channels[c]) }

/-- A write to the stored fields of an actuator. -/
def writeActuator (a : ActId) (f : ActuatorRec → ActuatorRec) (s : State) : State :=
  writeGroup .actuators (Settings.onActuator a f) s

/-- The motion mark is set at the end of ARMING (R8). -/
def setMotionMark (a : ActId) (s : State) : State := writeActuator a (fun r => { r with motionMark := true }) s

/-- The capture at the end of SETTLING or STOPPING (R8). -/
def capture (a : ActId) (s : State) : State :=
  let x := s.acts[a]
  writeActuator a (fun r =>
    { r with storedPosition := x.position, storedReferenced := x.referenced, motionMark := false }) s

/-! ### Actuators -/

/-- Write an actuator's runtime record and mark what R10 and R206 say: the position frame when its reported value
changes, the sets frame when its referenced field changes. -/
def updAct (a : ActId) (f : ActRun → ActRun) (s : State) : State :=
  let old := s.acts[a]
  let new := f old
  let t := s.ram.actuators[a].travel
  let s' := { s with acts := put s.acts a new }
  let moved := reported old.position t != reported new.position t
  let s' := markIf moved (if a.val < 8 then .positions else .sets) s'
  markIf (old.referenced != new.referenced) .sets s'

/-- The supply monitor's own timer restarts when no channel drives any more (R184). -/
def resumeSupplyTimer (s : State) : State :=
  if anyDriving s || s.supply.timer.isSome then s
  else { s with supply := { s.supply with timer := some supplyPeriod } }

/-- The drive stop (R4): the run-on window opens. -/
def driveStop (a : ActId) (s : State) : State :=
  updAct a (fun x => { x with cond := .inRunOn, runOn := some runOnTime }) s

/-- Bind the actuators of a list to a lane (R19). -/
def bindAll (l : LaneId) (acts : List ActId) (s : State) : State :=
  acts.foldl (fun s a => { s with acts := put s.acts a { s.acts[a] with binding := some l } }) s

/-- Release the bindings of a lane (R20). -/
def unbindLane (l : LaneId) (s : State) : State :=
  allActs.foldl (fun s a =>
    if s.acts[a].binding = some l then { s with acts := put s.acts a { s.acts[a] with binding := none } }
    else s) s

/-! ### Lanes -/

/-- The lane fields whose change marks the lane's status frame are the same in both records (R67, R206). -/
def Lane.sameShown (r q : Lane) : Bool :=
  r.state == q.state && r.pauseReason == q.pauseReason && r.currentStep == q.currentStep
    && r.curAct == q.curAct && r.incidents == q.incidents && r.lastResult == q.lastResult
    && r.plan == q.plan && r.partner == q.partner && r.stepsCompleted == q.stepsCompleted

/-- The doze timer runs in ACTIVE while every lane is IDLE or OFFLINE: it stops when a lane leaves those states and
restarts when the last one returns (R187). -/
def followIdle (wasIdle : Bool) (s : State) : State :=
  if wasIdle && !allIdle s then { s with power := { s.power with dozeTimer := none } }
  else if !wasIdle && allIdle s && s.power.mode = .active then
    { s with power := { s.power with dozeTimer := some (dozeMs s) } }
  else s

/-- Write a lane record, mark its status frame when something shown changes, the general status frame when the OFFLINE
mask changes, and let the doze timer follow. -/
def updLane (l : LaneId) (f : Lane → Lane) (s : State) : State :=
  let old := s.lanes[l]
  let new := f old
  let wasIdle := allIdle s
  let s' := { s with lanes := put s.lanes l new }
  let s' := markIf (!old.sameShown new) (.lane l) s'
  let s' := markIf ((old.state == .offline) != (new.state == .offline)) .general s'
  followIdle wasIdle s'

/-- A lane record about to enter another state: what belongs to the state it leaves is gone (R67, R68, R86). The lapse timer
belongs to no state (R84) and runs on, also in FAULTED, of which R89 says that it has no timer, and in IDLE and OFFLINE.
DESIGN CHOICE (log entry 28). -/
def Lane.leaving (r : Lane) : Lane :=
  { r with
    pauseReason := none, resumePoint := none, stopDest := none, pendingOrder := none
    gateTimer := none, claimTimer := none, dwellTimer := none, clearTimer := none
    totalTimer := none, pauseTimer := none }

/-- Note incident flags on a lane (R69). -/
def note (l : LaneId) (i : BitVec 7) (s : State) : State :=
  updLane l (fun r => { r with incidents := r.incidents ||| i }) s

/-- The incident flags, bits in the order of R69. -/
abbrev incSoftSeen : BitVec 7 := 0x01#7
abbrev incFirmSeen : BitVec 7 := 0x02#7
abbrev incFencedSeen : BitVec 7 := 0x04#7
abbrev incOffTarget : BitVec 7 := 0x08#7
abbrev incClamped : BitVec 7 := 0x10#7
abbrev incGuardLost : BitVec 7 := 0x20#7
abbrev incDowngraded : BitVec 7 := 0x40#7

/-- Change a lane's step context. -/
def updCtx (l : LaneId) (f : StepCtx → StepCtx) (s : State) : State :=
  updLane l (fun r => { r with ctx := r.ctx.map f }) s

/-- Change a lane's load context. -/
def updLoad (l : LaneId) (f : Load → Load) (s : State) : State :=
  { s with loads := put s.loads l (f s.loads[l]) }

/-- Change a drive channel record. -/
def updDrive (l : LaneId) (f : Drive → Drive) (s : State) : State :=
  { s with drives := put s.drives l (f s.drives[l]) }

/-- Enter PAUSED with a reason and a resume point; the pause timer starts with 120 s (R86, R87). -/
def enterPaused (l : LaneId) (reason : PauseReason) (rp : ResumePoint) (s : State) : State :=
  updLane l (fun r =>
    { r.leaving with
      state := .paused, pauseReason := some reason, resumePoint := some rp, pauseTimer := some pauseTime }) s

/-- Enter FENCED (R109): FENCED_SEEN, the total timer with 10 s, and the clear timer with 1000 ms if no held zone is
fenced. -/
def enterFenced (l : LaneId) (s : State) : State :=
  let free := !meets (heldBy s l) (fenced s)
  updLane l (fun r =>
    { r.leaving with
      state := .fenced, incidents := r.incidents ||| incFencedSeen, totalTimer := some totalTime
      clearTimer := if free then some clearTime else none }) s

/-! ### Drive channels -/

/-- The relay opens at once (R117): phase OPEN, no actuator, no polarity, duty 0. What the rule does not name, the
saturation run, the motion kind, the aim and the stall watch among them, takes its restart value: DESIGN CHOICE (log
entry 18). -/
def Drive.opened (d : Drive) : Drive := { Drive.restart with failed := d.failed }

/-- Open the relay of a lane's channel (R117). -/
def openRelay (l : LaneId) (s : State) : State := updDrive l Drive.opened s

/-- A stop order or the channel's own end of a drive (R124): duty 0, the brake timer starts, the drive stop is reported.
It acts on a DRIVING channel only. -/
def brake (l : LaneId) (ms : Nat) (rev : Bool) (s : State) : State :=
  let d := s.drives[l]
  if d.phase = .driving then
    let s := updDrive l (fun d =>
      { d with phase := .braking, duty := 0, brakeTimer := some ms, reversal := rev
               blanking := false, stallTime := none }) s
    let s := match d.connected with
      | some a => driveStop a s
      | none => s
    resumeSupplyTimer s
  else s

/-- Enter STOPPING with a destination: a DRIVING channel gets its stop order and brakes for 50 ms (R77, R124). -/
def enterStopping (l : LaneId) (dest : StopDest) (s : State) : State :=
  updLane l (fun r => { r.leaving with state := .stopping, stopDest := some dest })
    (brake l brakeTime false s)

/-- Enter SETTLING at a cut, an end completion, or the end of homing or of a learn phase (R77). -/
def enterSettling (l : LaneId) (s : State) : State :=
  updLane l (fun r => { r.leaving with state := .settling }) (brake l brakeTime false s)

/-- The arm order (R118): the channel connects the actuator and starts its 15 ms make timer. -/
def armOrder (l : LaneId) (a : ActId) (s : State) : State :=
  updDrive l (fun d =>
    { d.opened with connected := some a, phase := .making, makeTimer := some makeTime }) s

/-! ### Power -/

/-- An event of R187 returns the part to ACTIVE and restarts the doze timer, which runs only while every lane is IDLE or
OFFLINE; a SLEEP condition that waited lapses (R189). A change of mode marks the general status frame. -/
def activate (s : State) : State :=
  let s' := markIf (decide (s.power.mode ≠ .active)) .general
    { s with power := { s.power with mode := .active, sleepWaiting := false } }
  { s' with power := { s'.power with dozeTimer := if allIdle s' then some (dozeMs s') else none } }

/-! ### Presence channels -/

/-- Change a presence channel's runtime record. -/
def updChan (c : ChanId) (f : ChanRun → ChanRun) (s : State) : State :=
  { s with chans := put s.chans c (f s.chans[c]) }

/-- A channel with its four runs at 0. -/
def ChanRun.runsCleared (x : ChanRun) : ChanRun :=
  { x with nearRun := 0, contactRun := 0, nearRelease := 0, contactRelease := 0 }

/-- Take a channel out of the tuning queue (R171). -/
def dequeue (c : ChanId) (s : State) : State :=
  { s with presence := { s.presence with queue := s.presence.queue &&& ~~~single c } }

/-- Write a channel's GUARD_LOST flag; a change marks the general status frame (R176). -/
def setGuardLost (c : ChanId) (b : Bool) (s : State) : State :=
  markIf (s.chans[c].guardLost != b) .general (updChan c (fun x => { x with guardLost := b }) s)

/-- The start of a seeding (R170): STARTING, seeding count and sum 0, halt and drift timers stopped, out of the tuning
queue; a tune of this channel ends without an outcome (R201), and its runs are 0 (R166). -/
def beginSeeding (c : ChanId) (s : State) : State :=
  let s := updChan c (fun x =>
    { x with state := .starting, seedCount := 0, seedSum := 0, haltTimer := none, driftTimer := none }) s
  let s := dequeue c s
  match s.presence.tune with
  | some t =>
    if t.channel = c then updChan c ChanRun.runsCleared { s with presence := { s.presence with tune := none } } else s
  | none => s

/-- The unfence of zones, delivered to the lanes that hold them (R108, R110): a FENCED lane whose last fenced zone
has cleared starts its clear timer. -/
def deliverUnfence (left : ZoneSet) (s : State) : State :=
  allLanes.foldl (fun s l =>
    if s.lanes[l].state = .fenced && meets left (heldBy s l) && !meets (heldBy s l) (fenced s) then
      updLane l (fun r => { r with clearTimer := some clearTime }) s
    else s) s

/-- The suspension of a tune in progress (R175): the channel takes back the baseline, filtered count and state it saved,
its runs are 0, it stays in the queue, and its guard set leaves the fence set. The grant scan that follows is
the caller's (`rescanned`). Without a tune in progress nothing happens. -/
def suspendTune (s : State) : State :=
  match s.presence.tune with
  | none => s
  | some t =>
    let before := fenceView s
    let s := updChan t.channel (fun x =>
      { x.runsCleared with state := t.savedState, baseline := t.savedBaseline, filtered := t.savedFiltered }) s
    let s := { s with presence := { s.presence with tune := none } }
    let after := fenceView s
    let s := markIf (decide (before ≠ after)) .sets s
    let s := deliverUnfence (before.all &&& ~~~after.all) s
    activate s

/-- Enter ARMING (R76, R118): the channel gets its arm order; entry into a motion state suspends a tune in progress
(R175). -/
def enterArming (l : LaneId) (s : State) : State :=
  match s.lanes[l].ctx with
  | none => s
  | some c =>
    suspendTune (updLane l (fun r => { r.leaving with state := .arming }) (armOrder l c.act s))

/-! ### Zones -/

/-- Set the holder of every zone of a set (R16). -/
def setHolders (zs : ZoneSet) (h : Option LaneId) (s : State) : State :=
  { s with holders := tab fun z => if has zs z then h else s.holders[z] }

/-- Take a lane's entry off the wait list (R100). -/
def leaveList (l : LaneId) (s : State) : State :=
  { s with waitList := s.waitList.filter fun e => e.lane ≠ l }

/-! ### Fault log -/

/-- The newest four history entries, oldest first (R66). -/
def historyCopies (s : State) : List HistEntry :=
  s.request.history.drop (s.request.history.length - 4)

/-- A ring of eight: a new entry at the end, the oldest gone when there would be nine (R66, R197). -/
def pushRing {α : Type} (ring : List α) (x : α) : List α := (ring ++ [x]).drop (ring.length + 1 - 8)

/-- Make a fault log entry (R197, R198) with the history copies given: the lifetime fault count rises, saturating at
65535, the entry carries it as its sequence, and the log and counters groups are written; the general status frame is
marked. -/
def logWith (copies : List HistEntry) (k : LogKind) (lane : Option LaneId) (act : Option ActId) (pos : Option Nat) (dev : Option Int)
    (arr : Option (Station × Byte)) (g : Option Group) (s : State) : State :=
  let n := min 65535 (s.ram.lifetime + 1)
  let e : LogEntry :=
    { sequence := n, kind := k, restartCount := s.ram.restartCount, time := s.now, mode := .active
      lane := lane, actuator := act, position := pos, deviation := dev, arrangement := arr, group := g
      preceding := copies }
  let s := writeGroup .faultLog (fun t => { t with log := pushRing t.log e }) s
  let s := writeGroup .counters (fun t => { t with lifetime := n }) s
  mark .general s

/-- Make a fault log entry with the newest history copies (R66, R197). -/
def logEntry (k : LogKind) (lane : Option LaneId) (act : Option ActId) (pos : Option Nat) (dev : Option Int)
    (arr : Option (Station × Byte)) (g : Option Group) (s : State) : State :=
  logWith (historyCopies s) k lane act pos dev arr g s

/-- The owner station and tag of a lane, for a log entry. -/
def Lane.arrangementId (r : Lane) : Option (Station × Byte) :=
  match r.owner, r.tag with
  | some st, some t => some (st, t)
  | _, _ => none

end Sys2Proof.Machine
end

