-- ==== Sys2Proof/Machine/Cabin.lean ====
section
/-! DEFINITION. The Cabin Map's and the Plan Store's calculations: target resolution, quarters and sweep sets, gates, and
the chain walk. -/

namespace Sys2Proof.Machine

open Sys2Proof (Byte LaneId ActId ZoneId ChanId StepId ZoneSet ActSet)

/-- The resolution of a target field against a travel (R12): end kind, resolved target, clamped indication. -/
def resolve (travel : Nat) : Target → EndKind × Nat × Bool
  | .endLow => (.low, 0, false)
  | .endHigh => (.high, travel, false)
  | .num n =>
    if n ≤ endWindow then (.low, 0, false)
    else if travel < n then (.high, travel, true)
    else if travel - endWindow ≤ n then (.high, travel, false)
    else (.interior, n, false)

/-- A quarter of a travel contains a position of the span lo to hi (R13, R14). -/
def quarterTouched (travel lo hi : Nat) (q : Fin 4) : Bool :=
  decide (q.val * travel / 4 ≤ hi) &&
    (if q.val = 3 then decide (lo ≤ travel) else decide (lo < (q.val + 1) * travel / 4))

/-- The union of the sweep map entries of the quarters for which `p` holds. -/
def quarterUnion (r : ActuatorRec) (p : Fin 4 → Bool) : ZoneSet :=
  (if p 0 then r.sweep[(0 : Fin 4)] else 0#12) ||| (if p 1 then r.sweep[(1 : Fin 4)] else 0#12) |||
    (if p 2 then r.sweep[(2 : Fin 4)] else 0#12) ||| (if p 3 then r.sweep[(3 : Fin 4)] else 0#12)

/-- The sweep map zones of a motion from p0 to pt (R14): span with margin, clamp, quarters, union. -/
def spanSweep (r : ActuatorRec) (p0 pt : Nat) : ZoneSet :=
  let lo := min p0 pt - sweepMargin
  let hi := min (max p0 pt + sweepMargin) r.travel
  quarterUnion r (quarterTouched r.travel lo hi)

/-- The full sweep (R15). -/
def fullSweep (r : ActuatorRec) : ZoneSet := quarterUnion r fun _ => true

/-- The extra zones of a step, none when the field is absent (R26). -/
def StepRec.extra (r : StepRec) : ZoneSet := r.extraZones.getD 0#12

/-- The sweep set of a step context's motion (R14, R15, R97). A learn sweep holds the full sweep throughout. -/
def sweepOf (s : State) (c : StepCtx) : ZoneSet :=
  let r := s.ram.actuators[c.act]
  match c.motion with
  | .homing => fullSweep r ||| c.step.extra
  | .learnHome | .learnRise | .learnReturn => fullSweep r
  | .step | .correction | .backOff => spanSweep r c.p0 c.pt ||| c.step.extra

/-- A gate holds (R27); a step without a gate counts as having its gate hold. -/
def gateHolds (s : State) : Option Gate → Bool
  | none => true
  | some g =>
    let x := s.acts[g.act]
    x.referenced && (match g.rel with
      | .atLeast => decide (g.pos ≤ x.position)
      | .atMost => decide (x.position ≤ g.pos))

/-- What a chain walk has found (R34): the actuator list and the step count, the number of visits. -/
structure Walk where
  acts : List ActId
  steps : Nat
  deriving DecidableEq, Repr

/-- A visit that names an actuator (R34 step 3): the list takes it if it is new, and the count rises. -/
def Walk.visit (w : Walk) (a : ActId) : Walk :=
  ⟨if a ∈ w.acts then w.acts else w.acts ++ [a], w.steps + 1⟩

/-- The visits of a chain walk (R34), with the visits still allowed and what it has found so far; none when it fails. The
25th visit fails, so a walk is given 24 visits. -/
def walkFrom (steps : Vector StepRec 96) : Nat → StepId → Walk → Option Walk
  | 0, _, _ => none
  | k + 1, n, w =>
    match steps[n].actuator with
    | none => none
    | some a =>
      let w' := w.visit a
      if 4 < w'.acts.length then none
      else match steps[n].next with
        | none => some w'
        | some m => walkFrom steps k m w'

/-- The chain walk of a track (R34): its actuator list and step count, or none. -/
def walk (steps : Vector StepRec 96) (first : StepId) : Option Walk := walkFrom steps 24 first ⟨[], 0⟩

/-- The actuators of a list as a set. -/
def actSet (l : List ActId) : ActSet := l.foldl (fun s a => s ||| single a) 0#10

end Sys2Proof.Machine
end

