-- ==== Sys2Proof/Machine/Arbiter.lean ====
section
/-! DEFINITION. The Zone Arbiter: the grant scan, releases, joining the wait list, fence changes and the tuning yield
(chapter 5), and the handing on of presence channel state changes (R168). -/

namespace Sys2Proof.Machine

open Sys2Proof (LaneId ActId ZoneId ChanId ZoneSet)

/-- The wait-list entry of a lane. -/
def entryOf (s : State) (l : LaneId) : Option WaitEntry := s.waitList.find? fun e => e.lane = l

/-- A grant (R103): the wanted zones get the lane as holder, the entry leaves the list, and the lane enters ARMING. -/
def grant (e : WaitEntry) (s : State) : State :=
  let s := setHolders e.wanted (some e.lane) s
  let s := leaveList e.lane s
  let s := if e.wanted = 0#12 then s else mark (.lane e.lane) (mark .sets s)
  enterArming e.lane s

/-- The yield test of an entry that is not granted (R114): with its yield timer expired and no yield made, an entry
blocked by tuning alone makes its yield request, which suspends the tune. -/
def yieldTest (e : WaitEntry) (s : State) : State :=
  if e.yieldTimer.isNone && !e.yieldMade && blockedByTuning s e.wanted then
    suspendTune { s with
      waitList := s.waitList.map fun x => if x.lane = e.lane then { x with yieldMade := true } else x }
  else s

/-- A scan's visit to one entry (R101): granted when grantable, else left where it is and put to the yield test. -/
def visit (s : State) (l : LaneId) : State :=
  match entryOf s l with
  | none => s
  | some e => if grantable s e.wanted then grant e s else yieldTest e s

/-- One pass over the wait list, from the head to the tail (R101). -/
def scanOnce (s : State) : State := (s.waitList.map fun e => e.lane).foldl visit s

/-- `s'` comes from `s` by an operation that may have suspended the tune in progress; if it did, zones have left the
fence set and a grant scan runs (R106, R175). -/
def rescanned (s s' : State) : State :=
  if s.presence.tune.isSome && s'.presence.tune.isNone then scanOnce s' else s'

/-- The grant scan (R101), followed by the scan that a tune suspended by it triggers (R175). -/
def scan (s : State) : State := rescanned s (scanOnce s)

/-- The yield tests of every entry, at a change of the fence set or of a fence reason (R114). The rule gives no order
among entries: the model tests from the head to the tail, and the suspension that an older entry brings has taken effect
when a younger one is tested. DESIGN CHOICE (log entry 10). -/
def yieldTests (s : State) : State :=
  rescanned s ((s.waitList.map fun e => e.lane).foldl (fun s l =>
    match entryOf s l with
    | none => s
    | some e => yieldTest e s) s)

/-- A lane releases zones (R104): of those it holds, the holders become none, the held set is marked and one grant scan
runs; a release of nothing does nothing. -/
def release (l : LaneId) (zs : ZoneSet) (s : State) : State :=
  let r := zs &&& heldBy s l
  if r = 0#12 then s else scan (mark (.lane l) (mark .sets (setHolders r none s)))

/-- A lane releases every zone it holds. -/
def releaseAll (l : LaneId) (s : State) : State := release l (heldBy s l) s

/-- Enter ARMING from a state other than CLAIMING, with the scan after a suspended tune. -/
def arm (l : LaneId) (s : State) : State := rescanned s (enterArming l s)

/-- Join the wait list (R74, R100): every held zone is released first, the entry is appended at the tail, the lane is in
CLAIMING with its claim timer started, and a scan runs. -/
def join (l : LaneId) (s : State) : State :=
  match s.lanes[l].ctx with
  | none => s
  | some c =>
    let s := releaseAll l s
    let s := { s with
      waitList := s.waitList ++ [⟨l, c.sweep, some yieldTime, false⟩] }
    let s := updLane l (fun r => { r.leaving with state := .claiming, claimTimer := some claimTime }) s
    scan s

/-- A fence delivered to the lane that holds a zone which has entered the fence set (R107). -/
def fenceLane (entered : ZoneSet) (s : State) (l : LaneId) : State :=
  if meets entered (heldBy s l) then
    match s.lanes[l].state with
    | .moving => enterStopping l .fenced s
    | .arming => enterFenced l (openRelay l s)
    | .fenced => updLane l (fun r => { r with clearTimer := none }) s
    | _ => s
  else s

/-- A change of the fenced view from `before` to `after` (R106): the sets frame is marked, fences and unfences are
delivered to holders, and a scan runs when a zone has left the fence set; otherwise the yield conditions are
re-evaluated. -/
def fenceEvent (before after : FenceView) (s : State) : State :=
  if before = after then s
  else
    let entered := after.all &&& ~~~before.all
    let left := before.all &&& ~~~after.all
    let s := mark .sets s
    let s := allLanes.foldl (fenceLane entered) s
    let s := deliverUnfence left s
    if left = 0#12 then yieldTests s else scan s

/-- Hand on one channel's state change (R168), with `seen` the fenced view known before it: the Zone Arbiter takes the
change of the channel's guard set, the part returns to ACTIVE, and the channel leaves the tuning queue if it is
outside CLEAR for a reason other than its tune. -/
def handOn (seen : FenceView) (c : ChanId) (s : State) : State :=
  let g := s.ram.channels[c].guard
  let s := fenceEvent (seen.within g) ((fenceView s).within g) s
  let s := activate s
  if s.chans[c].state = .clear || s.chans[c].state = .tuning then s else dequeue c s

/-- Hand on the state changes of several channels in their order (R162). -/
def handOnAll (seen : FenceView) (cs : List ChanId) (s : State) : State :=
  (cs.foldl (fun (p : FenceView × State) c =>
    let g := p.2.ram.channels[c].guard
    (p.1.refreshed (fenceView p.2) g, handOn p.1 c p.2)) (seen, s)).2

/-- The start of a tune when R172's condition holds: a queued channel, no tune in progress, no lane in a motion state, no
yield demand, and the part in ACTIVE or DOZE. The lowest-numbered queued channel enters TUNING. -/
def tryTune (s : State) : State :=
  match allChans.find? fun c => has s.presence.queue c with
  | none => s
  | some c =>
    if s.presence.tune.isSome || anyMotion s || yieldDemand s || s.power.mode = .sleep then s
    else
      let x := s.chans[c]
      let before := fenceView s
      let s := { s with presence := { s.presence with
        tune := some { channel := c, savedBaseline := x.baseline, savedFiltered := x.filtered
                       savedState := x.state, bit := 32, trialGain := 32, kept := none
                       sum := 0, count := 0 } } }
      let s := updChan c (fun x => { x with state := .tuning, driftTimer := none }) s
      handOn before c s

/-- A channel's drift timer at the test of R171: it runs while the channel is CLEAR, outside the queue and with its
baseline outside the tuning band; a queued channel whose baseline is back in the band leaves the queue. -/
def driftTest (c : ChanId) (s : State) : State :=
  let x := s.chans[c]
  let t := s.ram.channels[c].tuneTarget
  let inBand := decide (t - t / 8 ≤ x.baseline ∧ x.baseline ≤ t + t / 8)
  if chanKind c = .ref then s
  else if inBand then
    let s := updChan c (fun x => { x with driftTimer := none }) s
    if x.state = .clear then dequeue c s else s
  else if x.state = .clear && !has s.presence.queue c then
    updChan c (fun x => { x with driftTimer := if x.driftTimer.isNone then some driftTime else x.driftTimer }) s
  else updChan c (fun x => { x with driftTimer := none }) s

end Sys2Proof.Machine
end

