-- ==== Sys2Proof/Machine/LoadMonitor.lean ====
section
/-! DEFINITION. The Load Monitor's calculations (chapter 7): the sample computation, margins and modes, the back-off stop
point, profile adaptation and the learned profile. -/

namespace Sys2Proof.Machine

open Sys2Proof (ActId)

/-- A value moved a quarter of the way toward a sample, the division truncating toward zero (R136, R163). -/
def filterStep (f c : Nat) : Nat := ((f : Int) + ((c : Int) - (f : Int)).tdiv 4).toNat

/-- `x` limited to the range lo to hi. -/
def clampInt (lo hi x : Int) : Int := max lo (min hi x)

/-- `x` limited to the range lo to hi. -/
def clampNat (lo hi x : Nat) : Nat := max lo (min hi x)

/-- The load profile bin of a position (R138); a position past the travel, which no run reaches, falls in bin 31. -/
def binOf (p travel : Nat) : Fin 32 := ⟨min 31 (p * 32 / (travel + 1)), by omega⟩

/-- The learn accumulator bin of a position (R153). -/
def learnBin (p : Nat) : Fin 32 := binOf p travelMax

/-- A sample F added to a bin's sum and count; a full bin takes no more (R138, R153). -/
def accumulate (bins : Vector (Nat × Nat) 32) (b : Fin 32) (f : Nat) : Vector (Nat × Nat) 32 :=
  let x := bins[b]
  if x.2 < binCountMax then put bins b (x.1 + f, x.2 + 1) else bins

/-- The margins in force (R139). -/
def margins (r : ActuatorRec) (guardLost : Bool) : Nat × Nat :=
  if guardLost then (r.softMargin / 2, r.softMargin) else (r.softMargin, r.firmMargin)

/-- The classification mode of a drive (R135); a back-off takes the mode of the drive that met the contact. -/
def modeOf (k : MotionKind) (referenced : Bool) (old : ClassMode) : ClassMode :=
  match k with
  | .homing | .learnHome | .learnRise => .absolute
  | .step | .correction | .learnReturn => if referenced then .profile else .absolute
  | .backOff => old

/-- The drive part of a load context at a drive start (R134). -/
def Load.driveStart (x : Load) (k : MotionKind) (m : ClassMode) (mg : Nat × Nat) : Load :=
  { x with
    filtered := none, samples := 0
    blanking := if k = .backOff then blankingShort else blankingLong
    mode := m, marginSoft := mg.1, marginFirm := mg.2
    softRun := 0, firmRun := 0, absRun := 0, deviation := none }

/-- A run that rises by one on `b` and is 0 otherwise (R139, R140). -/
def runOn (b : Bool) (n : Nat) : Nat := if b then n + 1 else 0

/-- Stages 2 to 7 of a sample of `i` mA at position `p` (R136 to R141, R148, R153): the context after it, and its
outcome. -/
def Load.sample (x : Load) (k : MotionKind) (r : ActuatorRec) (p i : Nat) : Load × LoadOutcome :=
  let f : Nat := match x.filtered with
    | none => i
    | some f => filterStep f i
  let x := { x with filtered := some f, samples := x.samples + 1 }
  if x.samples ≤ x.blanking then (x, .none)
  else match x.mode with
    | .profile =>
      let b := binOf p r.travel
      let x := if x.eligible && k = .step then { x with bins := accumulate x.bins b f } else x
      let d : Int := (f : Int) - (r.profile[b] : Int)
      let soft := runOn (decide ((x.marginSoft : Int) ≤ d)) x.softRun
      let firm := runOn (decide ((x.marginFirm : Int) ≤ d)) x.firmRun
      let x := { x with deviation := some d, softRun := soft, firmRun := firm }
      if firm = 3 then (x, .firm)
      else if soft = 5 && !x.softHandled && k ≠ .backOff then ({ x with softHandled := true }, .soft)
      else (x, .none)
    | .absolute =>
      let x := match x.learn with
        | some lr =>
          if k = MotionKind.learnRise then { x with learn := some { lr with bins := accumulate lr.bins (learnBin p) f } }
          else x
        | none => x
      let n := runOn (decide (absoluteLimit ≤ f)) x.absRun
      ({ x with absRun := n }, if n = 3 then .firm else .none)

/-- The stop point of a back-off (R144), from the contact position, the direction that met the contact, the contact
origin and the travel. -/
def stopPointOf (dir : Direction) (c origin travel : Nat) : Nat :=
  match dir with
  | .increasing =>
    let s := c - backOffDistance
    if origin ≤ c then max s origin else s
  | .decreasing =>
    let s := c + backOffDistance
    min (if c ≤ origin then min s origin else s) travel

/-- One bin of profile adaptation (R150). -/
def adaptBin (e : Nat) (acc : Nat × Nat) : Nat :=
  if acc.2 < 4 then e
  else
    let m : Int := (acc.1 / acc.2 : Nat)
    let change := clampInt (-250) 250 ((m - (e : Int)).tdiv 8)
    (clampInt profileMin profileMax ((e : Int) + change)).toNat

/-- The profile after adaptation (R150). -/
def adaptProfile (profile : Vector Nat 32) (bins : Vector (Nat × Nat) 32) : Vector Nat 32 :=
  tab fun b => adaptBin profile[b] bins[b]

/-- The new bin that a learn bin is attributed to for travel T′, none when its lowest position exceeds T′ (R155). -/
def learnTarget (k : Fin 32) (travel : Nat) : Option (Fin 32) :=
  let low := (k.val * learnPositions + 31) / 32
  if low ≤ travel then some (binOf low travel) else none

/-- The sum and count that a new bin receives (R155). -/
def learnShare (bins : Vector (Nat × Nat) 32) (travel : Nat) (j : Fin 32) : Nat × Nat :=
  allBins.foldl (fun acc k =>
    if learnTarget k travel = some j then (acc.1 + bins[k].1, acc.2 + bins[k].2) else acc) (0, 0)

/-- The new profile's values in ascending order of bins (R155): a bin with fewer than 4 samples takes the value of the
nearest lower one that has them, or 2500. -/
def learnValues (bins : Vector (Nat × Nat) 32) (travel : Nat) : Nat → List (Fin 32) → List Nat
  | _, [] => []
  | below, j :: js =>
    let acc := learnShare bins travel j
    let v := if 4 ≤ acc.2 then clampNat profileMin profileMax (acc.1 / acc.2) else below
    v :: learnValues bins travel v js

/-- The learned profile for travel T′ (R155). -/
def learnProfile (bins : Vector (Nat × Nat) 32) (travel : Nat) : Vector Nat 32 :=
  let vs := learnValues bins travel flatProfile allBins
  tab fun j => vs.getD j.val flatProfile

end Sys2Proof.Machine
end

