-- ==== Sys2Proof/Machine/Lanes.lean ====
section
/-! DEFINITION. The Lane Engine's shared transitions (chapter 4): loading a step, claiming, the ARMING decision, hand-over,
pauses, faults, entry into IDLE and OFFLINE, and what HALT, CANCEL, CLEAR_FAULT, RESUME and HOLD do to one lane. -/

namespace Sys2Proof.Machine

open Sys2Proof (Byte LaneId ActId ZoneId ChanId StepId ZoneSet ActSet LaneSet Station)

/-! ### Taking a step -/

/-- A load context whose step part and learn record have ended (R134, R151); the drive part stays until the next drive
start. -/
def Load.stepEnded (x : Load) : Load :=
  { Load.restart with
    filtered := x.filtered, samples := x.samples, blanking := x.blanking, mode := x.mode
    marginSoft := x.marginSoft, marginFirm := x.marginFirm
    softRun := x.softRun, firmRun := x.firmRun, absRun := x.absRun, deviation := x.deviation }

/-- Set up the step part of a lane's load context at the loading of a step (R134); the contact origin is p0 (R144). -/
def Load.forStep (p0 : Nat) (x : Load) : Load := { x.stepEnded with origin := some p0 }

/-- Load a step into a lane (R72 steps 1 and 2): the target is resolved from the actuator's present position, CLAMPED is
noted, and homing is pending when the actuator is unreferenced. An empty record, which no accepted chain
reaches (R37), loads nothing. -/
def loadStep (l : LaneId) (rec : StepRec) (cur : CurStep) (s : State) : State :=
  match rec.actuator with
  | none => s
  | some a =>
    let x := s.acts[a]
    let res := resolve s.ram.actuators[a].travel rec.target
    let ctx : StepCtx :=
      { step := rec, act := a, p0 := x.position, endKind := res.1, pt := res.2.1
        motion := if x.referenced then .step else .homing, homingPending := !x.referenced
        correctionUsed := false, cls := rec.cls, slowDropped := false, sweep := 0#12
        guardLost := false, completed := false }
    let s := updLane l (fun r =>
      { r with ctx := some ctx, currentStep := some cur, curAct := some a
               incidents := if res.2.2 then r.incidents ||| incClamped else r.incidents }) s
    updLoad l (Load.forStep x.position) s

/-- The class in force of a step (R24, R74): CREEP once the SLOW policy has dropped it, NORMAL for a FAST step whose
sweep set is guard-lost, else the step's own. -/
def StepCtx.classWith (c : StepCtx) (guardLost : Bool) : SpeedClass :=
  if c.slowDropped then .creep
  else if guardLost && c.step.cls = .fast then .normal
  else c.step.cls

/-- Write a sweep set into a lane's step context with the guard-lost test and the FAST reduction (R18, R74). -/
def setSweep (l : LaneId) (zs : ZoneSet) (s : State) : State :=
  let gl := meets zs (guardLostZones s)
  updLane l (fun r =>
    { r with
      ctx := r.ctx.map fun c => { c with sweep := zs, guardLost := gl, cls := c.classWith gl }
      incidents := if gl then r.incidents ||| incGuardLost else r.incidents }) s

/-- The sweep-set computation for the motion of a lane's step context (R74). -/
def computeSweep (l : LaneId) (s : State) : State :=
  match s.lanes[l].ctx with
  | none => s
  | some c => setSweep l (sweepOf s c) s

/-- The claim of a step (R74): the sweep set is computed and the lane joins the wait list. -/
def claim (l : LaneId) (s : State) : State := join l (computeSweep l s)

/-- Enter WAIT_GATE (R72, R73): every held zone is released, and the gate timer starts with 30 s. -/
def enterWaitGate (l : LaneId) (s : State) : State :=
  updLane l (fun r => { r.leaving with state := .waitGate, gateTimer := some gateTime }) (releaseAll l s)

/-- A lane's first step (R72): load, then WAIT_GATE or the claim. -/
def takeFirstStep (l : LaneId) (rec : StepRec) (cur : CurStep) (s : State) : State :=
  let s := loadStep l rec cur s
  if gateHolds s rec.gate then claim l s else enterWaitGate l s

/-- The gate of a lane in WAIT_GATE evaluated afresh (R73): when it holds, the lane goes on to its claim. -/
def testGate (s : State) (l : LaneId) : State :=
  if s.lanes[l].state = .waitGate then
    match s.lanes[l].ctx with
    | none => s
    | some c => if gateHolds s c.step.gate then claim l s else s
  else s

/-- A gate re-evaluation event (R73): every lane in WAIT_GATE evaluates its gate, in the order of the lanes. -/
def gateEvent (s : State) : State := allLanes.foldl testGate s

/-! ### The ARMING decision -/

/-- The held zones of a lane cover its current sweep set. -/
def covers (s : State) (l : LaneId) (zs : ZoneSet) : Bool := subset zs (heldBy s l)

/-- The trim, the fence test and ARMING (R75 steps 2 and 3, R105). -/
def armOrFence (l : LaneId) (s : State) : State :=
  match s.lanes[l].ctx with
  | none => s
  | some c =>
    let s := if covers s l c.sweep then release l (heldBy s l &&& ~~~c.sweep) s else s
    if meets c.sweep (fenced s) then enterFenced l s else arm l s

/-- The learn sweep is taken up again from LEARN_HOME, toward END_LOW (R97, R152, R157): accumulators cleared, T′ absent. -/
def restartLearn (l : LaneId) (s : State) : State :=
  let s := updCtx l (fun c => { c with motion := .learnHome, endKind := .low, pt := 0 }) s
  updLoad l (fun x =>
    { x with
      origin := none
      learn := x.learn.map fun r => { r with phase := .home, bins := tab fun _ => (0, 0), travel := none } }) s

/-- The ARMING decision (R75). -/
def armingDecision (l : LaneId) (s : State) : State :=
  match s.lanes[l].ctx with
  | none => s
  | some c =>
    if s.acts[c.act].referenced then armOrFence l s
    else match c.motion with
      | .step | .correction =>
        let s := updCtx l (fun c => { c with homingPending := true, correctionUsed := false, motion := .homing }) s
        let s := computeSweep l s
        match s.lanes[l].ctx with
        | none => s
        | some c => if covers s l c.sweep then armOrFence l s else join l s
      | .learnRise | .learnReturn => armOrFence l (restartLearn l s)
      | .homing | .learnHome | .backOff => armOrFence l s

/-- The claim at the next step (R80 step 6): gate, then the ARMING decision when the held zones cover the sweep set, else
the wait list. -/
def claimAtNext (l : LaneId) (s : State) : State :=
  match s.lanes[l].ctx with
  | none => s
  | some c =>
    if !gateHolds s c.step.gate then enterWaitGate l s
    else if covers s l c.sweep then armingDecision l s
    else claim l s

/-! ### Ends of a lane's arrangement -/

/-- The lane's entry into IDLE or OFFLINE is reported to the Request Unit: it leaves the awaited set of a pending
preempt (R63, R70). -/
def reportFree (l : LaneId) (s : State) : State :=
  { s with request := { s.request with
      slot := s.request.slot.map fun p => { p with awaited := p.awaited &&& ~~~single l } } }

/-- Entry into IDLE with a result (R70); the inline record stays with the lane until then (R36). -/
def enterIdle (l : LaneId) (res : Result) (s : State) : State :=
  let s := leaveList l s
  let s := updLane l (fun r => { r.leaving with state := .idle, lastResult := some res, ctx := none, inline := none }) s
  let s := updLoad l Load.stepEnded s
  let s := releaseAll l s
  let s := unbindLane l s
  let s := updLane l (fun r => { r with bound := [] }) s
  reportFree l s

/-- Entry into OFFLINE with the last result that the clear brings (R90). R36 keeps the inline record until the lane returns
to IDLE and names no OFFLINE, R190 keeps lane records through SLEEP, and R40 has no inline step held at wake: the model
ends the record here with the step context. DESIGN CHOICE (log entry 18). -/
def enterOffline (l : LaneId) (res : Result) (s : State) : State :=
  let s := updLane l (fun r =>
    { r.leaving with state := .offline, lastResult := some res, ctx := none, inline := none, bound := [] }) s
  let s := unbindLane l s
  let s := updLoad l Load.stepEnded s
  reportFree l s

/-- A lane in FAULTED leaves it (R90): OFFLINE after DRIVE_FAULT, IDLE otherwise. -/
def leaveFaulted (l : LaneId) (res : Result) (s : State) : State :=
  if s.lanes[l].faultReason = some .driveFault then enterOffline l res s else enterIdle l res s

/-- CLEAR_FAULT applied to a lane with the result it brings (R90, R95): only FAULTED is affected; during the 50 ms brake
of R145 it is kept as the pending order, and the first one stands. -/
def clearFaultLane (l : LaneId) (res : Result) (s : State) : State :=
  let r := s.lanes[l]
  if r.state ≠ .faulted then s
  else if s.drives[l].phase = .braking then
    match r.pendingOrder with
    | some _ => s
    | none => updLane l (fun r => { r with pendingOrder := some (.clear res) }) s
  else leaveFaulted l res s

/-! ### HALT and partner fault -/

/-- A HALT, or a partner fault with its own reason, delivered to a lane (R78, R91, R96, R113). -/
def haltLane (l : LaneId) (reason : PauseReason) (s : State) : State :=
  let r := s.lanes[l]
  match r.state with
  | .moving => enterStopping l (.paused reason) s
  | .arming => enterPaused l reason .motion (openRelay l s)
  | .claiming => enterPaused l reason .claim (leaveList l s)
  | .waitGate => enterPaused l reason .gate s
  | .dwell => enterPaused l reason .afterStep s
  | .waitAdvance => enterPaused l reason .advance s
  | .fenced => enterPaused l reason .motion s
  | .paused => updLane l (fun r => { r with pauseReason := some reason }) s
  | .stopping | .reversing =>
    match r.stopDest with
    | some (.idle _) => s
    | _ => updLane l (fun r => { r with stopDest := some (.paused reason) }) s
  | .settling =>
    match r.pendingOrder with
    | some (.cancel _) => s
    | _ => updLane l (fun r => { r with pendingOrder := some (.halt reason) }) s
  | .idle | .faulted | .offline => s

/-- A lane is affected by a HALT (R57): outside IDLE, FAULTED and OFFLINE and not already on its way to IDLE by a
cancel. -/
def haltAffects (r : Lane) : Bool :=
  match r.state with
  | .idle | .faulted | .offline => false
  | .stopping | .reversing =>
    match r.stopDest with
    | some (.idle _) => false
    | _ => true
  | .settling =>
    match r.pendingOrder with
    | some (.cancel _) => false
    | _ => true
  | _ => true

/-- The partner of a lane while the relation is in force (R96). -/
def partnerOf (s : State) (l : LaneId) : Option LaneId :=
  match s.lanes[l].partner with
  | none => none
  | some p => if s.lanes[p].partner = some l && !s.lanes[p].state.free then some p else none

/-- Entry into FAULTED (R89): reason and result are written, what the lane held is released, the partner receives a
partner fault (R96), and a lane that a pending preempt awaits is cleared by the Request Unit (R63). The rules do not
order the grant scan for the released zones and the partner fault: the model scans first, so a partner in CLAIMING may be
granted and then pause from ARMING. DESIGN CHOICE (log entry 13). R89 keeps the step context's position information for
the status frame and R68 discards the context here: the model discards start position, end kind and target with the rest,
and keeps the current step and actuator, which the frame shows. DESIGN CHOICE (log entry 27). -/
def enterFaulted (l : LaneId) (reason : FaultReason) (s : State) : State :=
  let s := updLane l (fun r =>
    { r.leaving with
      state := .faulted, faultReason := some reason, lastResult := some .faulted, ctx := none }) s
  let s := updLoad l Load.stepEnded s
  let s := releaseAll l s
  let s := match partnerOf s l with
    | some p => haltLane p .partnerFault s
    | none => s
  match s.request.slot with
  | some p => if has p.awaited l then clearFaultLane l .preempted s else s
  | none => s

/-! ### CANCEL -/

/-- A CANCEL, or a preempt cancel with its own result, delivered to a lane (R78, R93). -/
def cancelLane (l : LaneId) (res : Result) (s : State) : State :=
  let r := s.lanes[l]
  match r.state with
  | .waitGate | .claiming | .dwell | .waitAdvance | .fenced | .paused => enterIdle l res s
  | .arming => enterIdle l res (openRelay l s)
  | .moving => enterStopping l (.idle res) s
  | .stopping | .reversing =>
    match r.stopDest with
    | some (.idle _) => s
    | _ => updLane l (fun r => { r with stopDest := some (.idle res) }) s
  | .settling =>
    match r.pendingOrder with
    | some (.cancel _) => s
    | _ => updLane l (fun r => { r with pendingOrder := some (.cancel res) }) s
  | .faulted => clearFaultLane l (if res = .preempted then .preempted else .faulted) s
  | .idle | .offline => s

/-! ### After a step -/

/-- Enter WAIT_ADVANCE; the pause timer starts with 120 s (R83, R87). -/
def enterWaitAdvance (l : LaneId) (s : State) : State :=
  updLane l (fun r => { r.leaving with state := .waitAdvance, pauseTimer := some pauseTime }) s

/-- What follows a completed step once its dwell is over (R82): the end of the track, WAIT_ADVANCE in STEPWISE mode, or
the claim at the next step. -/
def afterDwell (l : LaneId) (s : State) : State :=
  match s.lanes[l].ctx with
  | none => s
  | some c =>
    if c.completed then enterIdle l .completed s
    else if s.lanes[l].mode = some .stepwise then enterWaitAdvance l s
    else claimAtNext l s

/-- RESUME of a lane in PAUSED, its checks passed (R86, R92). -/
def resumeLane (l : LaneId) (s : State) : State :=
  let r := s.lanes[l]
  if r.state ≠ .paused then s
  else match r.resumePoint with
    | some .motion => armingDecision l s
    | some .claim => claim l s
    | some .gate => testGate (enterWaitGate l s) l
    | some .afterStep => afterDwell l s
    | some .advance => enterWaitAdvance l s
    | none => s

/-- A HOLD frame delivered to a lane (R83, R84, R85): in HOLD mode it refreshes the hold and continues a lane in
PAUSED(HOLD_LAPSED); in STEPWISE mode it advances a lane in WAIT_ADVANCE. FAULTED takes no HOLD frame (R89). R67 has
HOLD frames write the hold timestamp, R84 says so of HOLD mode, and R83 names no timestamp where a frame advances a
STEPWISE lane: the model leaves the timestamp of such a lane as it is. DESIGN CHOICE (log entry 15). -/
def holdLane (l : LaneId) (s : State) : State :=
  let r := s.lanes[l]
  if r.state.free || r.state = .faulted then s
  else if r.mode = some .hold then
    let s := updLane l (fun r => { r with holdTime := some s.now, lapseTimer := some holdTime }) s
    if r.state = .paused && r.pauseReason = some .holdLapsed then armingDecision l s else s
  else if r.mode = some .stepwise && r.state = .waitAdvance then claimAtNext l s
  else s

end Sys2Proof.Machine
end

