-- ==== Sys2Proof/Machine/Motion.lean ====
section
/-! DEFINITION. The Drive Unit's shared operations and the lane's answers to them (chapters 4, 6 and 7): the drive start,
slow-down and cut, contacts and back-off, drive faults, the end of ARMING, and the end of SETTLING and
STOPPING. -/

namespace Sys2Proof.Machine

open Sys2Proof (Byte LaneId ActId ZoneId ChanId StepId ZoneSet)

/-! ### Drive start -/

/-- The duty limit of a class in an actuator's record (R1). -/
def dutyLimit (r : ActuatorRec) : SpeedClass → Nat
  | .creep => r.dutyCreep
  | .normal => r.dutyNormal
  | .fast => r.dutyFast

/-- The bridge polarity that drives in a direction (R116). -/
def bridge (sense : Sense) (d : Direction) : Sense :=
  match d with
  | .increasing => sense
  | .decreasing =>
    match sense with
    | .forward => .reverse
    | .reverse => .forward

/-- The opposite direction. -/
def Direction.flip : Direction → Direction
  | .increasing => .decreasing
  | .decreasing => .increasing

/-- The direction of a drive other than a back-off (R119 step 1). -/
def driveDirection (k : MotionKind) (e : EndKind) (pt pos : Nat) : Direction :=
  match k with
  | .homing | .learnHome => .decreasing
  | .learnRise => .increasing
  | .step | .correction | .learnReturn | .backOff =>
    match e with
    | .low => .decreasing
    | .high => .increasing
    | .interior => if pos < pt then .increasing else .decreasing

/-- The class in force of a drive (R24, R76, R152, R153, R156). -/
def driveClass (c : StepCtx) : SpeedClass :=
  match c.motion with
  | .homing | .correction | .learnHome | .backOff => .creep
  | .learnRise | .learnReturn => .normal
  | .step => c.cls

/-- A drive ends by the cut: an INTERIOR aim of a motion that is cut (R122). -/
def cuts (d : Drive) : Bool :=
  d.endKind = some .interior &&
    (d.kind = some .step || d.kind = some .correction || d.kind = some .learnReturn)

/-- The remaining distance of a drive (R121). -/
def remaining (d : Drive) (pos travel : Nat) : Int :=
  match d.kind with
  | some .homing | some .learnHome => (pos : Int)
  | some .learnRise => (travel : Int) - (pos : Int)
  | some .backOff =>
    match d.direction with
    | some .increasing => (d.stopPoint : Int) - (pos : Int)
    | _ => (pos : Int) - (d.stopPoint : Int)
  | some .step | some .correction | some .learnReturn | none =>
    match d.endKind with
    | some .low => (pos : Int)
    | some .high => (travel : Int) - (pos : Int)
    | _ =>
      match d.direction with
      | some .increasing => (d.aim : Int) - (pos : Int)
      | _ => (pos : Int) - (d.aim : Int)

/-- The motion that a back-off interrupted and that RESUME continues (R86, R97): a learn lane's phase, else homing while it
is pending, else the correction once it is used, else the step proper. DEDUCED (log entry 18). -/
def interruptedMotion (c : StepCtx) (learn : Option LearnRec) : MotionKind :=
  match learn with
  | some r =>
    match r.phase with
    | .home => .learnHome
    | .rise => .learnRise
    | .back => .learnReturn
  | none => if c.homingPending then .homing else if c.correctionUsed then .correction else .step

/-- The end of a back-off (R94, R128), or its end by supply low (R88): REVERSING gives way to STOPPING with a destination,
and the motion of the step context is again the interrupted one, which the lane will make next (R68, R86). DEDUCED (log
entry 18). -/
def endBackOff (l : LaneId) (dest : StopDest) (s : State) : State :=
  enterStopping l dest (updCtx l (fun c => { c with motion := interruptedMotion c s.loads[l].learn }) s)

/-- The limit in force of the duty ramp (R120). -/
def limitInForce (r : ActuatorRec) (d : Drive) : Nat :=
  match d.cls with
  | none => 0
  | some c => if d.slowed then r.dutyCreep else dutyLimit r c

/-- Slow-down, cut and back-off end at an evaluation of the remaining distance of a DRIVING channel (R121, R122,
R128). -/
def evaluateDrive (l : LaneId) (s : State) : State :=
  let d := s.drives[l]
  match d.connected, d.cls with
  | some a, some c =>
    if d.phase ≠ .driving then s
    else
      let r := remaining d s.acts[a].position s.ram.actuators[a].travel
      let s := if r ≤ (slowDistance c : Int) then updDrive l (fun d => { d with slowed := true }) s else s
      if d.kind = some .backOff then
        if r ≤ (coast .creep : Int) then
          endBackOff l (s.lanes[l].stopDest.getD (.paused .firmContact)) s
        else s
      else if cuts d && decide (r ≤ (coast c : Int)) then enterSettling l s
      else s
  | _, _ => s

/-- The drive start's report to the Cabin Map (R4, R6, R119): driven, with the polarity as the last driven polarity, the
run-on window closed and the manual pulse count 0. -/
def reportDriveStart (a : ActId) (dir : Direction) (s : State) : State :=
  let sense := s.ram.actuators[a].sense
  updAct a (fun x =>
    { x with manualPulses := 0, lastPolarity := bridge sense dir, cond := .driven, runOn := none }) s

/-- The channel's part of a drive start (R119 steps 1 to 4): saturation run 0, stall watch blanking, 250 ‰. The supply
monitor's own timer stops (R184). -/
def startChannel (l : LaneId) (k : MotionKind) (e : Option EndKind) (aim : Nat) (dir : Direction)
    (c : SpeedClass) (s : State) : State :=
  let s := updDrive l (fun d =>
    { d with
      phase := .driving, direction := some dir, duty := startDuty, kind := some k, endKind := e, aim := aim
      cls := some c, slowed := false, blanking := true, stallTime := none, saturation := 0
      makeTimer := none, brakeTimer := none, reversal := false }) s
  { s with supply := { s.supply with timer := none } }

/-- The drive order at the end of ARMING (R76, R119): motion mark, direction, drive start, load context (R134), loss of
adaptation eligibility (R149), lane MOVING, then the cut test at once. -/
def driveStart (l : LaneId) (c : StepCtx) (s : State) : State :=
  let s := setMotionMark c.act s
  let x := s.acts[c.act]
  let r := s.ram.actuators[c.act]
  let dir := driveDirection c.motion c.endKind c.pt x.position
  let cls := driveClass c
  let s := reportDriveStart c.act dir s
  let s := startChannel l c.motion (some c.endKind) c.pt dir cls s
  let s := updLoad l (fun y =>
    let m := modeOf c.motion x.referenced y.mode
    let y := y.driveStart c.motion m (margins r c.guardLost)
    { y with
      eligible := y.eligible && !(c.motion = .step && (cls ≠ .normal || m = .absolute))
      origin := match y.origin with
        | some o => some o
        | none => some x.position }) s
  let s := updLane l (fun r => { r.leaving with state := .moving }) s
  evaluateDrive l s

/-- The end of ARMING (R76): the reference, then the interlock, the supply-low condition and the hold; then the drive
start, or the relay opens. -/
def armingEnd (l : LaneId) (s : State) : State :=
  match s.lanes[l].ctx with
  | none => openRelay l s
  | some c =>
    let needsRef := match c.motion with
      | .step | .correction | .learnRise | .learnReturn => true
      | .homing | .learnHome | .backOff => false
    if needsRef && !s.acts[c.act].referenced then armingDecision l (openRelay l s)
    else if !interlock s then enterPaused l .interlock .motion (openRelay l s)
    else if s.supply.low then enterPaused l .supply .motion (openRelay l s)
    else if s.lanes[l].mode = some .hold && !s.lanes[l].holdCurrent then
      enterPaused l .holdLapsed .motion (openRelay l s)
    else driveStart l c s

/-! ### Contacts -/

/-- A FIRM reported to a lane in MOVING (R143, R144, R147). In REVERSING the motion of the step context is BACK_OFF, from
the reversal brake on (R68). -/
def firmContact (l : LaneId) (s : State) : State :=
  let d := s.drives[l]
  match d.connected, d.direction with
  | some a, some dir =>
    let c := s.acts[a].position
    let x := s.loads[l]
    let stop := stopPointOf dir c (x.origin.getD c) s.ram.actuators[a].travel
    let s := note l incFirmSeen s
    let s := updLoad l (fun x => { x with eligible := false }) s
    let s := brake l reversalTime true s
    let s := updDrive l (fun d => { d with stopPoint := stop }) s
    let s := updCtx l (fun c => { c with motion := .backOff }) s
    let s := updLane l (fun r =>
      { r.leaving with state := .reversing, stopDest := some (.paused .firmContact) }) s
    logEntry .firmContact (some l) (some a) (some c) x.deviation s.lanes[l].arrangementId none s
  | _, _ => s

/-- A FIRM reported to a lane in REVERSING after the back-off's blanking (R145): a 50 ms brake with no capture, and
FAULTED(REVERSE_BLOCKED). -/
def reverseBlocked (l : LaneId) (s : State) : State :=
  let a := s.drives[l].connected
  let dev := s.loads[l].deviation
  let pos := a.map fun a => s.acts[a].position
  let s := brake l brakeTime false s
  let arr := s.lanes[l].arrangementId
  let s := enterFaulted l .reverseBlocked s
  logEntry .reverseBlocked (some l) a pos dev arr none s

/-- A FIRM, of incident CURRENT or STALL, reported to a lane (R146): only MOVING and REVERSING act on it. -/
def firmReported (l : LaneId) (s : State) : State :=
  match s.lanes[l].state with
  | .moving => firmContact l s
  | .reversing => reverseBlocked l s
  | _ => s

/-- A SOFT reported to a lane (R142, R146, R149). -/
def softReported (l : LaneId) (s : State) : State :=
  match s.lanes[l].state with
  | .moving =>
    let s := note l incSoftSeen s
    let s := updLoad l (fun x => { x with eligible := false }) s
    match s.lanes[l].ctx with
    | none => s
    | some c =>
      match c.step.policy with
      | .pause => enterStopping l (.paused .softContact) s
      | .slow =>
        let s := updCtx l (fun c => { c with cls := .creep, slowDropped := true }) s
        let s := updDrive l (fun d => { d with cls := some .creep }) s
        evaluateDrive l s
  | .settling | .stopping => note l incSoftSeen s
  | _ => s

/-- A drive fault (R130): no brake, the relay opens at once, the drive stop is reported, the channel is failed, a
DRIVE_FAULT entry with the deviation given is made and the lane enters FAULTED. -/
def driveFault (l : LaneId) (dev : Option Int) (s : State) : State :=
  let a := s.drives[l].connected
  let pos := a.map fun a => s.acts[a].position
  let arr := s.lanes[l].arrangementId
  let s := updDrive l (fun d => { d.opened with failed := true }) s
  let s := match a with
    | some a => driveStop a s
    | none => s
  let s := resumeSupplyTimer s
  let s := logEntry .driveFault (some l) a pos dev arr none s
  match s.lanes[l].state with
  | .moving | .reversing => enterFaulted l .driveFault s
  | _ => s

/-! ### Supply and interlock events (R88) -/

/-- A loss of interlock delivered to a lane (R88). -/
def interlockLost (s : State) (l : LaneId) : State :=
  if s.lanes[l].state = .moving then enterStopping l (.paused .interlock) s else s

/-- An onset of supply low delivered to a lane (R88, R124): a back-off ends at once, its reversal brake is abandoned for a
50 ms brake, and a destination IDLE is kept. -/
def supplyLowOnset (s : State) (l : LaneId) : State :=
  match s.lanes[l].state with
  | .moving => enterStopping l (.paused .supply) s
  | .reversing =>
    let dest := match s.lanes[l].stopDest with
      | some (.idle r) => StopDest.idle r
      | _ => .paused .supply
    let s := updDrive l (fun d =>
      if d.phase = .braking then { d with brakeTimer := some brakeTime, reversal := false } else d) s
    endBackOff l dest s
  | _ => s

/-- A measurement of the motor supply (R184, R185). -/
def measure (mv : Nat) (s : State) : State :=
  let p := s.supply
  if mv < lowSupply then
    let n := min lowRunLimit (p.lowRun + 1)
    let s := { s with supply := { p with pin := mv, measured := mv, lowRun := n } }
    if n = lowRunLimit && !p.low then
      allLanes.foldl supplyLowOnset (mark .general { s with supply := { s.supply with low := true } })
    else s
  else
    markIf p.low .general { s with supply := { p with pin := mv, measured := mv, lowRun := 0, low := false } }

/-! ### End of SETTLING and STOPPING -/

/-- The end of a track (R80): COMPLETED. -/
def endTrack (l : LaneId) (s : State) : State := enterIdle l .completed s

/-- A step is complete (R80), with the order that was pending in SETTLING. With a cancel pending the lane enters IDLE
"instead", and the rule does not say whether the step still counts: the model adds one to steps completed first. DESIGN
CHOICE (log entry 26). -/
def completeStep (l : LaneId) (order : Option PendingOrder) (c : StepCtx) (s : State) : State :=
  let s := updLane l (fun r => { r with stepsCompleted := r.stepsCompleted + 1 }) s
  match order with
  | some (.cancel res) => enterIdle l res s
  | _ =>
    let dwell (s : State) : State :=
      updLane l (fun r => { r.leaving with state := .dwell, dwellTimer := some (c.step.dwell * 10) }) s
    match c.step.next with
    | none =>
      if c.step.dwell = 0 then endTrack l s
      else
        let s := updCtx l (fun c => { c with completed := true }) s
        match order with
        | some (.halt reason) => enterPaused l reason .afterStep s
        | _ => dwell s
    | some n =>
      let s := loadStep l s.ram.steps[n] (.stored n) s
      let s := computeSweep l s
      let sweep := match s.lanes[l].ctx with
        | some c => c.sweep
        | none => 0#12
      let s := release l (heldBy s l &&& ~~~sweep) s
      match order with
      | some (.halt reason) => enterPaused l reason .afterStep s
      | _ =>
        if 0 < c.step.dwell then dwell s
        else if s.lanes[l].mode = some .stepwise then enterWaitAdvance l s
        else claimAtNext l s

/-- The end of a homing's SETTLING (R81): the step proper is resolved from p0 = 0, then any pending order is met, else
the claim at the next step. -/
def homingEnd (l : LaneId) (order : Option PendingOrder) (c : StepCtx) (s : State) : State :=
  let res := resolve s.ram.actuators[c.act].travel c.step.target
  let s := if res.2.2 then note l incClamped s else s
  let s := updCtx l (fun c =>
    { c with homingPending := false, motion := .step, p0 := 0, endKind := res.1, pt := res.2.1 }) s
  let s := updLoad l (fun x => { x with origin := some 0 }) s
  let s := computeSweep l s
  match order with
  | some (.cancel r) => enterIdle l r s
  | some (.halt reason) => enterPaused l reason .motion s
  | _ => claimAtNext l s

/-- Profile adaptation at the end of the SETTLING of a STEP drive (R150). -/
def adapt (l : LaneId) (a : ActId) (s : State) : State :=
  let x := s.loads[l]
  if x.eligible then
    let old := s.ram.actuators[a].profile
    let new := adaptProfile old x.bins
    let s := if new = old then s else writeActuator a (fun r => { r with profile := new }) s
    updLoad l (fun x => { x with bins := tab fun _ => (0, 0) }) s
  else s

/-- The end of the SETTLING of a step proper or a correction (R79). -/
def stepEnd (l : LaneId) (order : Option PendingOrder) (c : StepCtx) (s : State) : State :=
  let s := if c.motion = .step then adapt l c.act s else s
  let f := s.acts[c.act].position
  let off := f - c.pt + (c.pt - f)
  if off ≤ tolerance then completeStep l order c s
  else if c.correctionUsed then completeStep l order c (note l incOffTarget s)
  else
    let zs := spanSweep s.ram.actuators[c.act] f c.pt ||| c.step.extra
    let gl := meets zs (guardLostZones s)
    let s := if gl then note l incGuardLost s else s
    if covers s l zs then
      let s := updCtx l (fun c =>
        { c with correctionUsed := true, motion := .correction, sweep := zs, guardLost := gl }) s
      match order with
      | some (.cancel r) => enterIdle l r s
      | some (.halt reason) => enterPaused l reason .motion s
      | _ => armingDecision l s
    else completeStep l order c (note l incOffTarget s)

/-- A learn lane goes on to its next phase after a SETTLING, unless an order is pending (R81, R152, R154). -/
def learnNext (l : LaneId) (order : Option PendingOrder) (s : State) : State :=
  match order with
  | some (.cancel r) => enterIdle l r s
  | some (.halt reason) => enterPaused l reason .motion s
  | _ => armingDecision l s

/-- The end of the rise's SETTLING with T′ in range (R154): T, the profile and the position record are stored, and the
return is resolved against the new T (R156). -/
def storeLearned (l : LaneId) (a : ActId) (lr : LearnRec) (t : Nat) (s : State) : State :=
  let prof := learnProfile lr.bins t
  let pos := min s.acts[a].position t
  let old := reported s.acts[a].position s.ram.actuators[a].travel
  let ref := s.acts[a].referenced
  let s := writeActuator a (fun r =>
    { r with travel := t, profile := prof, storedPosition := pos, storedReferenced := ref }) s
  let s := markIf (old != reported pos t) (if a.val < 8 then .positions else .sets) s
  let s := { s with acts := put s.acts a { s.acts[a] with position := pos } }
  let res := resolve t (if lr.startReferenced then .num lr.startPosition else .endLow)
  let s := if res.2.2 then note l incClamped s else s
  let s := updCtx l (fun c =>
    { c with motion := .learnReturn, p0 := pos, endKind := res.1, pt := res.2.1 }) s
  updLoad l (fun x => { x with origin := none, learn := some { lr with phase := .back, travel := some t } }) s

/-- The end of a learn phase's SETTLING (R152, R154, R156). The rise goes toward END_HIGH of the present travel (R153). At
the end of the return steps completed is 1, with a cancel pending too. DESIGN CHOICE (log entry 26). -/
def learnEnd (l : LaneId) (order : Option PendingOrder) (c : StepCtx) (s : State) : State :=
  match s.loads[l].learn with
  | none => s
  | some lr =>
    match c.motion with
    | .learnHome =>
      let t := s.ram.actuators[c.act].travel
      let s := updCtx l (fun c =>
        { c with motion := .learnRise, homingPending := false, p0 := 0, endKind := .high, pt := t }) s
      let s := updLoad l (fun x => { x with origin := none, learn := some { lr with phase := .rise } }) s
      learnNext l order s
    | .learnRise =>
      let t := lr.travel.getD s.acts[c.act].position
      if travelMin ≤ t && t ≤ travelMax then learnNext l order (storeLearned l c.act lr t s)
      else
        let s := logEntry .learnFailed (some l) (some c.act) (some t) none s.lanes[l].arrangementId none s
        enterFaulted l .learnFailed s
    | _ =>
      let f := s.acts[c.act].position
      let s := if f - c.pt + (c.pt - f) ≤ tolerance then s else note l incOffTarget s
      let s := updLane l (fun r => { r with stepsCompleted := 1 }) s
      match order with
      | some (.cancel r) => enterIdle l r s
      | _ => endTrack l s

/-- The end of SETTLING, after the capture (R79). -/
def settlingEnd (l : LaneId) (s : State) : State :=
  let order := s.lanes[l].pendingOrder
  match s.lanes[l].ctx with
  | none => s
  | some c =>
    match c.motion with
    | .homing => homingEnd l order c s
    | .step | .correction | .backOff => stepEnd l order c s
    | .learnHome | .learnRise | .learnReturn => learnEnd l order c s

/-- The end of STOPPING, after the capture: the stop destination (R78). -/
def stoppingEnd (l : LaneId) (s : State) : State :=
  match s.lanes[l].stopDest with
  | some (.idle r) => enterIdle l r s
  | some (.paused reason) => enterPaused l reason .motion s
  | some .fenced => enterFenced l s
  | none => s

end Sys2Proof.Machine
end

