-- ==== Sys2Proof/Machine/Power.lean ====
section
/-! DEFINITION. The Vehicle Monitor's shared operations (chapter 9): the beginning of a restart, SLEEP entry, wake, a frame
received while the part is awake, and a change of the interlock. -/

namespace Sys2Proof.Machine

open Sys2Proof (Byte LaneId ActId ZoneId ChanId)

/-! ### Restart -/

/-- An actuator's runtime record when a restart begins: unbound and at rest with manual pulse count 0 (R6, R20, R21).
Position and reference are taken when the store has been loaded. -/
def ActRun.restarted (x : ActRun) : ActRun :=
  { x with binding := none, manualPulses := 0, cond := .atRest, runOn := none }

/-- Step 1 of the restart start-up (R192): each block takes its restart values. The settings store, the RAM copies, the
restart notice and the replies already handed to the bus stay. -/
def restartValues (s : State) : State :=
  { s with
    now := 0
    acts := tab fun a => s.acts[a].restarted
    holders := tab fun _ => none
    lanes := tab fun _ => Lane.restart
    waitList := []
    drives := tab fun _ => Drive.restart
    loads := tab fun _ => Load.restart
    chans := tab fun _ => ChanRun.restart
    presence := Presence.restart
    vehicle := Vehicle.restart
    supply := { s.supply with timer := none, lowRun := 0, low := false }
    power := { mode := .active, dozeTimer := some (dozeMs s), silenceTimer := some silenceTime
               silenceExpired := false, sleepWaiting := false, notice := s.power.notice }
    request := RequestUnit.restart
    service := ServiceUnit.restart
    report := Reporter.restart
    tx := { s.tx with status := [] } }

/-- A restart (R192) with its cause. The start-up does not begin while the supply stands below 6.0 V (R186); otherwise
steps 1 and 2 are made at once and the settings store is being loaded. DESIGN CHOICE (log entry 16): R192 gives a restart
the cause of its own during a start-up, and R186 says that a start-up held back below 6.0 V has not begun; a restart that
comes in that time, say of RESET_LINE while BROWNOUT holds the start-up back, replaces the held cause by its own here. -/
def restartPart (c : Cause) (s : State) : State :=
  let s := restartValues s
  if s.supply.pin < brownoutSupply then { s with startUp := .held c }
  else
    let s := measure s.supply.pin { s with startUp := .loading c }
    { s with supply := { s.supply with timer := some supplyPeriod } }

/-! ### SLEEP and wake -/

/-- SLEEP entry (R190, R179). -/
def sleepEntry (s : State) : State :=
  { s with
    chans := tab fun c => { s.chans[c] with haltTimer := none, driftTimer := none }
    presence := { s.presence with queue := 0#12, roundTimer := none }
    vehicle := { s.vehicle with freshTimer := none }
    supply := { s.supply with timer := none }
    power := { s.power with
      mode := .sleep, dozeTimer := none, silenceTimer := none, silenceExpired := false, sleepWaiting := false }
    report := Reporter.restart
    tx := { s.tx with status := [] } }

/-- A SLEEP condition in DOZE (R189): SLEEP at once, or at the completion of a service write in progress. R189 speaks of
a service write, and R202 has CLEAR_LOG and FACTORY_PROFILE complete like one and names STORE_BUSY alone for their being
in progress: the model has SLEEP wait for each of the three. DESIGN CHOICE (log entry 29). -/
def requestSleep (s : State) : State :=
  if s.power.mode ≠ .doze then s
  else if serviceBusy s then { s with power := { s.power with sleepWaiting := true } }
  else sleepEntry s

/-- A SLEEP condition that waited for a service operation is met at its completion, if the part is still in DOZE (R189). -/
def sleepIfWaiting (s : State) : State :=
  if s.power.sleepWaiting && s.power.mode = .doze then sleepEntry s else s

/-- The wake from SLEEP, steps 1 and 2 of the wake start-up (R191). -/
def wake (s : State) : State :=
  let s := { s with
    startUp := .wake
    power := { s.power with
      mode := .active, dozeTimer := if allIdle s then some (dozeMs s) else none
      silenceTimer := some silenceTime, silenceExpired := false, sleepWaiting := false }
    request := { s.request with ready := false }
    vehicle := { s.vehicle with fresh := false, freshTimer := none, freeze := false }
    supply := { s.supply with lowRun := 0, low := false }
    report := { s.report with period := some slowPeriod } }
  let s := mark .general s
  if s.supply.pin < brownoutSupply then restartPart .brownout s
  else
    let s := measure s.supply.pin s
    { s with supply := { s.supply with timer := some supplyPeriod } }

/-- A CAN frame received outside SLEEP restarts the silence timer (R189). -/
def busTraffic (s : State) : State :=
  { s with power := { s.power with silenceTimer := some silenceTime, silenceExpired := false } }

/-! ### Interlock -/

/-- The interlock after an event, against its value before (R182): a loss is delivered to every lane, and a change marks
the general status frame. -/
def interlockEvent (before : Bool) (s : State) : State :=
  let after := interlock s
  let s := if before && !after then allLanes.foldl interlockLost s else s
  markIf (before != after) .general s

/-- A decoded Vehicle State is taken whole, and freshness, interlock, freeze and sleep follow in that order (R180 to
R183, R189). -/
def takeVehicleState (v : VehicleState) (s : State) : State :=
  let before := interlock s
  let s := { s with vehicle := { s.vehicle with held := v, fresh := true, freshTimer := some freshTime } }
  let s := interlockEvent before s
  let s := if 5 < v.speed && !s.vehicle.freeze then
      mark .general { s with vehicle := { s.vehicle with freeze := true } }
    else s
  if v.ignition = .off && v.sleepPermit then requestSleep s else s

/-- Entry into DOZE (R187): the general status frame is marked, the next sample round falls 100 ms later, and the SLEEP
conditions are tested (R189). R162 would let the period in force at the last round decide the next one: that R187 is
taken over it here is a DESIGN CHOICE (log entry 21). -/
def enterDoze (s : State) : State :=
  let s := { s with
    power := { s.power with mode := .doze, dozeTimer := none }
    presence := { s.presence with roundTimer := s.presence.roundTimer.map fun _ => roundDoze } }
  let s := mark .general s
  let v := s.vehicle
  if s.power.silenceExpired || (v.fresh && v.held.ignition = .off && v.held.sleepPermit) then requestSleep s
  else s

end Sys2Proof.Machine
end

