-- ==== Sys2Proof/Machine/Requests.lean ====
section
/-! DEFINITION. The Request Unit (chapter 3): replies and history, the acceptance checks, the start of an arrangement,
preempt, and the commands to running lanes. -/

namespace Sys2Proof.Machine

open Sys2Proof (Byte LaneId ActId ZoneId ChanId StepId RecipeId ActSet LaneSet Station)

/-! ### Replies -/

/-- A verdict is reached (R65, R66): ACCEPTED is reported to the Vehicle Monitor (R187), the reply is sent, and the history
takes its entry. -/
def reply (st : Station) (tag kind : Byte) (obj : Option ReqObject) (v : Verdict) (lanes : LaneSet)
    (hold clamp : Bool) (s : State) : State :=
  let s := if v = .accepted then activate s else s
  { s with
    tx := { s.tx with replies := s.tx.replies ++ [replyFrame st tag kind v lanes hold clamp] }
    request := { s.request with
      history := pushRing s.request.history ⟨st, tag, kind, obj, v, s.now⟩ } }

/-- A reply without lanes and degrades. -/
def refuse (st : Station) (tag kind : Byte) (obj : Option ReqObject) (v : Verdict) (s : State) : State :=
  reply st tag kind obj v 0#4 false false s

/-! ### Acceptance -/

/-- A track of a plan: what the lane runs, its first step, its actuator list, and the step count of its walk (R34). A
learn sweep has no step record and no walk (R36). -/
structure Track where
  plan : Plan
  first : Option (StepRec × CurStep)
  acts : List ActId
  steps : Option Nat
  deriving DecidableEq, Repr

/-- The inline step of a RUN_STEP request (R36). -/
def inlineStep (a : ActId) (t : Target) (c : SpeedClass) (p : Policy) : StepRec :=
  { actuator := some a, target := t, cls := c, policy := p, dwell := 0
    extraZones := none, gate := none, next := none }

/-- The tracks of a plan (R34 to R36), or none where the verdict is PLAN_INVALID. -/
def planTracks (s : State) : RunReq → Option (List Track)
  | .recipe _ _ n =>
    let r := s.ram.recipes[n]
    let track (b : Bool) (first : StepId) : Option Track :=
      (walk s.ram.steps first).map fun w =>
        ⟨.recipe n b, some (s.ram.steps[first], .stored first), w.acts, some w.steps⟩
    match track false r.trackA, r.trackB with
    | none, _ => none
    | some ta, none => some [ta]
    | some ta, some b =>
      match track true b with
      | none => none
      | some tb => if meets (actSet ta.acts) (actSet tb.acts) then none else some [ta, tb]
  | .step _ _ a t c p => some [⟨.singleStep, some (inlineStep a t c p, .inline), [a], some 1⟩]
  | .learn a => some [⟨.learn, none, [a], none⟩]

/-- The plan's actuator set (R35). -/
def planActs (ts : List Track) : ActSet := ts.foldl (fun x t => x ||| actSet t.acts) 0#10

/-- The lanes in IDLE, lowest first. -/
def idleLanes (s : State) : List LaneId := allLanes.filter fun l => s.lanes[l].state = .idle

/-- Member `stationNo st` of a set of stations. -/
def hasStation (x : BitVec 6) (st : Station) : Bool := x.getLsbD (stationNo st)

/-- Checks 1 and 3 to 7 of the acceptance order (R50 to R52). -/
def earlyRefusal (s : State) (st : Station) (run : RunReq) : Option Verdict :=
  let object : Option Verdict := match run with
    | .recipe _ _ n =>
      if !s.ram.recipes[n].valid then some .noRecipe
      else if !hasStation s.ram.recipes[n].permitted st then some .notPermitted
      else if !stationCondition s st then some .stationCondition
      else none
    | .step _ _ a _ _ _ =>
      if !has (reach st) a then some .outOfReach
      else if !stationCondition s st then some .stationCondition
      else none
    | .learn _ => if st = .body || st = .tester then none else some .notPermitted
  if !s.request.ready then some .notReady
  else match object with
    | some v => some v
    | none =>
      if !interlock s then some .interlock
      else if !supplyOk s then some .supplyLow
      else none

/-- What the acceptance checks decide. -/
inductive Decision where
  | refused (v : Verdict)
  | conflict (acts : ActSet)
  | start (ts : List Track)
  deriving DecidableEq, Repr

/-- The acceptance checks but the form (R50 to R54), in their order. -/
def decideRun (s : State) (st : Station) (run : RunReq) : Decision :=
  match earlyRefusal s st run with
  | some v => .refused v
  | none =>
    match planTracks s run with
    | none => .refused .planInvalid
    | some ts =>
      let acts := planActs ts
      if meets acts (occupiedActs s) then .refused .occupied
      else if meets acts (boundActs s) then .conflict acts
      else if (idleLanes s).length < ts.length then .refused .noLane
      else .start ts

/-- The advance mode of an accepted request, and whether it was downgraded to HOLD (R32, R56). A learn runs in
CONTINUOUS. -/
def runMode (s : State) : RunReq → AdvanceMode × Bool
  | .recipe m _ n => if s.ram.recipes[n].holdRequired && m ≠ .hold then (.hold, true) else (m, false)
  | .step m _ _ _ _ _ => (m, false)
  | .learn _ => (.continuous, false)

/-- An accepted RUN_STEP's target is a number above the actuator's travel (R56). -/
def targetClamped (s : State) : RunReq → Bool
  | .step _ _ a (.num n) _ _ => decide (s.ram.actuators[a].travel < n)
  | _ => false

/-- A RUN request of BODY carries the preempt flag (R43). -/
def RunReq.preempts : RunReq → Bool
  | .recipe _ p _ => p
  | .step _ p _ _ _ _ => p
  | .learn _ => false

/-- A lane leaves IDLE: a period timer with more than 200 ms to run is restarted with 200 ms (R207). -/
def quickenPeriod (s : State) : State :=
  match s.report.period with
  | some p => if fastPeriod < p then { s with report := { s.report with period := some fastPeriod } } else s
  | none => s

/-- The inline record that a track hands to its lane (R36). -/
def Track.inlineRecord (t : Track) : Option StepRec :=
  match t.first with
  | some (rec, .inline) => some rec
  | _ => none

/-- Steps 2 and 3 of R55 for one lane, but its first step: the bindings and the lane record. The state itself changes with
the first step. -/
def startRecord (st : Station) (tag : Byte) (mode : AdvanceMode) (downgraded : Bool) (partner : Option LaneId)
    (t : Track) (l : LaneId) (s : State) : State :=
  let s := bindAll l t.acts s
  updLane l (fun r =>
    { r with
      owner := some st, tag := some tag, mode := some mode, plan := some t.plan, partner := partner
      currentStep := none, curAct := none, inline := t.inlineRecord, stepsCompleted := 0, bound := t.acts
      incidents := if downgraded then incDowngraded else 0#7
      holdTime := some s.now, lapseTimer := if mode = .hold then some holdTime else none
      faultReason := none, lastResult := none }) s

/-- A learn lane's start (R97, R151): its learn record, and the claim of the full sweep for LEARN_HOME. The sweep has no
step record: its class is NORMAL, its policy PAUSE and its dwell 0 (R156). -/
def takeLearn (l : LaneId) (a : ActId) (s : State) : State :=
  let x := s.acts[a]
  let ctx : StepCtx :=
    { step := inlineStep a .endLow .normal .pause, act := a, p0 := x.position, endKind := .low, pt := 0
      motion := .learnHome, homingPending := false, correctionUsed := false, cls := .normal
      slowDropped := false, sweep := 0#12, guardLost := false, completed := false }
  let s := updLane l (fun r => { r with ctx := some ctx, currentStep := none, curAct := some a }) s
  let s := updLoad l (fun y =>
    { y.stepEnded with
      learn := some { phase := .home, startPosition := x.position, startReferenced := x.referenced
                      bins := tab fun _ => (0, 0), travel := none } }) s
  claim l s

/-- A lane takes its first step (R72), or starts its learn sweep (R97). -/
def takeFirst (l : LaneId) (t : Track) (s : State) : State :=
  match t.first, t.acts with
  | some (rec, cur), _ => takeFirstStep l rec cur s
  | none, a :: _ => takeLearn l a s
  | none, [] => s

/-- The partner of a lane among the lanes that an acceptance starts. -/
def partnerAmong (ls : List LaneId) (l : LaneId) : Option LaneId := ls.find? fun x => x ≠ l

/-- The set of the lanes of a list. -/
def laneSet (ls : List LaneId) : LaneSet := ls.foldl (fun x l => x ||| single l) 0#4

/-- An accepted request (R55): lanes, bindings, lane records, first steps, then the reply. -/
def accept (st : Station) (tag : Byte) (run : RunReq) (ts : List Track) (s : State) : State :=
  let ls := (idleLanes s).take ts.length
  let pairs := ts.zip ls
  let (mode, down) := runMode s run
  let clamp := targetClamped s run
  let s := pairs.foldl (fun s p => startRecord st tag mode down (partnerAmong ls p.2) p.1 p.2 s) s
  let s := quickenPeriod s
  let s := pairs.foldl (fun s p => takeFirst p.2 p.1 s) s
  reply st tag run.kind (some run.object) .accepted (laneSet ls) down clamp s

/-! ### Preempt -/

/-- Empty the pending-preempt slot; the stored request is answered SUPERSEDED (R62, R64). -/
def supersede (s : State) : State :=
  match s.request.slot with
  | none => s
  | some p =>
    refuse p.station p.tag p.run.kind (some p.run.object) .superseded
      { s with request := { s.request with slot := none } }

/-- The lanes bound to an actuator of a set (R62 step 1). -/
def lanesBound (s : State) (acts : ActSet) : LaneSet :=
  lanesWhere fun l => allActs.any fun a => has acts a && s.acts[a].binding == some l

/-- A preempt (R62, R208): the awaited lanes are cancelled with PREEMPTED, the slot takes the request with the lanes whose
cancel is still in flight, and the reply is PREEMPT_PENDING. Step 2 of R62 gives no order among the awaited lanes: the
cancels reach them from L0 to L3, DESIGN CHOICE (log entry 13). -/
def preempt (st : Station) (tag : Byte) (run : RunReq) (acts : ActSet) (s : State) : State :=
  let awaited := lanesBound s acts
  let s := allLanes.foldl (fun s l => if has awaited l then cancelLane l .preempted s else s) s
  let inFlight := lanesWhere fun l => has awaited l && !s.lanes[l].state.free
  let s := supersede s
  let s := { s with request := { s.request with slot := some ⟨st, tag, run, inFlight⟩ } }
  refuse st tag run.kind (some run.object) .preemptPending s

/-- The fresh evaluation of a pending preempt whose awaited set is empty (R63): it makes no second preempt. It reads the
presence states as the cancels, or the end of the awaited motion, have left them (R208): where the last lane has just left
the motion states or the yield demand has just ended, the tune of R172 has started before it, so that its channel, in
TUNING, counts as occupied. DEDUCED (log entry 11): the tune comes first at a brake end too, because the entry into IDLE
reports to the Request Unit as its last step (R70). -/
def settlePreempt (s : State) : State :=
  match s.request.slot with
  | none => s
  | some p =>
    if p.awaited = 0#4 then
      let s := tryTune { s with request := { s.request with slot := none } }
      match decideRun s p.station p.run with
      | .refused v => refuse p.station p.tag p.run.kind (some p.run.object) v s
      | .conflict _ => refuse p.station p.tag p.run.kind (some p.run.object) .conflict s
      | .start ts => accept p.station p.tag p.run ts s
    else s

/-- What follows, in the same event, a command that may have freed lanes: a pending preempt with nothing to await is
evaluated after the tune that the event itself starts (R63, R208), and a tune starts if its condition holds at the
command's end (R172; log entry 11). A command that frees no lane but may end motion, a tune or the yield demand is
followed by `tryTune` alone. -/
def finish (s : State) : State := tryTune (settlePreempt s)

/-! ### Requests -/

/-- A request's tag; a frame of one data byte carries none and is answered with tag 0 (R44). -/
def tagOf (body : List Byte) : Byte := byteAt body 0

/-- A RUN_RECIPE, RUN_STEP or LEARN request served with the start-up flag set (R44, R55, R62). -/
def serveRun (st : Station) (kind : Byte) (body : List Byte) (s : State) : State :=
  match decodeRun st kind body with
  | none => refuse st (tagOf body) kind (decodeObject kind body) .badRequest s
  | some run =>
    let tag := tagOf body
    match decideRun s st run with
    | .refused v => refuse st tag run.kind (some run.object) v s
    | .conflict acts =>
      if run.preempts then finish (preempt st tag run acts s)
      else refuse st tag run.kind (some run.object) .conflict s
    | .start ts => tryTune (accept st tag run ts s)

/-- BODY and TESTER may command lanes they do not own (R47). -/
def commandsAny (st : Station) : Bool := st = .body || st = .tester

/-- The addressed set of a RESUME, CANCEL or CLEAR_FAULT (R46, R47); none where the verdict is NOT_OWNER. -/
def commandSet (s : State) (st : Station) (tag : Byte) : Addressing → Option LaneSet
  | .byTag => some (arrangement s st tag)
  | .byMask m => if commandsAny st then some m else none

/-- The addressed set of a HALT (R46 to R48); none where the verdict is NOT_OWNER. -/
def haltSet (s : State) (st : Station) (tag : Byte) : Addressing → Option LaneSet
  | .byTag => some (arrangement s st tag)
  | .byMask m =>
    if m = 0#4 then some 0xF#4
    else if commandsAny st then some m
    else
      let own := m &&& ownedBy s st
      if own = 0#4 then none else some own

/-- Deliver an order to the lanes of a set, in the order of the lanes. -/
def deliver (f : LaneId → State → State) (ls : LaneSet) (s : State) : State :=
  allLanes.foldl (fun s l => if has ls l then f l s else s) s

/-- A HALT served (R57, R64). -/
def serveHalt (st : Station) (body : List Byte) (s : State) : State :=
  let tag := tagOf body
  let obj := decodeObject kindHalt body
  match decodeAddressing true body with
  | none => refuse st tag kindHalt obj .badRequest s
  | some addr =>
    match haltSet s st tag addr with
    | none => refuse st tag kindHalt obj .notOwner s
    | some ls =>
      let affected := lanesWhere fun l => has ls l && haltAffects s.lanes[l]
      let drops := addr = .byMask 0#4 && s.request.slot.isSome
      let s := if drops then supersede s else s
      let s := deliver (fun l => haltLane l .halted) ls s
      if affected ≠ 0#4 || drops then tryTune (reply st tag kindHalt obj .accepted affected false false s)
      else refuse st tag kindHalt obj .notActive s

/-- A RESUME served (R58). -/
def serveResume (st : Station) (body : List Byte) (s : State) : State :=
  let tag := tagOf body
  let obj := decodeObject kindResume body
  match decodeAddressing false body with
  | none => refuse st tag kindResume obj .badRequest s
  | some addr =>
    match commandSet s st tag addr with
    | none => refuse st tag kindResume obj .notOwner s
    | some ls =>
      let paused := lanesWhere fun l => has ls l && s.lanes[l].state = .paused
      if paused = 0#4 then refuse st tag kindResume obj .notActive s
      else if !interlock s then refuse st tag kindResume obj .interlock s
      else if !supplyOk s then refuse st tag kindResume obj .supplyLow s
      else finish (deliver resumeLane paused (reply st tag kindResume obj .accepted paused false false s))

/-- A CANCEL served (R59): the verdict is given, and then the lanes reach IDLE or OFFLINE. -/
def serveCancel (st : Station) (body : List Byte) (s : State) : State :=
  let tag := tagOf body
  let obj := decodeObject kindCancel body
  match decodeAddressing false body with
  | none => refuse st tag kindCancel obj .badRequest s
  | some addr =>
    match commandSet s st tag addr with
    | none => refuse st tag kindCancel obj .notOwner s
    | some ls =>
      let busy := lanesWhere fun l => has ls l && !s.lanes[l].state.free
      if busy = 0#4 then refuse st tag kindCancel obj .notActive s
      else finish (deliver (fun l => cancelLane l .cancelled) busy
        (reply st tag kindCancel obj .accepted busy false false s))

/-- A CLEAR_FAULT served (R60). -/
def serveClearFault (st : Station) (body : List Byte) (s : State) : State :=
  let tag := tagOf body
  let obj := decodeObject kindClearFault body
  match decodeAddressing false body with
  | none => refuse st tag kindClearFault obj .badRequest s
  | some addr =>
    match commandSet s st tag addr with
    | none => refuse st tag kindClearFault obj .notOwner s
    | some ls =>
      let faulted := lanesWhere fun l => has ls l && s.lanes[l].state = .faulted
      if faulted = 0#4 then refuse st tag kindClearFault obj .notActive s
      else finish (deliver (fun l => clearFaultLane l .faulted) faulted
        (reply st tag kindClearFault obj .accepted faulted false false s))

/-- An ACK_RESTART served (R61). -/
def serveAckRestart (st : Station) (body : List Byte) (s : State) : State :=
  let tag := tagOf body
  if body.length < 1 then refuse st tag kindAckRestart none .badRequest s
  else if st ≠ .body then refuse st tag kindAckRestart none .notPermitted s
  else if s.power.notice.isNone then refuse st tag kindAckRestart none .notActive s
  else reply st tag kindAckRestart none .accepted 0#4 false false
    (mark .general { s with power := { s.power with notice := none } })

/-- A request of an unknown kind served (R44). -/
def serveUnknown (st : Station) (kind : Byte) (body : List Byte) (s : State) : State :=
  refuse st (tagOf body) kind none .badRequest s

/-- A HOLD frame with the start-up flag set (R49): no reply and no history entry. -/
def serveHold (st : Station) (body : List Byte) (s : State) : State :=
  match decodeAddressing false body with
  | some .byTag =>
    let ls := arrangement s st (tagOf body)
    if ls = 0#4 then s else tryTune (deliver holdLane ls s)
  | _ => s

/-- A request frame with data served by its kind code. -/
def serveRequest (st : Station) (kind : Byte) (body : List Byte) (s : State) : State :=
  if kind = kindRunRecipe || kind = kindRunStep || kind = kindLearn then serveRun st kind body s
  else if kind = kindHold then serveHold st body s
  else if kind = kindHalt then serveHalt st body s
  else if kind = kindResume then serveResume st body s
  else if kind = kindCancel then serveCancel st body s
  else if kind = kindClearFault then serveClearFault st body s
  else if kind = kindAckRestart then serveAckRestart st body s
  else serveUnknown st kind body s

/-- The arrival of a request frame other than HOLD (R50, R191): in SLEEP it wakes the part and is held; with the start-up
flag clear it is answered NOT_READY; else it is served. -/
def receiveRequest (st : Station) (kind : Byte) (body : List Byte) (serve : State → State) (s : State) : State :=
  if s.power.mode = .sleep then
    let s := wake s
    if s.startUp = .wake then { s with request := { s.request with held := some (st, kind :: body) } } else s
  else
    let s := busTraffic s
    if s.request.ready then serve s
    else refuse st (tagOf body) kind (decodeObject kind body) .notReady s

end Sys2Proof.Machine
end

