-- ==== Sys2Proof/Machine/DriveEvents.lean ====
section
/-! DEFINITION. The meanings of the Drive Unit's events (chapters 1, 6 and 7): hall pulses, load samples, blanking end,
stall, relay made, the two brake ends and the run-on end. -/

namespace Sys2Proof.Machine

open Sys2Proof (LaneId ActId)

/-- The count after a pulse in the last driven polarity (R3): by one, held within 0 and T. -/
def counted (x : ActRun) (r : ActuatorRec) : Nat :=
  if x.lastPolarity = r.sense then
    if x.position < r.travel then x.position + 1 else x.position
  else x.position - 1

/-- The channel connected to an actuator restarts its stall measurement at a pulse (R125). -/
def restartStall (a : ActId) (s : State) (l : LaneId) : State :=
  let d := s.drives[l]
  if d.connected = some a && d.phase = .driving && d.stallTime.isSome then
    updDrive l (fun d => { d with stallTime := some 0 }) s
  else s

/-- The remaining distance of a channel that drives an actuator is evaluated at a change of its count (R121, R122,
R128). -/
def evaluateOn (a : ActId) (s : State) (l : LaneId) : State :=
  if s.drives[l].connected = some a && s.drives[l].phase = .driving then evaluateDrive l s else s

/-- A pulse while driven or in run-on (R3, R4). -/
def countPulse (a : ActId) (s : State) : State :=
  let x := s.acts[a]
  let p := counted x s.ram.actuators[a]
  let s := allLanes.foldl (restartStall a) s
  if p = x.position then s
  else allLanes.foldl (evaluateOn a) (updAct a (fun x => { x with position := p }) s)

/-- A manual pulse (R5): the count rises to 50 at most, and the 50th unreferences a referenced actuator, stores that with
the position, and raises a gate re-evaluation event. -/
def manualPulse (a : ActId) (s : State) : State :=
  let x := s.acts[a]
  if manualLimit ≤ x.manualPulses then s
  else
    let s := updAct a (fun x => { x with manualPulses := x.manualPulses + 1 }) s
    if x.manualPulses + 1 = manualLimit && x.referenced then
      let s := updAct a (fun x => { x with referenced := false }) s
      let s := writeActuator a (fun r => { r with storedPosition := x.position, storedReferenced := false }) s
      gateEvent s
    else s

/-- HALL_PULSE (R3 to R5). Until the Cabin Map has been loaded, pulses are not counted (R133). -/
def execHallPulse (a : ActId) (s : State) : Out :=
  .next (match s.startUp with
    | .held _ | .loading _ => s
    | .running | .wake =>
      match s.acts[a].cond with
      | .driven | .inRunOn => tryTune (countPulse a s)
      | .atRest => manualPulse a s)

/-- The duty ramp of a sample (R120) with the limit that was in force when the sample came. -/
def rampDuty (l : LaneId) (limit : Nat) (s : State) : State :=
  if s.drives[l].phase = .driving then
    updDrive l (fun d => { d with duty := min (d.duty + dutyStep) limit }) s
  else s

/-- The outcome of a sample, returned to the lane (R141, R146). -/
def reportOutcome (l : LaneId) (o : LoadOutcome) (s : State) : State :=
  match o with
  | .none => s
  | .soft => softReported l s
  | .firm => firmReported l s

/-- A load sample of a DRIVING channel (R129): saturation check, Load Monitor, duty ramp, supply. The Load Monitor
receives the sample that declares a drive fault too, and the lane acts on nothing from it (R130). The fault's log entry
carries the deviation before that sample, since the saturation check comes first (log entry 18). -/
def takeSample (l : LaneId) (a : ActId) (k : MotionKind) (reading mv : Nat) (s : State) : State :=
  let i := min fullScale reading
  let limit := limitInForce s.ram.actuators[a] s.drives[l]
  let run := if i = fullScale then s.drives[l].saturation + 1 else 0
  let dev := s.loads[l].deviation
  let out := s.loads[l].sample k s.ram.actuators[a] s.acts[a].position i
  let s := updLoad l (fun _ => out.1) (updDrive l (fun d => { d with saturation := run }) s)
  if run = 3 then measure mv (driveFault l dev s)
  else measure mv (rampDuty l limit (reportOutcome l out.2 s))

/-- LOAD_SAMPLE (R129): only a DRIVING channel takes samples. -/
def execLoadSample (l : LaneId) (reading mv : Nat) (s : State) : Out :=
  .next (
    let d := s.drives[l]
    match d.connected, d.kind with
    | some a, some k => if d.phase = .driving then finish (takeSample l a k reading mv s) else s
    | _, _ => s)

/-- The drive has had the samples that the Load Monitor blanks, 60, or 20 in a back-off (R125, R137). -/
def blankingOver (s : State) (l : LaneId) : Bool := decide (s.loads[l].blanking ≤ s.loads[l].samples)

/-- BLANKING_END (R125): after its last blanked sample the stall watch of a DRIVING channel starts to measure. -/
def execBlankingEnd (l : LaneId) (s : State) : Out :=
  .next (
    let d := s.drives[l]
    if d.phase = .driving && d.blanking && blankingOver s l then
      updDrive l (fun d => { d with blanking := false, stallTime := some 0 }) s
    else s)

/-- A homing completion, or an end completion at END_LOW (R7): position 0, referenced yes; a change from unreferenced is a
gate re-evaluation event. -/
def referenceAtLow (l : LaneId) (a : ActId) (s : State) : State :=
  let was := s.acts[a].referenced
  let s := updAct a (fun x => { x with position := 0, referenced := true, manualPulses := 0 }) s
  let s := enterSettling l s
  if was then s else gateEvent s

/-- An end completion at END_HIGH (R7): position T, referenced unchanged. -/
def completeAtHigh (l : LaneId) (a : ActId) (s : State) : State :=
  let t := s.ram.actuators[a].travel
  enterSettling l (updAct a (fun x => { x with position := t, manualPulses := 0 }) s)

/-- The end of the rise (R126, R154): T′ is the counted position. -/
def riseEnd (l : LaneId) (a : ActId) (s : State) : State :=
  let p := s.acts[a].position
  enterSettling l (updLoad l (fun x => { x with learn := x.learn.map fun r => { r with travel := some p } }) s)

/-- A stall classified by motion kind, direction and position (R126). -/
def takeStall (l : LaneId) (a : ActId) (k : MotionKind) (s : State) : State :=
  let d := s.drives[l]
  let p := s.acts[a].position
  let t := s.ram.actuators[a].travel
  match k with
  | .homing | .learnHome => referenceAtLow l a s
  | .learnRise => riseEnd l a s
  | .step | .correction | .learnReturn =>
    if d.endKind = some .low && d.direction = some .decreasing && p ≤ endWindow then referenceAtLow l a s
    else if d.endKind = some .high && d.direction = some .increasing && t - endWindow ≤ p then
      completeAtHigh l a s
    else firmReported l s
  | .backOff => firmReported l s

/-- The stall watch has measured 80 ms since the later of the blanking end and the last pulse (R125). -/
def Drive.stalled (d : Drive) : Bool := d.stallTime.any fun x => stallLimit ≤ x

/-- STALL (R125, R126): detected on a DRIVING channel whose blanking has ended, 80 ms without a pulse. -/
def execStall (l : LaneId) (s : State) : Out :=
  .next (
    let d := s.drives[l]
    match d.connected, d.kind with
    | some a, some k =>
      if d.phase = .driving && !d.blanking && d.stalled then finish (takeStall l a k s) else s
    | _, _ => s)

/-- RELAY_MADE (R118, R76): the make timer of a MAKING channel expires and ARMING ends. -/
def execRelayMade (l : LaneId) (s : State) : Out :=
  .next (
    if s.drives[l].phase = .making then
      tryTune (armingEnd l (updDrive l (fun d => { d with makeTimer := none }) s))
    else s)

/-- The end of a 50 ms brake (R124): the lane captures and the relay opens, and SETTLING or STOPPING ends (R78, R79). In
FAULTED there is no capture; a clear that waits for the brake then takes effect (R90). -/
def brakeEnd (l : LaneId) (s : State) : State :=
  let a := s.drives[l].connected
  match s.lanes[l].state with
  | .settling | .stopping =>
    let s' := match a with
      | some a => capture a s
      | none => s
    let s' := gateEvent (openRelay l s')
    if s.lanes[l].state = .settling then settlingEnd l s' else stoppingEnd l s'
  | _ =>
    let s := openRelay l s
    match s.lanes[l].state, s.lanes[l].pendingOrder with
    | .faulted, some (.clear res) => leaveFaulted l res s
    | _, _ => s

/-- BRAKE_END (R124): the 50 ms brake of a BRAKING channel expires. -/
def execBrakeEnd (l : LaneId) (s : State) : Out :=
  .next (
    let d := s.drives[l]
    if d.phase = .braking && !d.reversal then finish (brakeEnd l s) else s)

/-- The back-off drive (R128, R119 steps 2 to 4, R134): opposite direction, CREEP, its own load context with the mode and
margins of the drive that met the contact. -/
def startBackOff (l : LaneId) (a : ActId) (dir : Direction) (s : State) : State :=
  let gl := match s.lanes[l].ctx with
    | some c => c.guardLost
    | none => false
  let r := s.ram.actuators[a]
  let s := reportDriveStart a dir s
  let s := startChannel l .backOff none 0 dir .creep s
  let s := updLoad l (fun y => y.driveStart .backOff (modeOf .backOff s.acts[a].referenced y.mode) (margins r gl)) s
  evaluateDrive l s

/-- The back-off has no distance (R128): back-off end at once, and the lane's STOPPING brakes for 50 ms. -/
def skipBackOff (l : LaneId) (s : State) : State :=
  let dest := s.lanes[l].stopDest.getD (.paused .firmContact)
  endBackOff l dest (updDrive l (fun d => { d with brakeTimer := some brakeTime, reversal := false }) s)

/-- The end of the 40 ms reversal brake (R128). -/
def reversalBrakeEnd (l : LaneId) (s : State) : State :=
  let d := s.drives[l]
  match d.connected, d.direction with
  | some a, some dir =>
    if d.stopPoint = s.acts[a].position then skipBackOff l s
    else startBackOff l a dir.flip s
  | _, _ => s

/-- REVERSAL_BRAKE_END (R128): the 40 ms brake of a BRAKING channel expires. -/
def execReversalBrakeEnd (l : LaneId) (s : State) : Out :=
  .next (
    let d := s.drives[l]
    if d.phase = .braking && d.reversal then tryTune (reversalBrakeEnd l s) else s)

/-- RUN_ON_END (R4): the run-on window of an actuator expires and it is at rest. -/
def execRunOnEnd (a : ActId) (s : State) : Out :=
  .next (
    if s.acts[a].cond = .inRunOn then updAct a (fun x => { x with cond := .atRest, runOn := none }) s
    else s)

end Sys2Proof.Machine
end

