-- ==== Sys2Proof/Machine/LaneTimers.lean ====
section
/-! DEFINITION. The meanings of the lane timers' expiries (chapters 4 and 5). An expiry acts while its timer runs; with the
timer stopped it has been prevented, and nothing happens. -/

namespace Sys2Proof.Machine

open Sys2Proof (LaneId)

/-- GATE_TIMER_EXPIRY (R73): PAUSED(GATE_TIMEOUT), resume point GATE. -/
def execGateTimerExpiry (l : LaneId) (s : State) : Out :=
  .next (
    if s.lanes[l].state = .waitGate && s.lanes[l].gateTimer.isSome then enterPaused l .gateTimeout .gate s
    else s)

/-- CLAIM_TIMER_EXPIRY (R74, R100): the lane leaves the wait list for PAUSED(CLAIM_TIMEOUT), resume point CLAIM. -/
def execClaimTimerExpiry (l : LaneId) (s : State) : Out :=
  .next (
    if s.lanes[l].state = .claiming && s.lanes[l].claimTimer.isSome then
      tryTune (enterPaused l .claimTimeout .claim (leaveList l s))
    else s)

/-- DWELL_TIMER_EXPIRY (R82). -/
def execDwellTimerExpiry (l : LaneId) (s : State) : Out :=
  .next (
    if s.lanes[l].state = .dwell && s.lanes[l].dwellTimer.isSome then finish (afterDwell l s) else s)

/-- PAUSE_TIMER_EXPIRY (R87): IDLE with ABANDONED. -/
def execPauseTimerExpiry (l : LaneId) (s : State) : Out :=
  .next (
    if (s.lanes[l].state = .paused || s.lanes[l].state = .waitAdvance) && s.lanes[l].pauseTimer.isSome then
      finish (enterIdle l .abandoned s)
    else s)

/-- HOLD_LAPSE (R84): the hold is no longer current, and a MOVING lane in HOLD mode stops toward PAUSED(HOLD_LAPSED). -/
def execHoldLapse (l : LaneId) (s : State) : Out :=
  .next (
    let r := s.lanes[l]
    if r.lapseTimer.isSome then
      let s := updLane l (fun r => { r with lapseTimer := none }) s
      if r.state = .moving && r.mode = some .hold then enterStopping l (.paused .holdLapsed) s else s
    else s)

/-- CLEAR_TIMER_EXPIRY (R111): on to the ARMING decision, or PAUSED(HOLD_LAPSED) in HOLD mode without a current hold. -/
def execClearTimerExpiry (l : LaneId) (s : State) : Out :=
  .next (
    let r := s.lanes[l]
    if r.state = .fenced && r.clearTimer.isSome then
      if r.mode = some .hold && !r.holdCurrent then enterPaused l .holdLapsed .motion s
      else tryTune (armingDecision l s)
    else s)

/-- TOTAL_TIMER_EXPIRY (R112): PAUSED(FENCE_TIMEOUT), resume point MOTION. -/
def execTotalTimerExpiry (l : LaneId) (s : State) : Out :=
  .next (
    if s.lanes[l].state = .fenced && s.lanes[l].totalTimer.isSome then enterPaused l .fenceTimeout .motion s
    else s)

/-- The yield timer of a lane's entry is expired. -/
def expireYield (l : LaneId) (s : State) : State :=
  { s with waitList := s.waitList.map fun e => if e.lane = l then { e with yieldTimer := none } else e }

/-- YIELD_TIMER_EXPIRY (R114): the entry's yield condition is evaluated. -/
def execYieldTimerExpiry (l : LaneId) (s : State) : Out :=
  .next (match entryOf s l with
    | none => s
    | some e =>
      if e.yieldTimer.isSome then
        let s := expireYield l s
        tryTune (rescanned s (yieldTest { e with yieldTimer := none } s))
      else s)

end Sys2Proof.Machine
end

