-- ==== Sys2Proof/WellFormed.lean ====
section
/-! DEFINITION. Which terms of `Instr` stand for a command that the outside can send: at most 8 data bytes in a
frame (section 11), the frame belonging to the row it is given as, and measured values inside the
range that makes the event what its row says. -/

namespace Sys2Proof

/-- The nine request kind codes are 1 to 9 (section 11.3). -/
def knownKind (k : Byte) : Bool := 1 ≤ k.toNat && k.toNat ≤ 9

/-- The number of bytes a service operation needs (section 11.1); none for an unknown operation. -/
def serviceLength (op : Byte) : Option Nat :=
  match op.toNat with
  | 1 => some 6
  | 2 => some 8
  | 3 => some 2
  | 4 => some 4
  | 5 => some 2
  | _ => none

/-- A service frame that R199 answers BAD_REQUEST for its operation or its length, whatever it addresses. -/
def badServiceFrame : List Byte → Bool
  | [] => false
  | op :: rest =>
    match serviceLength op with
    | none => true
    | some n => decide (rest.length + 1 < n)

/-- A frame that the part discards (R41, R44, R199): a request or service frame without data, or any identifier
that no block takes. 0x3A8 belongs to the Vehicle Monitor and is never such a frame. -/
def discardedForm (ident : BitVec 11) (data : List Byte) : Bool :=
  if ident.toNat = 0x3A8 then false
  else if (0x3A0 ≤ ident.toNat && ident.toNat ≤ 0x3A5) || ident.toNat = 0x3AC then data.isEmpty
  else true

/-- A well-formed command. -/
def Instr.wf : Instr → Bool
  | .runRecipe _ b | .runStep _ b | .learn _ b | .hold _ b | .halt _ b | .resume _ b | .cancel _ b
  | .clearFault _ b | .ackRestart _ b => decide (b.length ≤ 7)
  | .unknownKindRequest _ k b => !knownKind k && decide (b.length ≤ 7)
  | .discardedFrame i d => discardedForm i d && decide (d.length ≤ 8)
  | .vehicleState d => decide (d.length ≤ 8)
  | .readField b | .writeField b | .clearLog b | .factoryProfile b | .restart b => decide (b.length ≤ 7)
  | .unknownServiceOperation d => badServiceFrame d && decide (d.length ≤ 8)
  | .brownout mv => decide (mv < 6000)
  | .brownoutRecovery mv => decide (6000 < mv)
  | .powerOn mv => decide (6000 ≤ mv)
  | .serviceWriteCompletion | .clearLogCompletion | .factoryProfileCompletion
  | .resetLine | .wakeLine | .storeCheckComplete _ | .wakeStartUpComplete
  | .hallPulse _ | .loadSample _ _ _ | .blankingEnd _ | .stall _ | .relayMade _ | .brakeEnd _
  | .reversalBrakeEnd _ | .runOnEnd _ | .gateTimerExpiry _ | .claimTimerExpiry _ | .dwellTimerExpiry _
  | .pauseTimerExpiry _ | .holdLapse _ | .clearTimerExpiry _ | .totalTimerExpiry _ | .yieldTimerExpiry _
  | .haltTimeout _ | .driftTimerExpiry _ | .freshnessTimerExpiry | .dozeTimerExpiry | .silenceTimerExpiry
  | .supplyMeasurement _ | .presenceSampleRound _ | .seedingEnd _ | .tuneTrialEnd | .coalescingTimerExpiry
  | .periodTimerExpiry => true

end Sys2Proof
end

