-- ==== Sys2Proof/Machine/Service.lean ====
section
/-! DEFINITION. Service access (section 10.3): field reads and writes with their codes and validation, the checks of the
store-changing operations, and their completions. -/

namespace Sys2Proof.Machine

open Sys2Proof (Byte LaneId ActId ZoneId ChanId StepId RecipeId ZoneSet ActSet StationSet Station)

/-! ### Reading -/

/-- An optional value read. -/
def ReadResult.ofOption : Option Nat → ReadResult
  | some n => .value (BitVec.ofNat 16 n)
  | none => .absent

/-- A number read. -/
def ReadResult.num (n : Nat) : ReadResult := .value (BitVec.ofNat 16 n)

/-- A yes-or-no or set-or-clear field read. -/
def ReadResult.flag (b : Bool) : ReadResult := .num (boolCode b)

/-- A field of an actuator record (R1, R2). A binding reads as its lane's number. DESIGN CHOICE (log entry 20): the spec
gives the binding none no code, and it reads with the indication absent, as the step's actuator field of none does. -/
def readActuator (s : State) (a : ActId) : ActField → ReadResult
  | .travel => .num s.ram.actuators[a].travel
  | .sense => .num s.ram.actuators[a].sense.code
  | .dutyCreep => .num s.ram.actuators[a].dutyCreep
  | .dutyNormal => .num s.ram.actuators[a].dutyNormal
  | .dutyFast => .num s.ram.actuators[a].dutyFast
  | .softMargin => .num s.ram.actuators[a].softMargin
  | .firmMargin => .num s.ram.actuators[a].firmMargin
  | .sweep q => .num s.ram.actuators[a].sweep[q].toNat
  | .profile b => .num s.ram.actuators[a].profile[b]
  | .storedPosition => .num s.ram.actuators[a].storedPosition
  | .storedReferenced => .flag s.ram.actuators[a].storedReferenced
  | .motionMark => .flag s.ram.actuators[a].motionMark
  | .position => .num s.acts[a].position
  | .referenced => .flag s.acts[a].referenced
  | .binding => .ofOption (s.acts[a].binding.map fun l => l.val)
  | .manualPulses => .num s.acts[a].manualPulses

/-- A field of a presence channel (R159, R160, R177). -/
def readChannel (s : State) (c : ChanId) : ChanField → ReadResult
  | .guard => .num s.ram.channels[c].guard.toNat
  | .protects => .num s.ram.channels[c].protects.toNat
  | .nearThr => .num s.ram.channels[c].nearThr
  | .contactThr => .num s.ram.channels[c].contactThr
  | .weight => .num s.ram.channels[c].weight
  | .haltTimeout => .num s.ram.channels[c].haltTimeout
  | .reseedEnable => .flag s.ram.channels[c].reseedEnable
  | .gain => .num s.ram.channels[c].gain
  | .tuneTarget => .num s.ram.channels[c].tuneTarget
  | .state => .num s.chans[c].state.code
  | .guardLost => .flag s.chans[c].guardLost
  | .filtered => .num s.chans[c].filtered
  | .baseline => .num s.chans[c].baseline

/-- A field of a step record (R23). -/
def readStep (r : StepRec) : StepField → ReadResult
  | .actuator => .ofOption (r.actuator.map fun a => a.val)
  | .target => .num r.target.code
  | .cls => .num r.cls.code
  | .policy => .num r.policy.code
  | .dwell => .num r.dwell
  | .extraZones => .ofOption (r.extraZones.map fun z => z.toNat)
  | .gateAct => .ofOption (r.gate.map fun g => g.act.val)
  | .gateRel => .ofOption (r.gate.map fun g => g.rel.code)
  | .gatePos => .ofOption (r.gate.map fun g => g.pos)
  | .next => .num (match r.next with
    | some n => n.val
    | none => 0xFFF2)

/-- A field of a recipe record (R30). -/
def readRecipe (r : RecipeRec) : RecipeField → ReadResult
  | .valid => .flag r.valid
  | .trackA => .num r.trackA.val
  | .trackB => .ofOption (r.trackB.map fun n => n.val)
  | .permitted => .num r.permitted.toNat
  | .holdRequired => .flag r.holdRequired

/-- A counter or the restart notice, 0 when clear and else its cause code. -/
def readCounter (s : State) : CounterField → ReadResult
  | .lifetime => .num s.ram.lifetime
  | .restartCount => .num s.ram.restartCount
  | .notice => .num ((s.power.notice.map Cause.code).getD 0)

/-- The code of a history object. -/
def ReqObject.code : ReqObject → Nat
  | .recipe n => n.val
  | .actuator a => a.val
  | .mask m => m.toNat

/-- A field of a history copy (R66). -/
def readHist (h : HistEntry) : HistField → ReadResult
  | .station => .num (stationNo h.station)
  | .tag => .num h.tag.toNat
  | .kind => .num h.kind.toNat
  | .object => .ofOption (h.object.map ReqObject.code)
  | .verdict => .num h.verdict.code
  | .timeHigh => .num (h.time / 65536)
  | .timeLow => .num (h.time % 65536)

/-- A field of a log entry (R197). -/
def readLogEntry (e : LogEntry) : LogField → ReadResult
  | .sequence => .num e.sequence
  | .kind => .num e.kind.code
  | .restartCount => .num e.restartCount
  | .timeHigh => .num (e.time / 65536)
  | .timeLow => .num (e.time % 65536)
  | .mode => .num e.mode.code
  | .lane => .ofOption (e.lane.map fun l => l.val)
  | .actuator => .ofOption (e.actuator.map fun a => a.val)
  | .position => .ofOption e.position
  | .deviation => match e.deviation with
    | some d => .value (BitVec.ofInt 16 d)
    | none => .absent
  | .arrangement => .ofOption (e.arrangement.map fun p => stationNo p.1 * 256 + p.2.toNat)
  | .group => .ofOption (e.group.map Group.code)
  | .preceding i f => match e.preceding[i.val]? with
    | some h => readHist h f
    | none => .absent

/-- The entry of the log at an index counted from the newest (R199). -/
def logAt (log : List LogEntry) (i : Nat) : Option LogEntry := log.reverse[i]?

/-- READ_FIELD's value (R199). -/
def readValue (s : State) : FieldRef → ReadResult
  | .actuator a f => readActuator s a f
  | .channel c f => readChannel s c f
  | .step n f => readStep s.ram.steps[n] f
  | .recipe n f => readRecipe s.ram.recipes[n] f
  | .dozeTime => .num s.ram.dozeTime
  | .counter f => readCounter s f
  | .log i f => match logAt s.ram.log i with
    | some e => readLogEntry e f
    | none => .notActive

/-! ### Writing -/

/-- A field that WRITE_FIELD may name at all (R200 check 2). -/
def writable : FieldRef → Bool
  | .actuator _ f => match f with
    | .travel | .sense | .dutyCreep | .dutyNormal | .dutyFast | .softMargin | .firmMargin
    | .sweep _ | .profile _ => true
    | .storedPosition | .storedReferenced | .motionMark | .position | .referenced | .binding
    | .manualPulses => false
  | .channel c f => match f with
    | .gain => true
    | .guard | .protects | .nearThr | .contactThr | .weight | .haltTimeout | .reseedEnable
    | .tuneTarget => chanKind c ≠ .ref
    | .state | .guardLost | .filtered | .baseline => false
  | .step _ _ | .recipe _ _ | .dozeTime => true
  | .counter _ | .log _ _ => false

/-- A number of a range. -/
def ranged (lo hi v : Nat) : Option Nat := if lo ≤ v && v ≤ hi then some v else none

/-- A yes-or-no value: yes is 1 (log entry 20). -/
def boolOf : Nat → Option Bool
  | 0 => some false
  | 1 => some true
  | _ => none

/-- A set of w members, bit n for member n (R205). -/
def setOf (w v : Nat) : Option (BitVec w) := if v < 2 ^ w then some (BitVec.ofNat w v) else none

/-- An optional value: 0xFFFF writes it as absent (R205). -/
def optOf {α : Type} (f : Nat → Option α) (v : Nat) : Option (Option α) :=
  if v = 0xFFFF then some none else (f v).map some

/-- A written actuator field (R1); none is out of range. -/
def writeActField (f : ActField) (v : Nat) : Option (ActuatorRec → ActuatorRec) :=
  match f with
  | .travel => (ranged travelMin travelMax v).map fun x r => { r with travel := x }
  | .sense => match v with
    | 0 => some fun r => { r with sense := .forward }
    | 1 => some fun r => { r with sense := .reverse }
    | _ => none
  | .dutyCreep => (ranged 250 1000 v).map fun x r => { r with dutyCreep := x }
  | .dutyNormal => (ranged 250 1000 v).map fun x r => { r with dutyNormal := x }
  | .dutyFast => (ranged 250 1000 v).map fun x r => { r with dutyFast := x }
  | .softMargin => (ranged 300 8000 v).map fun x r => { r with softMargin := x }
  | .firmMargin => (ranged 600 12000 v).map fun x r => { r with firmMargin := x }
  | .sweep q => (setOf 12 v).map fun z r => { r with sweep := put r.sweep q z }
  | .profile b => (ranged profileMin profileMax v).map fun x r => { r with profile := put r.profile b x }
  | .storedPosition | .storedReferenced | .motionMark | .position | .referenced | .binding
  | .manualPulses => none

/-- A written channel field (R159); none is out of range. -/
def writeChanField (f : ChanField) (v : Nat) : Option (ChannelCfg → ChannelCfg) :=
  match f with
  | .guard => (setOf 12 v).map fun z r => { r with guard := z }
  | .protects => (setOf 10 v).map fun z r => { r with protects := z }
  | .nearThr => (ranged 5 2000 v).map fun x r => { r with nearThr := x }
  | .contactThr => (ranged 10 4000 v).map fun x r => { r with contactThr := x }
  | .weight => (ranged 0 200 v).map fun x r => { r with weight := x }
  | .haltTimeout => (ranged 0 255 v).map fun x r => { r with haltTimeout := x }
  | .reseedEnable => (boolOf v).map fun x r => { r with reseedEnable := x }
  | .gain => (ranged 0 63 v).map fun x r => { r with gain := x }
  | .tuneTarget => (ranged 100 50000 v).map fun x r => { r with tuneTarget := x }
  | .state | .guardLost | .filtered | .baseline => none

/-- A relation code. -/
def relationOf : Nat → Option Relation
  | 0 => some .atLeast
  | 1 => some .atMost
  | _ => none

/-- A written extra zones field: a set of 1 to 12 zones, or absent when written empty or 0xFFFF (R23, R26). -/
def extraOf (v : Nat) : Option (Option ZoneSet) :=
  if v = 0 then some none else optOf (setOf 12) v

/-- A written next field: a step, or END coded 0xFFF2 (R205). -/
def nextOf (v : Nat) : Option (Option StepId) :=
  if v = 0xFFF2 then some none else (below 96 v).map some

/-- A gating actuator written over a gate (R29): none makes the gate absent, and an actuator written while it is absent
makes a gate AT_LEAST 0. -/
def gateWith (g : Option Gate) : Option ActId → Option Gate
  | none => none
  | some a => match g with
    | none => some ⟨a, .atLeast, 0⟩
    | some g => some { g with act := a }

/-- A written step field (R23, R29); none is out of range. -/
def writeStepField (f : StepField) (v : Nat) : Option (StepRec → StepRec) :=
  match f with
  | .actuator => (optOf (below 10) v).map fun x r => { r with actuator := x }
  | .target => (targetOfCode v).map fun x r => { r with target := x }
  | .cls => (classOfCode v).map fun x r => { r with cls := x }
  | .policy => (policyOfCode v).map fun x r => { r with policy := x }
  | .dwell => (ranged 0 255 v).map fun x r => { r with dwell := x }
  | .extraZones => (extraOf v).map fun x r => { r with extraZones := x }
  | .gateAct => (optOf (below 10) v).map fun x r => { r with gate := gateWith r.gate x }
  | .gateRel => (relationOf v).map fun x r => { r with gate := r.gate.map fun g => { g with rel := x } }
  | .gatePos => (ranged 0 4000 v).map fun x r => { r with gate := r.gate.map fun g => { g with pos := x } }
  | .next => (nextOf v).map fun x r => { r with next := x }

/-- A written recipe field (R30); none is out of range. -/
def writeRecipeField (f : RecipeField) (v : Nat) : Option (RecipeRec → RecipeRec) :=
  match f with
  | .valid => (boolOf v).map fun x r => { r with valid := x }
  | .trackA => (below 96 v).map fun x r => { r with trackA := x }
  | .trackB => (optOf (below 96) v).map fun x r => { r with trackB := x }
  | .permitted => (setOf 6 v).map fun x r => { r with permitted := x }
  | .holdRequired => (boolOf v).map fun x r => { r with holdRequired := x }

/-- A written value as a change of the settings, with the group that it changes; none is out of range. -/
def writeOf (f : FieldRef) (v : Nat) : Option (Group × (Settings → Settings)) :=
  match f with
  | .actuator a f => (writeActField f v).map fun g => (.actuators, Settings.onActuator a g)
  | .channel c f => (writeChanField f v).map fun g => (.channels, Settings.onChannel c g)
  | .step n f => (writeStepField f v).map fun g =>
      (.steps, fun t => { t with steps := put t.steps n (g t.steps[n]) })
  | .recipe n f => (writeRecipeField f v).map fun g =>
      (.recipes, fun t => { t with recipes := put t.recipes n (g t.recipes[n]) })
  | .dozeTime => (ranged 5 255 v).map fun x => (.general, fun t => { t with dozeTime := x })
  | .counter _ | .log _ _ => none

/-- The relations between fields that a write must leave true, and the parts that must be there (R1, R29, R161). `before`
and `after` are the settings before and after the write. -/
def relationsHold (before after : Settings) : FieldRef → Bool
  | .actuator a f =>
    let r := after.actuators[a]
    match f with
    | .dutyCreep | .dutyNormal | .dutyFast => decide (r.dutyCreep ≤ r.dutyNormal ∧ r.dutyNormal ≤ r.dutyFast)
    | .softMargin | .firmMargin => decide (r.softMargin < r.firmMargin)
    | _ => true
  | .channel c f =>
    let r := after.channels[c]
    match f with
    | .nearThr | .contactThr => decide (r.nearThr < r.contactThr)
    | .protects => chanKind c = .seat
    | _ => true
  | .step n f =>
    match f with
    | .gateRel | .gatePos => before.steps[n].gate.isSome
    | _ => true
  | .recipe _ _ | .dozeTime | .counter _ | .log _ _ => true

/-- The validation of a write (R200 check 6) against the RAM values as they stand. -/
def validWrite (t : Settings) (f : FieldRef) (v : Nat) : Option (Group × (Settings → Settings)) :=
  match writeOf f v with
  | none => none
  | some (g, w) => if relationsHold t (w t) f then some (g, w) else none

/-! ### Replies and checks -/

/-- Operation codes (section 11.3). -/
abbrev opRead : Byte := 1#8
abbrev opWrite : Byte := 2#8
abbrev opClearLog : Byte := 3#8
abbrev opFactoryProfile : Byte := 4#8
abbrev opRestart : Byte := 5#8

/-- A service reply on 0x3BC (R199). -/
def serviceReply (op tag : Byte) (v : Verdict) (absent : Bool) (value : BitVec 16) (s : State) : State :=
  { s with tx := { s.tx with replies := s.tx.replies ++ [serviceFrame op tag v absent value] } }

/-- A service reply without a value. -/
def serviceAnswer (op tag : Byte) (v : Verdict) (s : State) : State := serviceReply op tag v false 0#16 s

/-- Checks 3 and 4 of R200: the freeze, then the lanes and the interlock. -/
def storeRefusal (s : State) : Option Verdict :=
  if s.vehicle.freeze then some .storeFrozen
  else if !allIdle s || !interlock s then some .serviceRefused
  else none

/-- Checks 3 to 5 of R200. -/
def changeRefusal (s : State) : Option Verdict :=
  match storeRefusal s with
  | some v => some v
  | none => if serviceBusy s then some .storeBusy else none

/-- A store-changing operation begins: its 10 ms run (R200, R202). -/
def beginService (op : SvcOp) (s : State) : State :=
  { s with service := { s.service with busy := some op, timer := some serviceTime } }

/-- A service frame's data is long enough for an operation of n bytes, the operation byte included. -/
def longEnough (n : Nat) (body : List Byte) : Bool := decide (n ≤ body.length + 1)

/-- READ_FIELD served (R199). -/
def serveRead (body : List Byte) (s : State) : State :=
  let tag := tagOf body
  if !longEnough 6 body then serviceAnswer opRead tag .badRequest s
  else match decodeField (byteAt body 1) (byteAt body 2) (byteAt body 3) (byteAt body 4) with
    | none => serviceAnswer opRead tag .badRequest s
    | some f => match readValue s f with
      | .value v => serviceReply opRead tag .accepted false v s
      | .absent => serviceReply opRead tag .accepted true 0#16 s
      | .notActive => serviceAnswer opRead tag .notActive s

/-- WRITE_FIELD served (R200). -/
def serveWrite (body : List Byte) (s : State) : State :=
  let tag := tagOf body
  if !longEnough 8 body then serviceAnswer opWrite tag .badRequest s
  else match decodeField (byteAt body 1) (byteAt body 2) (byteAt body 3) (byteAt body 4) with
    | none => serviceAnswer opWrite tag .badRequest s
    | some f =>
      if !writable f then serviceAnswer opWrite tag .badRequest s
      else match changeRefusal s with
        | some v => serviceAnswer opWrite tag v s
        | none =>
          let v := wordAt body 5
          match validWrite s.ram f v with
          | none => serviceAnswer opWrite tag .badRequest s
          | some _ => beginService (.write tag f (BitVec.ofNat 16 v)) s

/-- CLEAR_LOG served (R202). -/
def serveClearLog (body : List Byte) (s : State) : State :=
  let tag := tagOf body
  if !longEnough 2 body then serviceAnswer opClearLog tag .badRequest s
  else match changeRefusal s with
    | some v => serviceAnswer opClearLog tag v s
    | none => beginService (.clearLog tag) s

/-- FACTORY_PROFILE served (R202). -/
def serveFactoryProfile (body : List Byte) (s : State) : State :=
  let tag := tagOf body
  if !longEnough 4 body then serviceAnswer opFactoryProfile tag .badRequest s
  else match below 10 (byteAt body 2).toNat with
    | none => serviceAnswer opFactoryProfile tag .badRequest s
    | some a => match changeRefusal s with
      | some v => serviceAnswer opFactoryProfile tag v s
      | none => beginService (.factoryProfile tag a) s

/-- RESTART served (R203): the reply first, then the restart. -/
def serveRestart (body : List Byte) (s : State) : State :=
  let tag := tagOf body
  if !longEnough 2 body then serviceAnswer opRestart tag .badRequest s
  else restartPart .testerRestart (serviceAnswer opRestart tag .accepted s)

/-- A service frame of an unknown operation served (R199). -/
def serveUnknownService (op : Byte) (body : List Byte) (s : State) : State :=
  serviceAnswer op (tagOf body) .badRequest s

/-- A service frame with data served by its operation code. -/
def serveService (op : Byte) (body : List Byte) (s : State) : State :=
  if op = opRead then serveRead body s
  else if op = opWrite then serveWrite body s
  else if op = opClearLog then serveClearLog body s
  else if op = opFactoryProfile then serveFactoryProfile body s
  else if op = opRestart then serveRestart body s
  else serveUnknownService op body s

/-- The arrival of a service frame with data (R191, R199): in SLEEP it wakes the part and is held; with the start-up flag
clear it is answered NOT_READY; else it is served. -/
def receiveService (op : Byte) (body : List Byte) (serve : State → State) (s : State) : State :=
  if s.power.mode = .sleep then
    let s := wake s
    if s.startUp = .wake then { s with service := { s.service with held := some (op :: body) } } else s
  else
    let s := busTraffic s
    if s.request.ready then serve s else serviceAnswer op (tagOf body) .notReady s

/-! ### Completions -/

/-- What a write of travel or direction sense brings, the new value written (R9): the actuator is unreferenced, its
position comes down to T, both are stored, and gates and status follow. -/
def unreference (a : ActId) (oldReported : Nat) (s : State) : State :=
  let t := s.ram.actuators[a].travel
  let pos := min s.acts[a].position t
  let was := s.acts[a].referenced
  let s := { s with acts := put s.acts a { s.acts[a] with position := pos, referenced := false } }
  let s := writeActuator a (fun r => { r with storedPosition := pos, storedReferenced := false }) s
  let s := markIf (oldReported != reported pos t) (if a.val < 8 then .positions else .sets) s
  let s := markIf was .sets s
  gateEvent s

/-- The consequences of a completed write (R201, R9, R161). `before` is the state before the write. -/
def writeConsequences (before : State) (f : FieldRef) (s : State) : State :=
  match f with
  | .actuator a .travel | .actuator a .sense =>
    unreference a (reported before.acts[a].position before.ram.actuators[a].travel) s
  | .channel _ .guard => fenceEvent (fenceView before) (fenceView s) s
  | .channel c .gain => handOn (fenceView s) c (beginSeeding c (setGuardLost c false s))
  | .channel c .tuneTarget => driftTest c s
  | _ => s

/-- A completed store-changing operation ends: it is no longer in progress. -/
def endService (s : State) : State := { s with service := { s.service with busy := none, timer := none } }

/-- The completion of a WRITE_FIELD (R201). With a SLEEP condition waiting, R189 enters SLEEP here if the part is still in
DOZE, and a write of a gain seeds its channel here, a presence change that returns the part to ACTIVE (R187); no rule
orders the two. The model takes what the write brings first, so that such a condition lapses. DESIGN CHOICE (log
entry 29). -/
def completeWrite (tag : Byte) (f : FieldRef) (v : BitVec 16) (s : State) : State :=
  let s := endService s
  match storeRefusal s with
  | some verdict => sleepIfWaiting (serviceAnswer opWrite tag verdict s)
  | none =>
    match writeOf f v.toNat with
    | none => sleepIfWaiting (serviceAnswer opWrite tag .accepted s)
    | some (g, w) =>
      let s' := serviceAnswer opWrite tag .accepted (writeGroup g w s)
      sleepIfWaiting (tryTune (writeConsequences s f s'))

/-- The completion of a CLEAR_LOG (R202). -/
def completeClearLog (tag : Byte) (s : State) : State :=
  let s := endService s
  match storeRefusal s with
  | some verdict => sleepIfWaiting (serviceAnswer opClearLog tag verdict s)
  | none =>
    sleepIfWaiting (serviceAnswer opClearLog tag .accepted (writeGroup .faultLog (fun t => { t with log := [] }) s))

/-- The completion of a FACTORY_PROFILE (R202). -/
def completeFactoryProfile (tag : Byte) (a : ActId) (s : State) : State :=
  let s := endService s
  match storeRefusal s with
  | some verdict => sleepIfWaiting (serviceAnswer opFactoryProfile tag verdict s)
  | none =>
    sleepIfWaiting (serviceAnswer opFactoryProfile tag .accepted
      (writeActuator a (fun r => { r with profile := tab fun _ => flatProfile }) s))

end Sys2Proof.Machine
end

