-- ==== Sys2Proof/Machine/PowerEvents.lean ====
section
/-! DEFINITION. The meanings of the events of chapter 9 and of the start-ups: restarts, wake, the Vehicle State frame, and
the Vehicle Monitor's timers and measurements. -/

namespace Sys2Proof.Machine

open Sys2Proof (Byte LaneId ActId ChanId GroupSet)

/-! ### Restarts -/

/-- POWER_ON (R192): the supply rises from absent to `mv`. -/
def execPowerOn (mv : Nat) (s : State) : Out :=
  if mv < brownoutSupply then .refused .notACommand
  else .next (restartPart .powerOn { s with supply := { s.supply with pin := mv } })

/-- BROWNOUT (R186): the supply falls to `mv`, below 6.0 V, and the part restarts at once. -/
def execBrownout (mv : Nat) (s : State) : Out :=
  if brownoutSupply ≤ mv then .refused .notACommand
  else .next (restartPart .brownout { s with supply := { s.supply with pin := mv } })

/-- RESET_LINE (R192). -/
def execResetLine (s : State) : Out := .next (restartPart .resetLine s)

/-- BROWNOUT_RECOVERY (R186): the supply rises above 6.0 V, and a start-up that it held back begins with its own cause. -/
def execBrownoutRecovery (mv : Nat) (s : State) : Out :=
  if mv ≤ brownoutSupply then .refused .notACommand
  else
    let s := { s with supply := { s.supply with pin := mv } }
    .next (match s.startUp with
      | .held c => restartPart c s
      | _ => s)

/-! ### The restart start-up's end -/

/-- Settings `t` with one group taken from `src`. -/
def Settings.takeGroup (t : Settings) (g : Group) (src : Settings) : Settings :=
  match g with
  | .actuators => { t with actuators := src.actuators }
  | .channels => { t with channels := src.channels }
  | .steps => { t with steps := src.steps }
  | .recipes => { t with recipes := src.recipes }
  | .general => { t with dozeTime := src.dozeTime }
  | .counters => { t with lifetime := src.lifetime, restartCount := src.restartCount }
  | .faultLog => { t with log := src.log }

/-- A group's check fails (R194, R195): it has been damaged after its last write, or its stored contents and checksum do
not sum to 0. The bytes that damage leaves are not modelled, since the factory contents replace them at once (log
entry 6). -/
def checkFails (damaged : GroupSet) (s : State) (g : Group) : Bool :=
  has damaged (groupNo g) || !sumsToZero s.store g s.checksums[groupNo g]

/-- The stored settings with the groups of which `fails` holds at their factory contents (R195). -/
def loadedSettings (fails : Group → Bool) (stored : Settings) : Settings :=
  allGroups.foldl (fun t g => if fails g then t.takeGroup g factorySettings else t) stored

/-- Step 3 of the restart start-up (R192, R195, R21, R178): the groups are loaded, failed ones replaced and rewritten, and
the actuators and channels take their loaded values. -/
def loadStore (fails : Group → Bool) (s : State) : State :=
  let t := loadedSettings fails s.store
  { s with
    ram := t, store := t, startUp := .running
    checksums := tab fun i => if fails (groupAt i) then factorySettings.checksum (groupAt i) else s.checksums[i]
    acts := tab fun a => ActRun.loaded t.actuators[a]
    chans := tab fun _ => ChanRun.restart
    presence := Presence.restart }

/-- Step 4 (R193): the restart count rises and is stored, the notice is set, and a STORE_CORRUPT entry is made for each
group that failed, in the order of R194's table, with no history copies (R195). -/
def countRestart (c : Cause) (fails : Group → Bool) (s : State) : State :=
  let n := min 65535 (s.ram.restartCount + 1)
  let s := writeGroup .counters (fun t => { t with restartCount := n }) s
  let s := mark .general { s with power := { s.power with notice := some c } }
  allGroups.foldl (fun s g =>
    if fails g then logWith [] .storeCorrupt none none none none none (some g) s else s) s

/-- The start-up flag is set (R50). -/
def setReady (s : State) : State :=
  { s with startUp := .running, request := { s.request with ready := true } }

/-- Every presence channel begins to seed (R170), and its entry into STARTING is handed on. -/
def seedAll (seen : FenceView) (s : State) : State :=
  let s := { s with presence := { s.presence with roundTimer := some roundActive } }
  handOnAll seen allChans (allChans.foldl (fun s c => beginSeeding c s) s)

/-- STORE_CHECK_COMPLETE (R192 steps 3 to 6): `damaged` names the groups whose stored bytes have been damaged after their
last write. It ends a restart start-up that is loading the store. -/
def execStoreCheckComplete (damaged : GroupSet) (s : State) : Out :=
  .next (match s.startUp with
    | .loading c =>
      let fails := checkFails damaged s
      let s := setReady (countRestart c fails (loadStore fails s))
      seedAll FenceView.clear { s with report := { s.report with period := some slowPeriod } }
    | _ => s)

/-! ### Wake -/

/-- WAKE_LINE (R191): it wakes a sleeping part; in ACTIVE and DOZE it has no effect. -/
def execWakeLine (s : State) : Out := .next (if s.power.mode = .sleep then wake s else s)

/-- The request held from a wake is decided as though it had arrived now (R50). -/
def serveHeldRequest (s : State) : State :=
  match s.request.held with
  | none => s
  | some (st, data) =>
    let s := { s with request := { s.request with held := none } }
    match data with
    | [] => s
    | k :: body => serveRequest st k body s

/-- The service frame held from a wake is served (R191, R199). -/
def serveHeldService (s : State) : State :=
  match s.service.held with
  | none => s
  | some data =>
    let s := { s with service := { s.service with held := none } }
    match data with
    | [] => s
    | op :: body => serveService op body s

/-- WAKE_START_UP_COMPLETE (R191 steps 3 and 4): the start-up flag is set, what was held is served, and every channel
begins to seed. A held RESTART has restarted the part instead. -/
def execWakeStartUpComplete (s : State) : Out :=
  .next (
    if s.startUp = .wake then
      let s := serveHeldService (serveHeldRequest (setReady s))
      if s.startUp = .running then tryTune (seedAll (fenceView s) s) else s
    else s)

/-! ### The Vehicle Monitor -/

/-- VEHICLE_STATE (R180): a frame that decodes is taken whole; a discarded one is bus traffic only. In SLEEP it wakes the
part and is discarded (R191). -/
def execVehicleState (data : List Byte) (s : State) : Out :=
  .next (
    if s.power.mode = .sleep then wake s
    else
      let s := busTraffic s
      match decodeVehicle data with
      | none => s
      | some v => takeVehicleState v s)

/-- FRESHNESS_TIMER_EXPIRY (R181, R182): the state goes stale and the interlock is re-evaluated. -/
def execFreshnessTimerExpiry (s : State) : Out :=
  .next (
    if s.vehicle.freshTimer.isSome then
      interlockEvent (interlock s) { s with vehicle := { s.vehicle with fresh := false, freshTimer := none } }
    else s)

/-- DOZE_TIMER_EXPIRY (R187): the timer runs in ACTIVE while every lane is IDLE or OFFLINE. No doze time ends within a
start-up: the shortest is 5 s, and the longest start-up about 30 ms (R192). -/
def execDozeTimerExpiry (s : State) : Out :=
  .next (
    if s.power.dozeTimer.isSome && s.power.mode = .active && allIdle s && s.startUp = .running then enterDoze s
    else s)

/-- SILENCE_TIMER_EXPIRY (R189): bus silence sends a part in DOZE to SLEEP. -/
def execSilenceTimerExpiry (s : State) : Out :=
  .next (
    if s.power.silenceTimer.isSome then
      requestSleep { s with power := { s.power with silenceTimer := none, silenceExpired := true } }
    else s)

/-- SUPPLY_MEASUREMENT (R184): the supply monitor's own measurement, while its timer runs. The voltage of the pin changes
in any case. -/
def execSupplyMeasurement (mv : Nat) (s : State) : Out :=
  .next (
    if s.supply.timer.isSome then
      let s := measure mv s
      { s with supply := { s.supply with timer := some supplyPeriod } }
    else { s with supply := { s.supply with pin := mv } })

end Sys2Proof.Machine
end

