-- ==== Sys2Proof/Machine/PresenceEvents.lean ====
section
/-! DEFINITION. The meanings of the Presence Unit's events (chapter 8): the sample round, seeding end, halt timeout, drift
timer expiry and the end of a tune trial. -/

namespace Sys2Proof.Machine

open Sys2Proof (ChanId)

/-! ### The sample round -/

/-- A seeding sample (R170, R163): count, sum and filtered count. -/
def seedSample (x : ChanRun) (raw : Nat) : ChanRun :=
  if x.seedCount < 16 then
    { x with
      filtered := if x.seedCount = 0 then raw else filterStep x.filtered raw
      seedCount := x.seedCount + 1, seedSum := x.seedSum + raw }
  else x

/-- Tracking of a baseline (R164): by the difference shifted s places, the division truncating toward zero. -/
def trackStep (shift : Nat) (a f : Nat) : Nat := ((a : Int) + ((f : Int) - (a : Int)).tdiv (2 ^ shift)).toNat

/-- Upward follow (R164). -/
def followUp (tn a f : Nat) : Nat := if a + tn < f then f else a

/-- The tracking shift of a power mode (R164). -/
def trackShift (m : PowerMode) : Nat := if m = .doze then 5 else 7

/-- Stages 2 and 3 of a channel outside STARTING and TUNING (R163, R164); `tracked` says that the baseline tracks. -/
def baselineStage (cfg : ChannelCfg) (shift : Nat) (tracked : Bool) (x : ChanRun) (raw : Nat) : ChanRun :=
  let f := filterStep x.filtered raw
  let a := if tracked then trackStep shift x.baseline f else x.baseline
  { x with filtered := f, baseline := followUp cfg.nearThr a f }

/-- The delta of a channel (R165). -/
def ChanRun.delta (x : ChanRun) : Int := (x.baseline : Int) - (x.filtered : Int)

/-- The compensated delta (R165). -/
def compensated (d dref : Int) (w : Nat) : Int := d - (dref * (w : Int)).tdiv 100

/-- The four runs of a sample (R166), a negative compensated delta counting as 0. -/
def countRuns (cfg : ChannelCfg) (dc : Int) (x : ChanRun) : ChanRun :=
  let d := dc.toNat
  { x with
    nearRun := runOn (decide (cfg.nearThr ≤ d)) x.nearRun
    contactRun := runOn (decide (cfg.contactThr ≤ d)) x.contactRun
    nearRelease := runOn (decide (d < cfg.nearThr * 3 / 4)) x.nearRelease
    contactRelease := runOn (decide (d < cfg.contactThr * 3 / 4)) x.contactRelease }

/-- The state after a sample (R167). -/
def classified (x : ChanRun) : ChanState :=
  match x.state with
  | .clear => if 2 ≤ x.contactRun then .contact else if 2 ≤ x.nearRun then .near else .clear
  | .near => if 2 ≤ x.contactRun then .contact else if 3 ≤ x.nearRelease then .clear else .near
  | .contact => if 3 ≤ x.contactRelease then .near else .contact
  | .starting => .starting
  | .tuning => .tuning

/-- The halt timer at a change of classification (R169): it starts on leaving CLEAR, and stops on return. -/
def haltAfter (cfg : ChannelCfg) (old new : ChanState) (t : Option Nat) : Option Nat :=
  if old = .clear && new ≠ .clear then
    if cfg.haltTimeout ≠ 0 && cfg.reseedEnable then some (cfg.haltTimeout * 1000) else none
  else if old ≠ .clear && new = .clear then none
  else t

/-- The classification of a channel (R167), with the halt timer (R169) and the drift timer, which does not run outside
CLEAR (R171). -/
def classify (cfg : ChannelCfg) (x : ChanRun) : ChanRun :=
  let new := classified x
  { x with
    state := new, haltTimer := haltAfter cfg x.state new x.haltTimer
    driftTimer := if new = .clear then x.driftTimer else none }

/-- The reference channel's part of a round (R160, R164). -/
def workRef (raw : Nat) (s : State) : State :=
  updChan refChan (fun x =>
    if x.state = .starting then seedSample x raw
    else baselineStage s.ram.channels[refChan] (trackShift s.power.mode) true x raw) s

/-- The reference delta of the round (R165). -/
def refDelta (s : State) : Int :=
  let x := s.chans[refChan]
  if x.state = .starting then 0 else x.delta

/-- A raw count taken at the trial gain goes to the trial (R162, R173). -/
def trialSample (raw : Nat) (t : Tune) : Tune :=
  if t.count < 8 then { t with sum := t.sum + raw, count := t.count + 1 } else t

/-- One channel's part of a round (R162 to R167), the drift test standing after the baseline stage (R171). -/
def workChannel (dref : Int) (raw : Nat) (c : ChanId) (s : State) : State :=
  let cfg := s.ram.channels[c]
  let x := s.chans[c]
  match x.state with
  | .starting => updChan c (fun x => seedSample x raw) s
  | .tuning => { s with presence := { s.presence with tune := s.presence.tune.map (trialSample raw) } }
  | .clear | .near | .contact =>
    let s := updChan c (fun x => baselineStage cfg (trackShift s.power.mode) (x.state = .clear) x raw) s
    let s := driftTest c s
    updChan c (fun x => classify cfg (countRuns cfg (compensated x.delta dref cfg.weight) x)) s

/-- The channels P0 to P10. -/
def sensingChans : List ChanId := [0, 1, 2, 3, 4, 5, 6, 7, 8, 9, 10]

/-- A sample round (R162): P11 first, then P0 to P10, then the state changes handed on in the order of the channels. The
period in force decides when the next round falls. -/
def sampleRound (counts : Vector (BitVec 16) 12) (s : State) : State :=
  let before := s.chans
  let seen := fenceView s
  let s := { s with presence := { s.presence with
    roundTimer := some (if s.power.mode = .doze then roundDoze else roundActive) } }
  let s := workRef counts[refChan].toNat s
  let dref := refDelta s
  let s := sensingChans.foldl (fun s c => workChannel dref counts[c].toNat c s) s
  let changed := sensingChans.filter fun c => s.chans[c].state ≠ before[c].state
  handOnAll seen changed s

/-- PRESENCE_SAMPLE_ROUND (R162): rounds fall while the round timer runs, so not in SLEEP and not before seeding begins. -/
def execPresenceSampleRound (counts : Vector (BitVec 16) 12) (s : State) : Out :=
  .next (if s.presence.roundTimer.isSome then tryTune (sampleRound counts s) else s)

/-! ### Seeding, reseed and tuning -/

/-- The end of a seeding (R170): baseline and filtered count take the average, runs 0, CLEAR, then the drift test. -/
def seedingEnd (c : ChanId) (s : State) : State :=
  let seen := fenceView s
  let s := updChan c (fun x =>
    { x.runsCleared with state := .clear, baseline := x.seedSum / 16, filtered := x.seedSum / 16 }) s
  handOn seen c (driftTest c s)

/-- SEEDING_END (R170): a STARTING channel has its 16 samples. -/
def execSeedingEnd (c : ChanId) (s : State) : Out :=
  .next (
    if s.presence.roundTimer.isSome && s.chans[c].state = .starting && s.chans[c].seedCount = 16 then
      tryTune (seedingEnd c s)
    else s)

/-- A reseed (R169). -/
def reseed (c : ChanId) (s : State) : State :=
  let seen := fenceView s
  let s := updChan c (fun x =>
    { x.runsCleared with baseline := x.filtered, state := .clear, haltTimer := none }) s
  let s := mark .general { s with presence := { s.presence with
    reseedCount := (s.presence.reseedCount + 1) % 256, lastReseeded := some c } }
  handOn seen c s

/-- HALT_TIMEOUT (R169): the channel's halt timer expires. -/
def execHaltTimeout (c : ChanId) (s : State) : Out :=
  .next (if s.chans[c].haltTimer.isSome then tryTune (reseed c s) else s)

/-- DRIFT_TIMER_EXPIRY (R171): the channel joins the tuning queue. -/
def execDriftTimerExpiry (c : ChanId) (s : State) : Out :=
  .next (
    if s.chans[c].driftTimer.isSome then
      let s := updChan c (fun x => { x with driftTimer := none }) s
      tryTune { s with presence := { s.presence with queue := s.presence.queue ||| single c } }
    else s)

/-- The end of a tune in success (R174): gain, baseline and filtered count are taken, GUARD_LOST is cleared, and the gain
is stored. -/
def tuneSuccess (c : ChanId) (gain avg : Nat) (s : State) : State :=
  let seen := fenceView s
  let s := writeGroup .channels (Settings.onChannel c fun r => { r with gain := gain }) s
  let s := updChan c (fun x => { x.runsCleared with state := .clear, baseline := avg, filtered := avg }) s
  let s := setGuardLost c false (dequeue c { s with presence := { s.presence with tune := none } })
  handOn seen c (driftTest c s)

/-- The end of a tune in failure (R174, R166): the runs are 0, GUARD_LOST is set and the channel seeds at its own gain,
which no trial has changed. -/
def tuneFailure (c : ChanId) (s : State) : State :=
  let seen := fenceView s
  let s := updChan c ChanRun.runsCleared s
  let s := setGuardLost c true { s with presence := { s.presence with tune := none } }
  handOn seen c (beginSeeding c s)

/-- A trial's outcome (R173): the gain without the bit unless the average is at or below the band's upper end, and the
average kept. -/
def trialOutcome (target avg : Nat) (t : Tune) : Nat × Option Nat :=
  if avg ≤ target + target / 8 then (t.trialGain, some avg) else (t.trialGain - t.bit, t.kept)

/-- The end of a trial (R173), and of the tune after the sixth (R174). -/
def trialEnd (t : Tune) (s : State) : State :=
  let target := s.ram.channels[t.channel].tuneTarget
  let (gain, kept) := trialOutcome target (t.sum / 8) t
  if 1 < t.bit then
    { s with presence := { s.presence with
      tune := some { t with bit := t.bit / 2, trialGain := gain + t.bit / 2, kept := kept, sum := 0, count := 0 } } }
  else
    match kept with
    | some k => if target - target / 8 ≤ k then tuneSuccess t.channel gain k s else tuneFailure t.channel s
    | none => tuneFailure t.channel s

/-- TUNE_TRIAL_END (R173): the tune in progress has the 8 rounds of its trial. -/
def execTuneTrialEnd (s : State) : Out :=
  .next (match s.presence.tune with
    | none => s
    | some t => if s.presence.roundTimer.isSome && t.count = 8 then tryTune (trialEnd t s) else s)

end Sys2Proof.Machine
end

