-- ==== Sys2Proof/Machine/Reporter.lean ====
section
/-! DEFINITION. The Status Reporter (section 11.4): sending the status frames, and the meanings of its two timers'
expiries. -/

namespace Sys2Proof.Machine

open Sys2Proof (LaneId)

/-- A frame handed to its transmit place (R207): a frame that still waits there is replaced. -/
def placed (q : List (Place × Frame)) (p : Place) (f : Frame) : List (Place × Frame) :=
  if q.any fun x => x.1 = p then q.map fun x => if x.1 = p then (p, f) else x else q ++ [(p, f)]

/-- Form a frame and hand it to its place. -/
def sendFrame (p : Place) (f : Frame) (s : State) : State :=
  { s with tx := { s.tx with status := placed s.tx.status p f } }

/-- Both pages of a lane's status. -/
def sendLane (s : State) (l : LaneId) : State :=
  sendFrame (.lane l true) (lanePage1 s l) (sendFrame (.lane l false) (lanePage0 s l) s)

/-- The frames named by the flags, in the order of R207, with the contents of the moment. -/
def sendMarked (r : Reporter) (s : State) : State :=
  let s := allLanes.foldl (fun s l => if has r.lanes l then sendLane s l else s) s
  let s := if r.positions then sendFrame .positions (positionsFrame s) s else s
  let s := if r.sets then sendFrame .sets (setsFrame s) s else s
  if r.general then
    sendFrame (.general true) (generalPage1 s) (sendFrame (.general false) (generalPage0 s) s)
  else s

/-- Every flag clear. -/
def Reporter.cleared (r : Reporter) : Reporter :=
  { r with lanes := 0#4, positions := false, sets := false, general := false }

/-- A status frame may be sent: not before the start-up flag is set (R207), nor in SLEEP (R190). -/
def mayTransmit (s : State) : Bool := s.request.ready && s.power.mode ≠ .sleep

/-- No frame is marked. -/
def Reporter.unmarked (r : Reporter) : Bool := r.lanes == 0#4 && !r.positions && !r.sets && !r.general

/-- COALESCING_TIMER_EXPIRY (R207): every marked frame is sent and its flag cleared. -/
def execCoalescingTimerExpiry (s : State) : Out :=
  .next (
    if s.report.coalesce.isSome then
      let s := { s with report := { s.report with coalesce := none } }
      if mayTransmit s then
        sendMarked s.report { s with report := { s.report.cleared with batched := true } }
      else s
    else s)

/-- The period in force (R207). -/
def periodNow (s : State) : Nat := if s.power.mode = .active && !allIdle s then fastPeriod else slowPeriod

/-- PERIOD_TIMER_EXPIRY (R207): all frames are sent, every flag is cleared, the coalescing timer stops, and the period in
force decides the next one. Taken after a coalescing expiry of the same moment it finds no flag set and sends nothing. -/
def execPeriodTimerExpiry (s : State) : Out :=
  .next (
    if s.report.period.isSome then
      let all : Reporter := { s.report with lanes := 0xF#4, positions := true, sets := true, general := true }
      if mayTransmit s && !(s.report.batched && s.report.unmarked) then
        sendMarked all { s with report := { s.report.cleared with coalesce := none, period := some (periodNow s) } }
      else { s with report := { s.report with period := some (periodNow s) } }
    else s)

end Sys2Proof.Machine
end

