-- ==== Sys2Proof/Machine/RequestCommands.lean ====
section
/-! DEFINITION. The meanings of the request frames and of the frames the part discards (chapter 3). -/

namespace Sys2Proof.Machine

open Sys2Proof (Byte Station knownKind discardedForm)

/-- RUN_RECIPE (R55): checked in acceptance order; accepted, refused, or a preempt. -/
def execRunRecipe (st : Station) (body : List Byte) (s : State) : Out :=
  .next (receiveRequest st kindRunRecipe body (serveRun st kindRunRecipe body) s)

/-- RUN_STEP (R36, R55). -/
def execRunStep (st : Station) (body : List Byte) (s : State) : Out :=
  .next (receiveRequest st kindRunStep body (serveRun st kindRunStep body) s)

/-- LEARN (R97, R55). -/
def execLearn (st : Station) (body : List Byte) (s : State) : Out :=
  .next (receiveRequest st kindLearn body (serveRun st kindLearn body) s)

/-- HOLD (R49): never answered; it wakes a sleeping part without being held, and is ignored while the start-up flag is
clear. -/
def execHold (st : Station) (body : List Byte) (s : State) : Out :=
  .next (
    if s.power.mode = .sleep then wake s
    else
      let s := busTraffic s
      if s.request.ready then serveHold st body s else s)

/-- HALT (R57). -/
def execHalt (st : Station) (body : List Byte) (s : State) : Out :=
  .next (receiveRequest st kindHalt body (serveHalt st body) s)

/-- RESUME (R58). -/
def execResume (st : Station) (body : List Byte) (s : State) : Out :=
  .next (receiveRequest st kindResume body (serveResume st body) s)

/-- CANCEL (R59). -/
def execCancel (st : Station) (body : List Byte) (s : State) : Out :=
  .next (receiveRequest st kindCancel body (serveCancel st body) s)

/-- CLEAR_FAULT (R60). -/
def execClearFault (st : Station) (body : List Byte) (s : State) : Out :=
  .next (receiveRequest st kindClearFault body (serveClearFault st body) s)

/-- ACK_RESTART (R61). -/
def execAckRestart (st : Station) (body : List Byte) (s : State) : Out :=
  .next (receiveRequest st kindAckRestart body (serveAckRestart st body) s)

/-- A request of an unknown kind (R44). A known kind spells another row's command. -/
def execUnknownKindRequest (st : Station) (kind : Byte) (body : List Byte) (s : State) : Out :=
  if knownKind kind then .refused .notACommand
  else .next (receiveRequest st kind body (serveUnknown st kind body) s)

/-- A discarded frame (R41, R44, R189, R191): it restarts the silence timer, and wakes a sleeping part. -/
def execDiscardedFrame (ident : BitVec 11) (data : List Byte) (s : State) : Out :=
  if discardedForm ident data then
    .next (if s.power.mode = .sleep then wake s else busTraffic s)
  else .refused .notACommand

end Sys2Proof.Machine
end

