-- ==== Sys2Proof/Machine/ServiceCommands.lean ====
section
/-! DEFINITION. The meanings of the service frames and of the ends of their 10 ms operations (section 10.3). -/

namespace Sys2Proof.Machine

open Sys2Proof (Byte badServiceFrame)

/-- READ_FIELD (R199). -/
def execReadField (body : List Byte) (s : State) : Out :=
  .next (receiveService opRead body (serveRead body) s)

/-- WRITE_FIELD (R200). -/
def execWriteField (body : List Byte) (s : State) : Out :=
  .next (receiveService opWrite body (serveWrite body) s)

/-- CLEAR_LOG (R202). -/
def execClearLog (body : List Byte) (s : State) : Out :=
  .next (receiveService opClearLog body (serveClearLog body) s)

/-- FACTORY_PROFILE (R202). -/
def execFactoryProfile (body : List Byte) (s : State) : Out :=
  .next (receiveService opFactoryProfile body (serveFactoryProfile body) s)

/-- RESTART (R203). -/
def execRestart (body : List Byte) (s : State) : Out :=
  .next (receiveService opRestart body (serveRestart body) s)

/-- A service frame of an unknown operation or too short for its own (R199). Any other frame spells another row's
command. -/
def execUnknownServiceOperation (data : List Byte) (s : State) : Out :=
  match data with
  | [] => .refused .notACommand
  | op :: body =>
    if badServiceFrame (op :: body) then .next (receiveService op body (serveUnknownService op body) s)
    else .refused .notACommand

/-- SERVICE_WRITE_COMPLETION (R201): the end of a WRITE_FIELD's 10 ms. Without a write in progress there is no such
end. -/
def execServiceWriteCompletion (s : State) : Out :=
  match s.service.busy with
  | some (.write tag f v) => .next (completeWrite tag f v s)
  | _ => .next s

/-- CLEAR_LOG_COMPLETION (R202). -/
def execClearLogCompletion (s : State) : Out :=
  match s.service.busy with
  | some (.clearLog tag) => .next (completeClearLog tag s)
  | _ => .next s

/-- FACTORY_PROFILE_COMPLETION (R202). -/
def execFactoryProfileCompletion (s : State) : Out :=
  match s.service.busy with
  | some (.factoryProfile tag a) => .next (completeFactoryProfile tag a s)
  | _ => .next s

end Sys2Proof.Machine
end

