-- ==== Sys2Proof/Machine/Dispatch.lean ====
section
/-! DEFINITION. The dispatch: one arm per command, each one direct call of its meaning. -/

namespace Sys2Proof.Machine

open Sys2Proof (Instr)

def exec (i : Instr) (s : State) : Host.Outcome State Fault Refusal :=
  match i with
  | .runRecipe st body => Sys2Proof.Machine.execRunRecipe st body s
  | .runStep st body => Sys2Proof.Machine.execRunStep st body s
  | .learn st body => Sys2Proof.Machine.execLearn st body s
  | .hold st body => Sys2Proof.Machine.execHold st body s
  | .halt st body => Sys2Proof.Machine.execHalt st body s
  | .resume st body => Sys2Proof.Machine.execResume st body s
  | .cancel st body => Sys2Proof.Machine.execCancel st body s
  | .clearFault st body => Sys2Proof.Machine.execClearFault st body s
  | .ackRestart st body => Sys2Proof.Machine.execAckRestart st body s
  | .unknownKindRequest st kind body => Sys2Proof.Machine.execUnknownKindRequest st kind body s
  | .discardedFrame ident data => Sys2Proof.Machine.execDiscardedFrame ident data s
  | .vehicleState data => Sys2Proof.Machine.execVehicleState data s
  | .readField body => Sys2Proof.Machine.execReadField body s
  | .writeField body => Sys2Proof.Machine.execWriteField body s
  | .clearLog body => Sys2Proof.Machine.execClearLog body s
  | .factoryProfile body => Sys2Proof.Machine.execFactoryProfile body s
  | .restart body => Sys2Proof.Machine.execRestart body s
  | .unknownServiceOperation data => Sys2Proof.Machine.execUnknownServiceOperation data s
  | .serviceWriteCompletion => Sys2Proof.Machine.execServiceWriteCompletion s
  | .clearLogCompletion => Sys2Proof.Machine.execClearLogCompletion s
  | .factoryProfileCompletion => Sys2Proof.Machine.execFactoryProfileCompletion s
  | .powerOn mv => Sys2Proof.Machine.execPowerOn mv s
  | .brownout mv => Sys2Proof.Machine.execBrownout mv s
  | .resetLine => Sys2Proof.Machine.execResetLine s
  | .wakeLine => Sys2Proof.Machine.execWakeLine s
  | .storeCheckComplete damaged => Sys2Proof.Machine.execStoreCheckComplete damaged s
  | .wakeStartUpComplete => Sys2Proof.Machine.execWakeStartUpComplete s
  | .hallPulse a => Sys2Proof.Machine.execHallPulse a s
  | .loadSample l reading mv => Sys2Proof.Machine.execLoadSample l reading mv s
  | .blankingEnd l => Sys2Proof.Machine.execBlankingEnd l s
  | .stall l => Sys2Proof.Machine.execStall l s
  | .relayMade l => Sys2Proof.Machine.execRelayMade l s
  | .brakeEnd l => Sys2Proof.Machine.execBrakeEnd l s
  | .reversalBrakeEnd l => Sys2Proof.Machine.execReversalBrakeEnd l s
  | .runOnEnd a => Sys2Proof.Machine.execRunOnEnd a s
  | .gateTimerExpiry l => Sys2Proof.Machine.execGateTimerExpiry l s
  | .claimTimerExpiry l => Sys2Proof.Machine.execClaimTimerExpiry l s
  | .dwellTimerExpiry l => Sys2Proof.Machine.execDwellTimerExpiry l s
  | .pauseTimerExpiry l => Sys2Proof.Machine.execPauseTimerExpiry l s
  | .holdLapse l => Sys2Proof.Machine.execHoldLapse l s
  | .clearTimerExpiry l => Sys2Proof.Machine.execClearTimerExpiry l s
  | .totalTimerExpiry l => Sys2Proof.Machine.execTotalTimerExpiry l s
  | .yieldTimerExpiry l => Sys2Proof.Machine.execYieldTimerExpiry l s
  | .haltTimeout c => Sys2Proof.Machine.execHaltTimeout c s
  | .driftTimerExpiry c => Sys2Proof.Machine.execDriftTimerExpiry c s
  | .freshnessTimerExpiry => Sys2Proof.Machine.execFreshnessTimerExpiry s
  | .dozeTimerExpiry => Sys2Proof.Machine.execDozeTimerExpiry s
  | .silenceTimerExpiry => Sys2Proof.Machine.execSilenceTimerExpiry s
  | .supplyMeasurement mv => Sys2Proof.Machine.execSupplyMeasurement mv s
  | .presenceSampleRound counts => Sys2Proof.Machine.execPresenceSampleRound counts s
  | .seedingEnd c => Sys2Proof.Machine.execSeedingEnd c s
  | .tuneTrialEnd => Sys2Proof.Machine.execTuneTrialEnd s
  | .coalescingTimerExpiry => Sys2Proof.Machine.execCoalescingTimerExpiry s
  | .periodTimerExpiry => Sys2Proof.Machine.execPeriodTimerExpiry s
  | .brownoutRecovery mv => Sys2Proof.Machine.execBrownoutRecovery mv s

end Sys2Proof.Machine
end

