-- ==== Sys2Proof/Safety.lean ====
section
/-! DEFINITION. What counts as a safe state, and the terms in which the claims speak: when the part serves requests, what
a reply and received bus traffic change, the invariants that every step keeps, and what a command leaves
unchanged. -/

namespace Sys2Proof.Safety

open Sys2Proof Sys2Proof.Machine

/-! ### Serving, replies, bus traffic -/

/-- The part is awake and its start-up flag is set, so that requests and service frames are served (R50). -/
abbrev Serving (s : State) : Prop := s.power.mode ≠ .sleep ∧ s.request.ready = true

/-- What a received frame alone changes outside SLEEP: the silence timer restarts with 2 s (R189). -/
def heard (s : State) : State :=
  { s with power := { s.power with silenceTimer := some 2000, silenceExpired := false } }

/-- What a verdict other than ACCEPTED changes (R65, R66): one more reply, and one more history entry. -/
def answered (st : Station) (tag kind : Byte) (obj : Option ReqObject) (v : Verdict) (s : State) : State :=
  { s with
    tx := { s.tx with replies := s.tx.replies ++ [replyFrame st tag kind v 0#4 false false] }
    request := { s.request with history := pushRing s.request.history ⟨st, tag, kind, obj, v, s.now⟩ } }

/-- What a service verdict changes (R199): one more reply on 0x3BC. -/
def serviceAnswered (op tag : Byte) (v : Verdict) (absent : Bool) (value : BitVec 16) (s : State) : State :=
  { s with tx := { s.tx with replies := s.tx.replies ++ [serviceFrame op tag v absent value] } }

/-! ### Invariants -/

/-- The rings hold at most eight entries and the saturating and wrapping counters stay in their ranges (R2, R66, R169,
R185, R193, R197, R198). -/
abbrev Bounded (s : State) : Prop :=
  s.request.history.length ≤ 8 ∧ s.ram.log.length ≤ 8 ∧ s.store.log.length ≤ 8 ∧
  s.ram.lifetime ≤ 65535 ∧ s.store.lifetime ≤ 65535 ∧ s.ram.restartCount ≤ 65535 ∧
  s.store.restartCount ≤ 65535 ∧ s.presence.reseedCount ≤ 255 ∧ s.supply.lowRun ≤ 10 ∧
  s.now < 2 ^ 32 ∧ ∀ a : ActId, s.acts[a].manualPulses ≤ 50

/-- Every group of the store and its checksum together sum to 0 (R194). -/
abbrev StoreSound (s : State) : Prop :=
  ∀ i : Fin 7, sumsToZero s.store (groupAt i) s.checksums[i] = true

/-- Outside a restart start-up the store and its RAM copies are the same, with every group's checksum right (R194, R196),
and only a part that has started up is in DOZE or SLEEP (R187). -/
abbrev StoreMatches (s : State) : Prop :=
  ((s.startUp = .running ∨ s.startUp = .wake) → s.ram = s.store ∧ StoreSound s) ∧
  (s.power.mode ≠ .active → s.startUp = .running)

/-- A channel is MAKING only for a lane in ARMING, DRIVING only for one in MOVING or REVERSING, and in its reversal brake
only for one in REVERSING; and the channel of a MOVING lane drives (section 4.2). -/
abbrev ChannelsFollowLanes (s : State) : Prop :=
  ∀ l : LaneId,
    (s.drives[l].phase = .making → s.lanes[l].state = .arming) ∧
    (s.drives[l].phase = .driving → s.lanes[l].state = .moving ∨ s.lanes[l].state = .reversing) ∧
    (s.drives[l].phase = .braking → s.drives[l].reversal = true → s.lanes[l].state = .reversing) ∧
    (s.lanes[l].state = .moving → s.drives[l].phase = .driving)

/-- A lane is in MOVING only while the interlock is satisfied, supply low is not in force, and a HOLD-mode lane's hold is
current (R76); in DOZE and SLEEP every lane is IDLE or OFFLINE (section 9.4), and such a lane has no step context
(R70, R90). -/
abbrev SafeMotion (s : State) : Prop :=
  ChannelsFollowLanes s ∧
  (∀ l : LaneId, s.lanes[l].state = .moving →
    interlock s = true ∧ s.supply.low = false ∧
      (s.lanes[l].mode = some .hold → s.lanes[l].lapseTimer.isSome = true)) ∧
  (s.power.mode ≠ .active → allIdle s = true) ∧
  (∀ l : LaneId, s.lanes[l].state.free = true → s.lanes[l].ctx = none)

/-- A lane has no entry on the wait list. -/
abbrev Unlisted (s : State) (l : LaneId) : Prop := ∀ e ∈ s.waitList, e.lane ≠ l

/-- The wait list holds each lane in CLAIMING exactly once and no other lane, and a lane in CLAIMING holds no zone (R99). -/
abbrev WaitListFits (s : State) : Prop :=
  ChannelsFollowLanes s ∧
  (s.waitList.map fun e => e.lane).Nodup ∧
  (∀ e ∈ s.waitList, s.lanes[e.lane].state = .claiming) ∧
  (∀ l : LaneId, s.lanes[l].state = .claiming →
    ¬ Unlisted s l ∧ s.lanes[l].ctx.isSome = true ∧ heldBy s l = 0#12)

/-- A pending preempt awaits some lane (R63). -/
abbrev PreemptWaits (s : State) : Prop := s.request.slot.all (fun p => p.awaited != 0#4) = true

/-- No pending preempt awaits the lane (R63). -/
abbrev Unawaited (s : State) (l : LaneId) : Prop :=
  PreemptWaits s ∧ s.request.slot.all (fun p => !has p.awaited l) = true

/-- The timers, the queue and the tune of the Presence Unit follow the channels: a drift timer runs and a queued channel
stands in CLEAR, but for the one in TUNING (R171); a halt timer runs in NEAR or CONTACT (R169); the tune in progress is of
the one channel in TUNING, which it found CLEAR (R172); and P11 is STARTING or CLEAR and is never tuned (R160, R171). -/
abbrev TuneFits (s : State) : Prop :=
  (∀ c : ChanId,
    (has s.presence.queue c = true → s.chans[c].state = .clear ∨ s.chans[c].state = .tuning) ∧
    (s.chans[c].driftTimer.isSome = true → s.chans[c].state = .clear) ∧
    (s.chans[c].haltTimer.isSome = true → s.chans[c].state = .near ∨ s.chans[c].state = .contact) ∧
    (s.chans[c].state = .tuning → s.presence.tune.any (fun k => k.channel == c) = true)) ∧
  s.presence.tune.all (fun k => s.chans[k.channel].state == .tuning && k.savedState == .clear) = true ∧
  (s.chans[(11 : ChanId)].state = .starting ∨ s.chans[(11 : ChanId)].state = .clear) ∧
  s.chans[(11 : ChanId)].driftTimer = none ∧ has s.presence.queue 11 = false

/-! ### What a command leaves unchanged -/

/-- The settings groups, in RAM and in the store, with their checksums. -/
abbrev SameSettings (s t : State) : Prop := t.ram = s.ram ∧ t.store = s.store ∧ t.checksums = s.checksums

/-- Every actuator's counted position and reference. -/
abbrev SamePositions (s t : State) : Prop :=
  ∀ a : ActId, t.acts[a].position = s.acts[a].position ∧ t.acts[a].referenced = s.acts[a].referenced

/-- The held Vehicle State, the latest supply measurement with supply low, the restart notice and the start-up. -/
abbrev SameVehicle (s t : State) : Prop :=
  t.vehicle = s.vehicle ∧ t.supply.measured = s.supply.measured ∧ t.supply.low = s.supply.low ∧
  t.power.notice = s.power.notice ∧ t.startUp = s.startUp

/-- The replies and the Request Unit. -/
abbrev SameRequests (s t : State) : Prop := t.tx.replies = s.tx.replies ∧ t.request = s.request

/-- Everything that only the vehicle, the tester, the supply and a drive change. -/
abbrev SameSurroundings (s t : State) : Prop :=
  SameSettings s t ∧ SamePositions s t ∧ SameVehicle s t ∧ t.service = s.service ∧ t.now = s.now

/-- The lanes, their channels, the zones and the wait list. -/
abbrev SameLanes (s t : State) : Prop :=
  t.lanes = s.lanes ∧ t.drives = s.drives ∧ t.holders = s.holders ∧ t.waitList = s.waitList

/-- The lane is PAUSED with a reason and a resume point, and its 120 s pause timer has just started (R86, R87). -/
abbrev PausedAt (r : Lane) (reason : PauseReason) (rp : ResumePoint) : Prop :=
  r.state = .paused ∧ r.pauseReason = some reason ∧ r.resumePoint = some rp ∧ r.pauseTimer = some 120000

/-- The lane keeps every zone that it holds. -/
abbrev KeepsZones (s t : State) (l : LaneId) : Prop :=
  ∀ z : ZoneId, s.holders[z] = some l → t.holders[z] = some l

/-- The lane holds nothing (R70, R71). -/
abbrev HoldsNothing (t : State) (l : LaneId) : Prop :=
  heldBy t l = 0#12 ∧ t.lanes[l].bound = [] ∧ ∀ a : ActId, t.acts[a].binding ≠ some l

/-- The blocks stand at their restart values (R98, R133, R158, R178, R180, R189, section 3.8, R204, R207). The supply
monitor stands before its first measurement while the start-up is held back, and has made it, with its next 10 ms away,
once the start-up has begun (R184, R185, R192 step 1). The doze time is that of the RAM copy (log entry 3). -/
abbrev AtRestartValues (t : State) : Prop :=
  (∀ l : LaneId, t.lanes[l] = Lane.restart ∧ t.drives[l] = Drive.restart ∧ t.loads[l] = Load.restart) ∧
  (∀ c : ChanId, t.chans[c] = ChanRun.restart) ∧
  (∀ z : ZoneId, t.holders[z] = none) ∧ t.waitList = [] ∧
  (∀ a : ActId, t.acts[a].binding = none ∧ t.acts[a].cond = .atRest ∧ t.acts[a].manualPulses = 0) ∧
  t.presence = Presence.restart ∧ t.vehicle = Vehicle.restart ∧ t.request = RequestUnit.restart ∧
  t.service = ServiceUnit.restart ∧ t.report = Reporter.restart ∧ t.tx.status = [] ∧ t.now = 0 ∧
  t.supply.low = false ∧
  t.supply.lowRun = (match t.startUp with
    | .held _ => 0
    | _ => if t.supply.measured < 9000 then 1 else 0) ∧
  t.supply.timer = (match t.startUp with
    | .held _ => none
    | _ => some 10) ∧
  t.power.mode = .active ∧ t.power.dozeTimer = some (t.ram.dozeTime * 1000) ∧ t.power.sleepWaiting = false ∧
  t.power.silenceTimer = some 2000 ∧ t.power.silenceExpired = false

/-! ### Requests, service and lanes -/

/-- The verdict that refuses a RUN or LEARN request for good: the first failed check, a conflict included unless BODY
preempts (R54). -/
def refusalOf (s : State) (st : Station) (run : RunReq) : Option Verdict :=
  match decideRun s st run with
  | .refused v => some v
  | .conflict _ => if run.preempts then none else some .conflict
  | .start _ => none

/-- What an accepted request has written into one of its lanes (R55), the lane being on its way to its first motion. -/
abbrev StartedOn (s t : State) (st : Station) (tag : Byte) (run : RunReq) (partner : Option LaneId)
    (k : Track) (l : LaneId) : Prop :=
  t.lanes[l].owner = some st ∧ t.lanes[l].tag = some tag ∧ t.lanes[l].mode = some (runMode s run).1 ∧
  t.lanes[l].plan = some k.plan ∧ t.lanes[l].partner = partner ∧ t.lanes[l].bound = k.acts ∧
  t.lanes[l].inline = k.inlineRecord ∧
  t.lanes[l].stepsCompleted = 0 ∧ t.lanes[l].holdTime = some s.now ∧ t.lanes[l].faultReason = none ∧
  t.lanes[l].lastResult = none ∧ t.lanes[l].currentStep = k.first.map (fun x => x.2) ∧
  ((runMode s run).2 = true → t.lanes[l].incidents &&& 0x40#7 = 0x40#7) ∧
  (∀ a ∈ k.acts, t.acts[a].binding = some l) ∧
  (t.lanes[l].state = .waitGate ∨ t.lanes[l].state = .claiming ∨ t.lanes[l].state = .arming)

/-- Checks 3 and 4 of R200, made at the start of a store-changing operation and again at its end. -/
def storeVerdict (s : State) : Option Verdict :=
  if s.vehicle.freeze then some .storeFrozen
  else if !(allIdle s && interlock s) then some .serviceRefused
  else none

/-- Checks 3 to 5 of R200. -/
def changeVerdict (s : State) : Option Verdict :=
  match storeVerdict s with
  | some v => some v
  | none => if s.service.busy.isSome then some .storeBusy else none

/-- The part has begun its wake start-up (R191), the vehicle's condition withdrawn and everything else kept. -/
abbrev Woken (s t : State) : Prop :=
  t.startUp = .wake ∧ t.power.mode = .active ∧ t.power.silenceTimer = some 2000 ∧
  t.request.ready = false ∧ t.vehicle.fresh = false ∧ t.vehicle.freeze = false ∧
  t.vehicle.held = s.vehicle.held ∧ t.power.notice = s.power.notice ∧ t.report.general = true ∧
  SameLanes s t ∧ SameSettings s t ∧ SamePositions s t ∧ t.tx.replies = s.tx.replies ∧
  t.request.history = s.request.history

/-- A lane that loses the interlock: MOVING stops toward PAUSED(INTERLOCK), and every other lane is as it was (R88). -/
abbrev InterlockLost (s t : State) : Prop :=
  ∀ l : LaneId,
    if s.lanes[l].state = .moving then
      t.lanes[l].state = .stopping ∧ t.lanes[l].stopDest = some (.paused .interlock)
    else t.lanes[l] = s.lanes[l]

/-- The position record of an actuator in the settings stands as captured (R8): the RAM values, with the mark clear. -/
abbrev Captured (s t : State) (a : ActId) : Prop :=
  t.ram.actuators[a].storedPosition = s.acts[a].position ∧
  t.ram.actuators[a].storedReferenced = s.acts[a].referenced ∧ t.ram.actuators[a].motionMark = false ∧
  t.store.actuators[a].storedPosition = s.acts[a].position ∧
  t.store.actuators[a].storedReferenced = s.acts[a].referenced ∧ t.store.actuators[a].motionMark = false

/-- A channel whose relay is open: no actuator, no direction, no duty (R117). -/
abbrev RelayOpen (t : State) (l : LaneId) : Prop :=
  t.drives[l].phase = .relayOpen ∧ t.drives[l].connected = none ∧ t.drives[l].direction = none ∧
  t.drives[l].duty = 0

/-- A channel in a brake of `ms` milliseconds (R124). -/
abbrev Braking (t : State) (l : LaneId) (ms : Nat) (reversal : Bool) : Prop :=
  t.drives[l].phase = .braking ∧ t.drives[l].duty = 0 ∧ t.drives[l].brakeTimer = some ms ∧
  t.drives[l].reversal = reversal

/-- A partner fault has reached lane `p` (R96): by the state that the lane was in, as HALT acts there (R91), with reason
PARTNER_FAULT. A lane in CLAIMING may have been granted before it, by the scan for the zones that the faulted lane has
released (log entry 13). -/
abbrev PartnerFaulted (s t : State) (p : LaneId) : Prop :=
  match s.lanes[p].state with
  | .moving => t.lanes[p].state = .stopping ∧ t.lanes[p].stopDest = some (.paused .partnerFault) ∧
      Braking t p 50 false ∧ KeepsZones s t p
  | .arming => PausedAt t.lanes[p] .partnerFault .motion ∧ RelayOpen t p ∧ KeepsZones s t p
  | .claiming => Unlisted t p ∧
      (PausedAt t.lanes[p] .partnerFault .claim ∧ heldBy t p = 0#12 ∨
        PausedAt t.lanes[p] .partnerFault .motion ∧ RelayOpen t p)
  | .waitGate => PausedAt t.lanes[p] .partnerFault .gate ∧ KeepsZones s t p
  | .dwell => PausedAt t.lanes[p] .partnerFault .afterStep ∧ KeepsZones s t p
  | .waitAdvance => PausedAt t.lanes[p] .partnerFault .advance ∧ KeepsZones s t p
  | .fenced => PausedAt t.lanes[p] .partnerFault .motion ∧ KeepsZones s t p
  | .paused => t.lanes[p] = { s.lanes[p] with pauseReason := some .partnerFault } ∧ KeepsZones s t p
  | .stopping | .reversing =>
      t.lanes[p] = { s.lanes[p] with
        stopDest := (match s.lanes[p].stopDest with
          | some (.idle r) => some (.idle r)
          | _ => some (.paused .partnerFault)) } ∧ KeepsZones s t p
  | .settling =>
      t.lanes[p] = { s.lanes[p] with
        pendingOrder := (match s.lanes[p].pendingOrder with
          | some (.cancel r) => some (.cancel r)
          | _ => some (.halt .partnerFault)) } ∧ KeepsZones s t p
  | .idle | .faulted | .offline => t.lanes[p] = s.lanes[p] ∧ KeepsZones s t p

/-- A lane has entered FAULTED, and its partner, while both belong to the arrangement, has received a partner fault; a lane
that is neither its partner nor in CLAIMING or FENCED, which its released zones may concern, is as it was (R96). -/
abbrev FaultHandedOn (s t : State) (l : LaneId) : Prop :=
  ∀ k : LaneId, k ≠ l →
    if s.lanes[l].partner = some k ∧ s.lanes[k].partner = some l ∧ s.lanes[k].state.free = false then PartnerFaulted s t k
    else s.lanes[k].state ≠ .claiming → s.lanes[k].state ≠ .fenced → t.lanes[k] = s.lanes[k]

/-- A load context as a drive start leaves it (R134, R135, R139): nothing sampled, the given blanking and mode, and the
margins of the actuator, or those of a guard-lost sweep. -/
abbrev LoadStarted (s t : State) (l : LaneId) (a : ActId) (blank : Nat) (mode : ClassMode) (guardLost : Bool) : Prop :=
  t.loads[l].filtered = none ∧ t.loads[l].samples = 0 ∧ t.loads[l].blanking = blank ∧ t.loads[l].softRun = 0 ∧
  t.loads[l].firmRun = 0 ∧ t.loads[l].absRun = 0 ∧ t.loads[l].deviation = none ∧ t.loads[l].mode = mode ∧
  (if guardLost then
    t.loads[l].marginSoft = s.ram.actuators[a].softMargin / 2 ∧ t.loads[l].marginFirm = s.ram.actuators[a].softMargin
  else
    t.loads[l].marginSoft = s.ram.actuators[a].softMargin ∧ t.loads[l].marginFirm = s.ram.actuators[a].firmMargin)

/-- An onset of supply low reaches every lane (R88, R124): MOVING stops toward PAUSED(SUPPLY); REVERSING stops too, its
reversal brake given up for one of 50 ms, with a destination IDLE kept; every other lane is as it was. -/
abbrev SupplyLost (s t : State) : Prop :=
  ∀ l : LaneId,
    if s.lanes[l].state = .moving then
      t.lanes[l].state = .stopping ∧ t.lanes[l].stopDest = some (.paused .supply) ∧
        (s.drives[l].phase = .driving → Braking t l 50 false)
    else if s.lanes[l].state = .reversing then
      t.lanes[l].state = .stopping ∧
        t.lanes[l].stopDest = some (match s.lanes[l].stopDest with
          | some (.idle r) => .idle r
          | _ => .paused .supply) ∧
        (s.drives[l].phase = .driving → Braking t l 50 false) ∧
        (s.drives[l].phase = .braking →
          t.drives[l].phase = .braking ∧ t.drives[l].brakeTimer = some 50 ∧ t.drives[l].reversal = false)
    else t.lanes[l] = s.lanes[l]

/-- The back-off of a lane is over: its step context stays as it is, but that its motion is again the interrupted one
(R68, R86), a learn lane's phase, else homing while it is pending, else the correction once it is used, else the step
(log entry 18). -/
abbrev BackedOff (s t : State) (l : LaneId) : Prop :=
  t.lanes[l].ctx = s.lanes[l].ctx.map (fun c : StepCtx => { c with
    motion := match s.loads[l].learn.map (fun r : LearnRec => r.phase) with
      | some .home => .learnHome
      | some .rise => .learnRise
      | some .back => .learnReturn
      | none => if c.homingPending then .homing else if c.correctionUsed then .correction else .step })

/-- A log entry has this kind, lane, actuator and position. -/
def isEntry (k : LogKind) (l : LaneId) (a : ActId) (pos : Nat) (e : LogEntry) : Bool :=
  e.kind = k && e.lane = some l && e.actuator = some a && e.position = some pos

/-- The newest entry of the fault log, in RAM and in the store, has this kind, lane, actuator and position. -/
abbrev Logged (t : State) (k : LogKind) (l : LaneId) (a : ActId) (pos : Nat) : Prop :=
  t.ram.log.getLast?.any (isEntry k l a pos) = true ∧ t.store.log.getLast?.any (isEntry k l a pos) = true

/-! ### Quantities that the claims compare -/

/-- The entries of a wait list that a scan grants, from the head to the tail (R101 to R103): an entry gets its wanted
zones when none of them is held or fenced, and the entries after it find them held. -/
def granted (fence : ZoneSet) : ZoneSet → List WaitEntry → List WaitEntry
  | _, [] => []
  | held, e :: es =>
    if meets e.wanted (held ||| fence) then granted fence held es
    else e :: granted fence (held ||| e.wanted) es

/-- The distance left to a position in a drive direction (R121). -/
def leftTo (dir : Direction) (p goal : Nat) : Int :=
  match dir with
  | .increasing => (goal : Int) - (p : Int)
  | .decreasing => (p : Int) - (goal : Int)

/-- The coast allowance of a speed class (R122). -/
def coastAllowance : SpeedClass → Nat
  | .creep => 4
  | .normal => 12
  | .fast => 24

/-- The average that a tune keeps at the end of a trial (R173): the trial's own at or below the band's upper end, else the
one kept before. -/
def keptAfter (s : State) (k : Tune) : Option Nat :=
  if k.sum / 8 ≤ s.ram.channels[k.channel].tuneTarget + s.ram.channels[k.channel].tuneTarget / 8 then some (k.sum / 8)
  else k.kept

/-- The gain that a tune has at the end of a trial (R173): the trial's bit is cleared when its average is not kept. -/
def gainAfter (s : State) (k : Tune) : Nat :=
  if k.sum / 8 ≤ s.ram.channels[k.channel].tuneTarget + s.ram.channels[k.channel].tuneTarget / 8 then k.trialGain
  else k.trialGain - k.bit

/-- A filtered count after a raw count (R163): a quarter of the way, truncated toward zero. -/
def countAfter (f raw : Nat) : Nat := ((f : Int) + ((raw : Int) - (f : Int)).tdiv 4).toNat

/-- A baseline after a sample that brings the filtered count to `f` (R164): tracked by 1/128, in DOZE by 1/32, where it is
tracked at all, and then raised to `f` when `f` stands above it by more than the near threshold. -/
def baselineAfter (s : State) (c : ChanId) (tracked : Bool) (f : Nat) : Nat :=
  let a : Nat := s.chans[c].baseline
  let b : Nat :=
    if tracked then ((a : Int) + ((f : Int) - (a : Int)).tdiv (if s.power.mode = .doze then 32 else 128)).toNat else a
  if b + s.ram.channels[c].nearThr < f then f else b

/-- A channel's delta after its sample in a round (R165): its baseline, tracked in CLEAR only, less its filtered count. -/
def deltaAfter (s : State) (c : ChanId) (raw : Nat) : Int :=
  let f := countAfter s.chans[c].filtered raw
  (baselineAfter s c (s.chans[c].state = .clear) f : Int) - (f : Int)

/-- The compensated delta of a channel in a round (R165): the reference delta is that of P11, 0 while P11 is STARTING, and
counts by the channel's weight in percent; a negative result counts as 0. -/
def compensatedAfter (s : State) (c : ChanId) (raw ref : Nat) : Nat :=
  let dref : Int := if s.chans[(11 : ChanId)].state = .starting then 0 else deltaAfter s 11 ref
  (deltaAfter s c raw - (dref * (s.ram.channels[c].weight : Int)).tdiv 100).toNat

/-- The filtered current F after a sample of `i` mA (R136). -/
def filteredAfter (x : Load) (i : Nat) : Nat :=
  match x.filtered with
  | none => i
  | some f => ((f : Int) + ((i : Int) - (f : Int)).tdiv 4).toNat

/-- The deviation D of a sample of `i` mA at position `p` (R138, R139). -/
def deviationAfter (x : Load) (r : ActuatorRec) (p i : Nat) : Int :=
  (filteredAfter x i : Int) - (r.profile[min 31 (p * 32 / (r.travel + 1))]'(by omega) : Int)

/-- A sample of `i` mA at position `p` is the third of a firm run in PROFILE mode, or the third of an absolute run in
ABSOLUTE mode, after blanking (R137, R139 to R141). -/
abbrev FirmAt (x : Load) (r : ActuatorRec) (p i : Nat) : Prop :=
  x.blanking ≤ x.samples ∧
  ((x.mode = .profile ∧ (x.marginFirm : Int) ≤ deviationAfter x r p i ∧ x.firmRun = 2) ∨
    (x.mode = .absolute ∧ 12000 ≤ filteredAfter x i ∧ x.absRun = 2))

/-- A sample of `i` mA at position `p` is the fifth of a soft run in PROFILE mode, after blanking, in a step that has
handled no SOFT, and is not FIRM (R137, R139, R141). -/
abbrev SoftAt (x : Load) (r : ActuatorRec) (p i : Nat) : Prop :=
  x.blanking ≤ x.samples ∧ x.mode = .profile ∧ (x.marginSoft : Int) ≤ deviationAfter x r p i ∧ x.softRun = 4 ∧
  x.softHandled = false ∧ ¬ ((x.marginFirm : Int) ≤ deviationAfter x r p i ∧ x.firmRun = 2)

/-- The position is within 8 counts of the resolved target (R79). -/
abbrev OnTarget (s : State) (c : StepCtx) : Prop :=
  s.acts[c.act].position ≤ c.pt + 8 ∧ c.pt ≤ s.acts[c.act].position + 8

/-- The sweep set of a correction from the present position (R14, R79). -/
def correctionSweep (s : State) (c : StepCtx) : ZoneSet :=
  spanSweep s.ram.actuators[c.act] s.acts[c.act].position c.pt ||| c.step.extraZones.getD 0#12

/-- A step or correction that is complete where it has come to rest (R79): on target, or missed with the correction used
or its sweep set not held. -/
abbrev StepOver (s : State) (l : LaneId) (c : StepCtx) : Prop :=
  OnTarget s c ∨ c.correctionUsed = true ∨ subset (correctionSweep s c) (heldBy s l) = false

/-- The stall watch has measured 80 ms (R125). -/
abbrev StallMeasured (d : Drive) : Prop := d.stallTime.any (fun x => decide (80 ≤ x)) = true

/-- The step that a chain reaches from step `n` after `k` further visits, none when it ends before (R28). -/
def stepAfter (steps : Vector StepRec 96) : Nat → StepId → Option StepId
  | 0, n => some n
  | k + 1, n =>
    match steps[n].next with
    | none => none
    | some m => stepAfter steps k m

/-- A track of recipe `n` (R32, R34): its first step as stored, and the actuator list and step count of its walk. -/
def trackOf (s : State) (n : RecipeId) (isB : Bool) (first : StepId) (w : Walk) : Track :=
  { plan := .recipe n isB, first := some (s.ram.steps[first], .stored first), acts := w.acts, steps := some w.steps }

/-- The STORE_CORRUPT entries that a restart makes for the groups given (R193, R195, R197): sequences on from the lifetime
count given, the restart count after its rise, no lane, actuator, position, deviation or arrangement, the group, and
no history copies. -/
def corruptEntries (lifetime restarts time : Nat) (gs : List Group) : List LogEntry :=
  gs.mapIdx fun i g =>
    { sequence := min 65535 (lifetime + i + 1), kind := .storeCorrupt, restartCount := restarts, time := time
      mode := .active, lane := none, actuator := none, position := none, deviation := none, arrangement := none
      group := some g, preceding := [] }

/-- The command that a request's kind and body spell. -/
def requestOf (st : Station) (kind : Byte) (body : List Byte) : Instr :=
  if kind = 1#8 then .runRecipe st body
  else if kind = 2#8 then .runStep st body
  else if kind = 3#8 then .learn st body
  else if kind = 4#8 then .hold st body
  else if kind = 5#8 then .halt st body
  else if kind = 6#8 then .resume st body
  else if kind = 7#8 then .cancel st body
  else if kind = 8#8 then .clearFault st body
  else if kind = 9#8 then .ackRestart st body
  else .unknownKindRequest st kind body

/-- The command that a service frame's operation and body spell. -/
def serviceOf (op : Byte) (body : List Byte) : Instr :=
  if op = 1#8 then .readField body
  else if op = 2#8 then .writeField body
  else if op = 3#8 then .clearLog body
  else if op = 4#8 then .factoryProfile body
  else if op = 5#8 then .restart body
  else .unknownServiceOperation (op :: body)

/-- A lane state from which a cancel leads to IDLE in the same event (R93). -/
def endsAtOnce : LaneState → Bool
  | .waitGate | .claiming | .arming | .fenced | .dwell | .waitAdvance | .paused => true
  | _ => false

/-- A state of a lane that has gone on toward its next motion. -/
abbrev GoneOn (r : Lane) : Prop := r.state = .arming ∨ r.state = .fenced ∨ r.state = .claiming

/-- The commands that only requests and lanes' timers bring: they change no setting, no position and nothing of the
vehicle's. -/
def laneCommand : Instr → Bool
  | .runRecipe _ _ | .runStep _ _ | .learn _ _ | .hold _ _ | .halt _ _ | .resume _ _ | .cancel _ _
  | .clearFault _ _ | .gateTimerExpiry _ | .claimTimerExpiry _ | .dwellTimerExpiry _ | .pauseTimerExpiry _
  | .holdLapse _ | .clearTimerExpiry _ | .totalTimerExpiry _ | .yieldTimerExpiry _ => true
  | _ => false

/-- The commands of the Presence Unit that store nothing. -/
def presenceCommand : Instr → Bool
  | .presenceSampleRound _ | .seedingEnd _ | .haltTimeout _ | .driftTimerExpiry _ => true
  | _ => false

end Sys2Proof.Safety
end

