-- ==== Sys2Proof/Certificates/Slice0/Obligations.lean ====
section
/-! DEFINITION. The statements for the provers. A statement about a command says, for every state and every operand
that meets its hypotheses, the next state or what the next state holds; nothing in it speaks of a program. -/

open Sys2Proof Sys2Proof.Machine Sys2Proof.Safety

/-- O1. For every command c and state s, the step of s with c at the front of its queue is exec of c on s with the
queue's rest. The queue is the model's own way to bring commands to the block. -/
def Obligations.StepRunsFrontCommand : Prop :=
  ∀ (c : Instr) (rest : List Instr) (s : State),
    step { s with pending := c :: rest } = exec c { s with pending := rest }

/-- O2. With no command waiting, the step counts the time since restart up by 1 ms modulo 2^32 (R66), counts every
running timer of the lanes, the wait list and the drive channels down by 1 ms, held at 0, and a running stall
measurement up, and changes nothing else of the lanes, the wait list and the channels, and no position, setting,
reply or zone. The spec says what each timer measures; the tick of one millisecond is the model's own. (R66,
R68, R99, R125.) -/
def Obligations.EmptyQueueLetsTimePass : Prop :=
  ∀ (s : State), s.pending = [] →
    ∃ t, step s = .next t ∧ t.now = (s.now + 1) % 2 ^ 32 ∧ SameSettings s t ∧ SamePositions s t ∧
      SameRequests s t ∧ t.vehicle.held = s.vehicle.held ∧ t.holders = s.holders ∧
      t.waitList = s.waitList.map (fun e => { e with yieldTimer := e.yieldTimer.map (fun x => x - 1) }) ∧
      ∀ l : LaneId,
        t.lanes[l] = { s.lanes[l] with
          gateTimer := s.lanes[l].gateTimer.map (fun x => x - 1)
          claimTimer := s.lanes[l].claimTimer.map (fun x => x - 1)
          dwellTimer := s.lanes[l].dwellTimer.map (fun x => x - 1)
          clearTimer := s.lanes[l].clearTimer.map (fun x => x - 1)
          totalTimer := s.lanes[l].totalTimer.map (fun x => x - 1)
          pauseTimer := s.lanes[l].pauseTimer.map (fun x => x - 1)
          lapseTimer := s.lanes[l].lapseTimer.map (fun x => x - 1) } ∧
        t.drives[l] = { s.drives[l] with
          makeTimer := s.drives[l].makeTimer.map (fun x => x - 1)
          brakeTimer := s.drives[l].brakeTimer.map (fun x => x - 1)
          stallTime := s.drives[l].stallTime.map (fun x => x + 1) }

/-- O3. No command that can reach the part ends in a fault or a refusal: for every well-formed command and every
state, exec answers a next state; and whatever the command and the state, the commands that wait are the same
after it. The queue is the model's own (log entry 1). (R44, R180, R199, R205.) -/
def Obligations.CommandsCompleteAndLeaveTheQueueAlone : Prop :=
  (∀ (c : Instr) (s : State), c.wf = true → ∃ t, exec c s = .next t) ∧
    (∀ (c : Instr) (s t : State), exec c s = .next t → t.pending = s.pending)

/-- O4. With no tune in progress a grant scan visits the wait list from its oldest entry: an entry none of whose
wanted zones is held or fenced gets all of them and leaves the list, its lane enters ARMING and its channel
starts to make the relay to its step's actuator; the entries after it find its zones held; every other entry
keeps its place, and every other lane, channel and zone is as it was. After any grant scan, one that suspends a
tune included, no entry left on the list could be granted. (R75, R76, R101, R102, R103, R118.) -/
def Obligations.GrantScanServesTheWaitListInOrder : Prop :=
  ∀ (s : State), WaitListFits s →
    (s.presence.tune = none → (fenceView s).tuning = 0#12 →
      ∀ g : List WaitEntry, g = granted (fenced s) (allHeld s) s.waitList →
        (scan s).waitList = s.waitList.filter (fun e => !g.contains e) ∧
        (∀ e ∈ g, ∀ c, s.lanes[e.lane].ctx = some c →
          (scan s).lanes[e.lane] = { s.lanes[e.lane].leaving with state := .arming } ∧
          (scan s).drives[e.lane].phase = .making ∧ (scan s).drives[e.lane].connected = some c.act ∧
          (scan s).drives[e.lane].makeTimer = some 15 ∧
          ∀ z : ZoneId, has e.wanted z = true → (scan s).holders[z] = some e.lane) ∧
        (∀ l : LaneId, (∀ e ∈ g, e.lane ≠ l) →
          (scan s).lanes[l] = s.lanes[l] ∧ (scan s).drives[l] = s.drives[l]) ∧
        (∀ z : ZoneId, (∀ e ∈ g, has e.wanted z = false) → (scan s).holders[z] = s.holders[z])) ∧
    ∀ e ∈ (scan s).waitList, meets e.wanted (allHeld (scan s) ||| fenced (scan s)) = true

/-- O5. While the part serves requests, a RUN or LEARN request that decodes and fails an acceptance check, or meets
a conflict without BODY's preempt flag, is answered with the verdict of the first failed check and entered in
the history; the silence timer restarts, and nothing else in the whole state changes. (R50, R54, R65, R66,
R189.) -/
def Obligations.RefusedRunChangesNothingElse : Prop :=
  ∀ (s : State) (st : Station) (body : List Byte), Serving s →
    (∀ run, decodeRun st 1#8 body = some run → ∀ v, refusalOf s st run = some v →
       exec (.runRecipe st body) s =
         .next (answered st (byteAt body 0) 1#8 (some run.object) v (heard s))) ∧
    (∀ run, decodeRun st 2#8 body = some run → ∀ v, refusalOf s st run = some v →
       exec (.runStep st body) s =
         .next (answered st (byteAt body 0) 2#8 (some run.object) v (heard s))) ∧
    (∀ run, decodeRun st 3#8 body = some run → ∀ v, refusalOf s st run = some v →
       exec (.learn st body) s = .next (answered st (byteAt body 0) 3#8 (some run.object) v (heard s)))

/-- O6. For RUN_STEP, RUN_RECIPE and LEARN the decision is the first failed one of the checks 1 and 3 to 11, each
read from the state: start-up flag, recipe validity, permission or reach, station condition, interlock, latest
supply measurement at 9.5 V, chain walk, SEAT channels outside CLEAR that protect an actuator of the plan,
bindings, idle lanes. (R50, R51, R52, R53, R54, R35, R42.) -/
def Obligations.AcceptanceChecksInOrder : Prop :=
  ∀ (s : State) (st : Station),
    (∀ (m : AdvanceMode) (p : Bool) (a : ActId) (tg : Target) (k : SpeedClass) (pol : Policy),
      decideRun s st (.step m p a tg k pol) =
        if s.request.ready = false then .refused .notReady
        else if has (reach st) a = false then .refused .outOfReach
        else if stationCondition s st = false then .refused .stationCondition
        else if ¬ (s.vehicle.fresh = true ∧ s.vehicle.held.speed ≤ 2 ∧ s.vehicle.held.park = true) then
          .refused .interlock
        else if s.supply.measured < 9500 then .refused .supplyLow
        else if ∃ c : ChanId, chanKind c = .seat ∧ s.chans[c].state ≠ .clear ∧
            has s.ram.channels[c].protects a = true then .refused .occupied
        else if s.acts[a].binding.isSome then .conflict (single a)
        else if ∀ l : LaneId, s.lanes[l].state ≠ .idle then .refused .noLane
        else .start [⟨.singleStep, some (inlineStep a tg k pol, .inline), [a], some 1⟩]) ∧
    (∀ a : ActId,
      decideRun s st (.learn a) =
        if s.request.ready = false then .refused .notReady
        else if ¬ (st = .body ∨ st = .tester) then .refused .notPermitted
        else if ¬ (s.vehicle.fresh = true ∧ s.vehicle.held.speed ≤ 2 ∧ s.vehicle.held.park = true) then
          .refused .interlock
        else if s.supply.measured < 9500 then .refused .supplyLow
        else if ∃ c : ChanId, chanKind c = .seat ∧ s.chans[c].state ≠ .clear ∧
            has s.ram.channels[c].protects a = true then .refused .occupied
        else if s.acts[a].binding.isSome then .conflict (single a)
        else if ∀ l : LaneId, s.lanes[l].state ≠ .idle then .refused .noLane
        else .start [⟨.learn, none, [a], none⟩]) ∧
    (∀ (m : AdvanceMode) (p : Bool) (n : RecipeId),
      decideRun s st (.recipe m p n) =
        if s.request.ready = false then .refused .notReady
        else if s.ram.recipes[n].valid = false then .refused .noRecipe
        else if hasStation s.ram.recipes[n].permitted st = false then .refused .notPermitted
        else if stationCondition s st = false then .refused .stationCondition
        else if ¬ (s.vehicle.fresh = true ∧ s.vehicle.held.speed ≤ 2 ∧ s.vehicle.held.park = true) then
          .refused .interlock
        else if s.supply.measured < 9500 then .refused .supplyLow
        else match planTracks s (.recipe m p n) with
          | none => .refused .planInvalid
          | some ts =>
            if ∃ c : ChanId, chanKind c = .seat ∧ s.chans[c].state ≠ .clear ∧
                meets s.ram.channels[c].protects (planActs ts) = true then .refused .occupied
            else if ∃ a : ActId, has (planActs ts) a = true ∧ s.acts[a].binding.isSome = true then
              .conflict (planActs ts)
            else if (allLanes.filter fun l => s.lanes[l].state = .idle).length < ts.length then
              .refused .noLane
            else .start ts)

/-- O7. A request that passes every check is answered ACCEPTED with the started lanes and the degrade set, returns
the part to ACTIVE, and writes each started lane: owner, tag, mode after a downgrade, plan, partner, bound
actuators, steps completed 0, hold timestamp, DOWNGRADED, no fault reason and no last result; each actuator of
the track is bound to the lane, and the lane stands in WAIT_GATE, CLAIMING or ARMING. (R19, R32, R36, R55, R56,
R72, R97, R187.) -/
def Obligations.AcceptedRunStartsItsLanes : Prop :=
  ∀ (s : State) (st : Station) (body : List Byte), Serving s →
    (∀ run, decodeRun st 1#8 body = some run → ∀ ts, decideRun s st run = .start ts →
       ∃ t, exec (.runRecipe st body) s = .next t ∧
         t.power.mode = .active ∧
         t.tx.replies = s.tx.replies ++ [replyFrame st (byteAt body 0) 1#8 .accepted
           (laneSet ((idleLanes s).take ts.length)) (runMode s run).2 (targetClamped s run)] ∧
         ∀ p ∈ ts.zip ((idleLanes s).take ts.length),
           StartedOn s t st (byteAt body 0) run (partnerAmong ((idleLanes s).take ts.length) p.2) p.1 p.2) ∧
    (∀ run, decodeRun st 2#8 body = some run → ∀ ts, decideRun s st run = .start ts →
       ∃ t, exec (.runStep st body) s = .next t ∧
         t.power.mode = .active ∧
         t.tx.replies = s.tx.replies ++ [replyFrame st (byteAt body 0) 2#8 .accepted
           (laneSet ((idleLanes s).take ts.length)) (runMode s run).2 (targetClamped s run)] ∧
         ∀ p ∈ ts.zip ((idleLanes s).take ts.length),
           StartedOn s t st (byteAt body 0) run (partnerAmong ((idleLanes s).take ts.length) p.2) p.1 p.2) ∧
    (∀ run, decodeRun st 3#8 body = some run → ∀ ts, decideRun s st run = .start ts →
       ∃ t, exec (.learn st body) s = .next t ∧
         t.power.mode = .active ∧
         t.tx.replies = s.tx.replies ++ [replyFrame st (byteAt body 0) 3#8 .accepted
           (laneSet ((idleLanes s).take ts.length)) (runMode s run).2 (targetClamped s run)] ∧
         ∀ p ∈ ts.zip ((idleLanes s).take ts.length),
           StartedOn s t st (byteAt body 0) run (partnerAmong ((idleLanes s).take ts.length) p.2) p.1 p.2)

/-- O8. A BODY RUN_RECIPE or RUN_STEP with the preempt flag that meets a conflict, one of whose bound lanes is
MOVING: that lane goes to STOPPING with destination IDLE(PREEMPTED), the slot takes the request with that lane
among the awaited, a request that was in the slot is answered SUPERSEDED, and the answer is PREEMPT_PENDING.
When every bound lane stands in a state from which a cancel leads to IDLE at once, the slot is empty at the end
of the same event and a single further answer, the verdict of the fresh evaluation, follows PREEMPT_PENDING
(R208). The order of the answers is the model's (log entry 14). (R62, R64, R65, R93, R208.) -/
def Obligations.PreemptCancelsAndWaitsOrStarts : Prop :=
  ∀ (s : State) (l : LaneId) (body : List Byte),
    (∀ run, decodeRun .body 1#8 body = some run → ∀ acts, decideRun s .body run = .conflict acts → Serving s →
       WaitListFits s → s.lanes[l].state = .moving → run.preempts = true → has (lanesBound s acts) l = true →
       ∃ t, exec (.runRecipe .body body) s = .next t ∧
         t.lanes[l].state = .stopping ∧ t.lanes[l].stopDest = some (.idle .preempted) ∧
         (∃ p, t.request.slot = some p ∧ p.station = .body ∧ p.tag = byteAt body 0 ∧ p.run = run ∧
           has p.awaited l = true) ∧
         t.tx.replies = s.tx.replies ++
           (match s.request.slot with
             | none => []
             | some p => [replyFrame p.station p.tag p.run.kind .superseded 0#4 false false]) ++
           [replyFrame .body (byteAt body 0) 1#8 .preemptPending 0#4 false false]) ∧
    (∀ run, decodeRun .body 2#8 body = some run → ∀ acts, decideRun s .body run = .conflict acts → Serving s →
       WaitListFits s → s.lanes[l].state = .moving → run.preempts = true → has (lanesBound s acts) l = true →
       ∃ t, exec (.runStep .body body) s = .next t ∧
         t.lanes[l].state = .stopping ∧ t.lanes[l].stopDest = some (.idle .preempted) ∧
         (∃ p, t.request.slot = some p ∧ p.station = .body ∧ p.tag = byteAt body 0 ∧ p.run = run ∧
           has p.awaited l = true) ∧
         t.tx.replies = s.tx.replies ++
           (match s.request.slot with
             | none => []
             | some p => [replyFrame p.station p.tag p.run.kind .superseded 0#4 false false]) ++
           [replyFrame .body (byteAt body 0) 2#8 .preemptPending 0#4 false false]) ∧
    (∀ run, decodeRun .body 1#8 body = some run → ∀ acts, decideRun s .body run = .conflict acts → Serving s →
       WaitListFits s → run.preempts = true →
       (∀ k : LaneId, has (lanesBound s acts) k = true → endsAtOnce s.lanes[k].state = true) →
       ∃ t, exec (.runRecipe .body body) s = .next t ∧
         t.request.slot = none ∧
         ∃ v ls down clamp, v ≠ .preemptPending ∧ v ≠ .superseded ∧
           t.tx.replies = s.tx.replies ++
             (match s.request.slot with
               | none => []
               | some p => [replyFrame p.station p.tag p.run.kind .superseded 0#4 false false]) ++
             [replyFrame .body (byteAt body 0) 1#8 .preemptPending 0#4 false false,
               replyFrame .body (byteAt body 0) 1#8 v ls down clamp]) ∧
    (∀ run, decodeRun .body 2#8 body = some run → ∀ acts, decideRun s .body run = .conflict acts → Serving s →
       WaitListFits s → run.preempts = true →
       (∀ k : LaneId, has (lanesBound s acts) k = true → endsAtOnce s.lanes[k].state = true) →
       ∃ t, exec (.runStep .body body) s = .next t ∧
         t.request.slot = none ∧
         ∃ v ls down clamp, v ≠ .preemptPending ∧ v ≠ .superseded ∧
           t.tx.replies = s.tx.replies ++
             (match s.request.slot with
               | none => []
               | some p => [replyFrame p.station p.tag p.run.kind .superseded 0#4 false false]) ++
             [replyFrame .body (byteAt body 0) 2#8 .preemptPending 0#4 false false,
               replyFrame .body (byteAt body 0) 2#8 v ls down clamp])

/-- O9. Outside SLEEP a HOLD frame gives no reply and no history entry. Malformed, addressed by mask, without lanes,
or with the start-up flag clear it restarts the silence timer only. Else each HOLD-mode lane of the arrangement
outside FAULTED takes the time as its hold timestamp and restarts its 200 ms lapse timer; one in
PAUSED(HOLD_LAPSED) goes on, and a STEPWISE lane in WAIT_ADVANCE takes its next step. That FAULTED takes no HOLD
frame follows log entry 15. (R44, R46, R49, R83, R84, R85.) -/
def Obligations.HoldFramesRefreshAndAreNotAnswered : Prop :=
  ∀ (s : State) (st : Station) (body : List Byte) (l : LaneId), s.power.mode ≠ .sleep →
    (∃ t, exec (.hold st body) s = .next t ∧
         t.tx.replies = s.tx.replies ∧ t.request.history = s.request.history) ∧
    ((s.request.ready = false ∨ body.length < 2 ∨ (byteAt body 1).getLsbD 7 = true ∨
       arrangement s st (byteAt body 0) = 0#4) →
       exec (.hold st body) s = .next (heard s)) ∧
    (s.request.ready = true → 2 ≤ body.length → (byteAt body 1).getLsbD 7 = false →
       has (arrangement s st (byteAt body 0)) l = true → s.lanes[l].mode = some .hold →
       s.lanes[l].state ≠ .faulted →
       ∃ t, exec (.hold st body) s = .next t ∧
         t.lanes[l].holdTime = some s.now ∧ t.lanes[l].lapseTimer = some 200 ∧
         (s.lanes[l].state = .paused → s.lanes[l].pauseReason = some .holdLapsed →
           s.lanes[l].ctx.isSome = true → GoneOn t.lanes[l])) ∧
    (s.request.ready = true → 2 ≤ body.length → (byteAt body 1).getLsbD 7 = false →
       has (arrangement s st (byteAt body 0)) l = true → s.lanes[l].mode = some .stepwise →
       s.lanes[l].state = .waitAdvance → s.lanes[l].ctx.isSome = true →
       ∃ t, exec (.hold st body) s = .next t ∧
         (GoneOn t.lanes[l] ∨ t.lanes[l].state = .waitGate))

/-- O10. A HALT that addresses a lane brings it, by its state, to PAUSED(HALTED) with its resume point, to STOPPING
toward it, or leaves a halt pending; a destination or order that leads to IDLE stands, and IDLE, FAULTED and
OFFLINE are not affected. The lane keeps its zones. The answer is ACCEPTED with the affected lanes when there is
one; NOT_ACTIVE with nothing else changed when no addressed lane is affected and no preempt is dropped; and
NOT_OWNER for a mask none of whose lanes the station may command. A HALT-all also drops a pending preempt, which
is answered SUPERSEDED. That SUPERSEDED stands before the HALT-all's own answer is the model's choice (log entry
14). (R46, R47, R48, R57, R64, R78, R79, R91.) -/
def Obligations.HaltActsByState : Prop :=
  ∀ (s : State) (st : Station) (body : List Byte) (l : LaneId), Serving s → WaitListFits s →
    2 ≤ body.length →
    (∀ addr, decodeAddressing true body = some addr → ∀ ls, haltSet s st (byteAt body 0) addr = some ls →
       has ls l = true →
       ∃ t, exec (.halt st body) s = .next t ∧
         KeepsZones s t l ∧
         (match s.lanes[l].state with
           | .moving => t.lanes[l].state = .stopping ∧ t.lanes[l].stopDest = some (.paused .halted) ∧
               Braking t l 50 false
           | .arming => PausedAt t.lanes[l] .halted .motion ∧ RelayOpen t l
           | .claiming => PausedAt t.lanes[l] .halted .claim ∧ Unlisted t l
           | .waitGate => PausedAt t.lanes[l] .halted .gate
           | .dwell => PausedAt t.lanes[l] .halted .afterStep
           | .waitAdvance => PausedAt t.lanes[l] .halted .advance
           | .fenced => PausedAt t.lanes[l] .halted .motion
           | .paused => t.lanes[l] = { s.lanes[l] with pauseReason := some .halted }
           | .stopping | .reversing => t.lanes[l].state = s.lanes[l].state ∧
               (match s.lanes[l].stopDest with
                 | some (.idle r) => t.lanes[l].stopDest = some (.idle r)
                 | _ => t.lanes[l].stopDest = some (.paused .halted))
           | .settling => t.lanes[l].state = .settling ∧
               (match s.lanes[l].pendingOrder with
                 | some (.cancel r) => t.lanes[l].pendingOrder = some (.cancel r)
                 | _ => t.lanes[l].pendingOrder = some (.halt .halted))
           | .idle | .faulted | .offline => t.lanes[l] = s.lanes[l])) ∧
    (∀ addr, decodeAddressing true body = some addr → ∀ ls, haltSet s st (byteAt body 0) addr = some ls →
       has ls l = true → haltAffects s.lanes[l] = true →
       ∃ t, exec (.halt st body) s = .next t ∧
         replyFrame st (byteAt body 0) 5#8 .accepted
           (lanesWhere fun l => has ls l && haltAffects s.lanes[l]) false false ∈ t.tx.replies) ∧
    (∀ addr, decodeAddressing true body = some addr → ∀ ls, haltSet s st (byteAt body 0) addr = some ls →
       (∀ k : LaneId, has ls k = true → haltAffects s.lanes[k] = false) →
       (addr ≠ .byMask 0#4 ∨ s.request.slot = none) →
       exec (.halt st body) s =
         .next (answered st (byteAt body 0) 5#8 (decodeObject 5#8 body) .notActive (heard s))) ∧
    (∀ addr, decodeAddressing true body = some addr → haltSet s st (byteAt body 0) addr = none →
       exec (.halt st body) s =
         .next (answered st (byteAt body 0) 5#8 (decodeObject 5#8 body) .notOwner (heard s))) ∧
    (∀ p, s.request.slot = some p → byteAt body 1 = 0x80#8 →
       ∃ t, exec (.halt st body) s = .next t ∧
         t.request.slot = none ∧
         t.tx.replies = s.tx.replies ++ [replyFrame p.station p.tag p.run.kind .superseded 0#4 false false,
           replyFrame st (byteAt body 0) 5#8 .accepted (lanesWhere fun k => haltAffects s.lanes[k]) false false])

/-- O11. A mask from a station other than BODY and TESTER is answered NOT_OWNER. With no paused lane addressed the
answer is NOT_ACTIVE; else a missing interlock or a supply below 9.5 V is answered INTERLOCK or SUPPLY_LOW, and
in these cases nothing else changes. Else the answer ACCEPTED names the paused lanes, and each goes on from its
resume point: toward its motion, to the wait list, to its gate, past its dwell, or to WAIT_ADVANCE with a fresh
pause timer. That the answer stands before what the resumed lanes bring is the model's order (log entry 14).
(R46, R47, R58, R86, R92.) -/
def Obligations.ResumeContinuesPausedLanes : Prop :=
  ∀ (s : State) (st : Station) (body : List Byte) (l : LaneId), Serving s →
    (∀ addr, decodeAddressing false body = some addr → commandSet s st (byteAt body 0) addr = none →
       exec (.resume st body) s =
         .next (answered st (byteAt body 0) 6#8 (decodeObject 6#8 body) .notOwner (heard s))) ∧
    (∀ addr, decodeAddressing false body = some addr → ∀ ls, commandSet s st (byteAt body 0) addr = some ls →
       (∀ k : LaneId, has ls k = true → s.lanes[k].state ≠ .paused) →
       exec (.resume st body) s =
         .next (answered st (byteAt body 0) 6#8 (decodeObject 6#8 body) .notActive (heard s))) ∧
    (∀ addr, decodeAddressing false body = some addr → ∀ ls, commandSet s st (byteAt body 0) addr = some ls →
       has ls l = true → s.lanes[l].state = .paused → (interlock s = false ∨ s.supply.measured < 9500) →
       exec (.resume st body) s =
         .next (answered st (byteAt body 0) 6#8 (decodeObject 6#8 body) (if interlock s then .supplyLow
           else .interlock) (heard s))) ∧
    (∀ addr, decodeAddressing false body = some addr → ∀ ls, commandSet s st (byteAt body 0) addr = some ls →
       ∀ rp, s.lanes[l].resumePoint = some rp → has ls l = true → s.lanes[l].state = .paused →
       s.lanes[l].ctx.isSome = true → interlock s = true → 9500 ≤ s.supply.measured → WaitListFits s →
       PreemptWaits s →
       ∃ t, exec (.resume st body) s = .next t ∧
         (s.tx.replies ++ [replyFrame st (byteAt body 0) 6#8 .accepted
           (lanesWhere fun l => has ls l && s.lanes[l].state = .paused) false false]) <+: t.tx.replies ∧
         t.power.mode = .active ∧
         (match rp with
           | .motion => GoneOn t.lanes[l]
           | .claim => t.lanes[l].state = .claiming ∨ t.lanes[l].state = .arming
           | .gate => t.lanes[l].state = .waitGate ∨ t.lanes[l].state = .claiming ∨ t.lanes[l].state = .arming
           | .afterStep => t.lanes[l].state ≠ .paused
           | .advance => t.lanes[l].state = .waitAdvance ∧ t.lanes[l].pauseTimer = some 120000))

/-- O12. With no preempt pending, a CANCEL that addresses a lane brings it to IDLE with CANCELLED, holding no zone,
binding or context, from every state whose relay is open or making; a braking or driving lane gets destination
IDLE with CANCELLED or a cancel pending, an earlier cancel standing; a FAULTED lane is cleared with FAULTED, to
OFFLINE after a drive fault, or, while its channel brakes, stays FAULTED with that clear as its pending order,
an earlier one standing. The answer is ACCEPTED with the busy lanes, or with nothing else changed NOT_ACTIVE, or
NOT_OWNER for a mask of a station other than BODY and TESTER. (R46, R47, R59, R70, R78, R90, R93.) -/
def Obligations.CancelEndsLanes : Prop :=
  ∀ (s : State) (st : Station) (body : List Byte) (l : LaneId), Serving s → WaitListFits s →
    s.request.slot = none →
    (∀ addr, decodeAddressing false body = some addr → commandSet s st (byteAt body 0) addr = none →
       exec (.cancel st body) s =
         .next (answered st (byteAt body 0) 7#8 (decodeObject 7#8 body) .notOwner (heard s))) ∧
    (∀ addr, decodeAddressing false body = some addr → ∀ ls, commandSet s st (byteAt body 0) addr = some ls →
       has ls l = true → s.lanes[l].state.free = false →
       ∃ t, exec (.cancel st body) s = .next t ∧
         t.tx.replies = s.tx.replies ++ [replyFrame st (byteAt body 0) 7#8 .accepted
           (lanesWhere fun l => has ls l && !s.lanes[l].state.free) false false] ∧
         (match s.lanes[l].state with
           | .waitGate | .claiming | .arming | .fenced | .dwell | .waitAdvance | .paused =>
               t.lanes[l].state = .idle ∧ t.lanes[l].lastResult = some .cancelled ∧ t.lanes[l].ctx = none ∧
               HoldsNothing t l
           | .moving => t.lanes[l].state = .stopping ∧ t.lanes[l].stopDest = some (.idle .cancelled) ∧
               Braking t l 50 false
           | .stopping | .reversing => t.lanes[l].state = s.lanes[l].state ∧
               (match s.lanes[l].stopDest with
                 | some (.idle r) => t.lanes[l].stopDest = some (.idle r)
                 | _ => t.lanes[l].stopDest = some (.idle .cancelled))
           | .settling => t.lanes[l].state = .settling ∧
               (match s.lanes[l].pendingOrder with
                 | some (.cancel r) => t.lanes[l].pendingOrder = some (.cancel r)
                 | _ => t.lanes[l].pendingOrder = some (.cancel .cancelled))
           | .faulted =>
               if s.drives[l].phase = .braking then
                 t.lanes[l].state = .faulted ∧
                 t.lanes[l].pendingOrder = (match s.lanes[l].pendingOrder with
                   | some d => some d
                   | none => some (.clear .faulted))
               else t.lanes[l].lastResult = some .faulted ∧
                 t.lanes[l].state = (if s.lanes[l].faultReason = some .driveFault then .offline else .idle)
           | .idle | .offline => False)) ∧
    (∀ addr, decodeAddressing false body = some addr → ∀ ls, commandSet s st (byteAt body 0) addr = some ls →
       (∀ k : LaneId, has ls k = true → s.lanes[k].state.free = true) →
       exec (.cancel st body) s =
         .next (answered st (byteAt body 0) 7#8 (decodeObject 7#8 body) .notActive (heard s)))

/-- O13. With no preempt pending, each addressed FAULTED lane whose channel does not brake leaves FAULTED with last
result FAULTED and its fault reason kept: to OFFLINE after DRIVE_FAULT, else to IDLE, bound to no actuator and
with no inline step. In the 50 ms brake of a blocked reversal the clear is kept as the pending order. The answer
names the FAULTED lanes; with none it is NOT_ACTIVE, for a mask of a station other than BODY and TESTER
NOT_OWNER, and nothing else changes. That OFFLINE ends the inline step is the model's choice (log entry 18).
(R20, R36, R40, R46, R47, R60, R90, R95.) -/
def Obligations.ClearFaultReleasesFaultedLanes : Prop :=
  ∀ (s : State) (st : Station) (body : List Byte) (l : LaneId), Serving s → s.request.slot = none →
    (∀ addr, decodeAddressing false body = some addr → commandSet s st (byteAt body 0) addr = none →
       exec (.clearFault st body) s =
         .next (answered st (byteAt body 0) 8#8 (decodeObject 8#8 body) .notOwner (heard s))) ∧
    (∀ addr, decodeAddressing false body = some addr → ∀ ls, commandSet s st (byteAt body 0) addr = some ls →
       has ls l = true → s.lanes[l].state = .faulted → Unlisted s l →
       ∃ t, exec (.clearFault st body) s = .next t ∧
         t.tx.replies = s.tx.replies ++ [replyFrame st (byteAt body 0) 8#8 .accepted
           (lanesWhere fun l => has ls l && s.lanes[l].state = .faulted) false false] ∧
         (if s.drives[l].phase = .braking then
           t.lanes[l].state = .faulted ∧
             (s.lanes[l].pendingOrder = none → t.lanes[l].pendingOrder = some (.clear .faulted))
         else
           t.lanes[l].state = (if s.lanes[l].faultReason = some .driveFault then .offline else .idle) ∧
             t.lanes[l].lastResult = some .faulted ∧ t.lanes[l].faultReason = s.lanes[l].faultReason ∧
             t.lanes[l].inline = none ∧ t.lanes[l].bound = [] ∧ ∀ a : ActId, t.acts[a].binding ≠ some l)) ∧
    (∀ addr, decodeAddressing false body = some addr → ∀ ls, commandSet s st (byteAt body 0) addr = some ls →
       (∀ k : LaneId, has ls k = true → s.lanes[k].state ≠ .faulted) →
       exec (.clearFault st body) s =
         .next (answered st (byteAt body 0) 8#8 (decodeObject 8#8 body) .notActive (heard s)))

/-- O14. ACK_RESTART from a station other than BODY is answered NOT_PERMITTED; from BODY with the notice clear it is
answered NOT_ACTIVE and nothing changes; from BODY with the notice set it clears the notice, marks the general
status frame and is answered ACCEPTED, with no lanes and no object, whatever the lanes and the interlock are.
(R61.) -/
def Obligations.AckRestartClearsTheNotice : Prop :=
  ∀ (s : State) (st : Station) (body : List Byte), Serving s → 1 ≤ body.length →
    (st ≠ .body →
       exec (.ackRestart st body) s =
         .next (answered st (byteAt body 0) 9#8 none .notPermitted (heard s))) ∧
    (s.power.notice = none →
       exec (.ackRestart .body body) s =
         .next (answered .body (byteAt body 0) 9#8 none .notActive (heard s))) ∧
    (s.power.notice ≠ none →
       ∃ t, exec (.ackRestart .body body) s = .next t ∧
         (t.power.notice = none ∧ t.report.general = true ∧ t.power.mode = .active ∧
           t.tx.replies = s.tx.replies ++ [replyFrame .body (byteAt body 0) 9#8 .accepted 0#4 false false] ∧
           t.request.history = pushRing s.request.history ⟨.body, byteAt body 0, 9#8, none, .accepted, s.now⟩ ∧
           SameLanes s t ∧ SameSettings s t ∧ SamePositions s t ∧ t.vehicle = s.vehicle))

/-- O15. While the part serves requests, a RUN, LEARN or addressed command that does not decode, an ACK_RESTART
without a tag, a request of a kind code that is none of the nine and a service frame of an unknown operation or
too short for its own are answered BAD_REQUEST with tag and kind or operation as given. Outside SLEEP with the
start-up flag clear, each request frame other than HOLD and each service frame is answered NOT_READY whatever
its form. Nothing else changes but the silence timer and, for a request, the history. A discarded frame gets no
answer and no history entry. The object that the history keeps of a request whose form is not accepted, or that
is answered NOT_READY, is the model's choice (log entry 23). (R41, R44, R50, R65, R66, R189, R199.) -/
def Obligations.MalformedAndEarlyFramesAreAnsweredOnly : Prop :=
  ∀ (s : State) (st : Station) (body : List Byte) (kind : Byte) (op : Byte) (ident : BitVec 11),
    (Serving s → decodeRun st 1#8 body = none →
       exec (.runRecipe st body) s =
         .next (answered st (byteAt body 0) 1#8 (decodeObject 1#8 body) .badRequest (heard s))) ∧
    (Serving s → decodeRun st 2#8 body = none →
       exec (.runStep st body) s =
         .next (answered st (byteAt body 0) 2#8 (decodeObject 2#8 body) .badRequest (heard s))) ∧
    (Serving s → decodeRun st 3#8 body = none →
       exec (.learn st body) s =
         .next (answered st (byteAt body 0) 3#8 (decodeObject 3#8 body) .badRequest (heard s))) ∧
    (Serving s → decodeAddressing true body = none →
       exec (.halt st body) s =
         .next (answered st (byteAt body 0) 5#8 (decodeObject 5#8 body) .badRequest (heard s))) ∧
    (Serving s → decodeAddressing false body = none →
       exec (.resume st body) s =
         .next (answered st (byteAt body 0) 6#8 (decodeObject 6#8 body) .badRequest (heard s))) ∧
    (Serving s → decodeAddressing false body = none →
       exec (.cancel st body) s =
         .next (answered st (byteAt body 0) 7#8 (decodeObject 7#8 body) .badRequest (heard s))) ∧
    (Serving s → decodeAddressing false body = none →
       exec (.clearFault st body) s =
         .next (answered st (byteAt body 0) 8#8 (decodeObject 8#8 body) .badRequest (heard s))) ∧
    (Serving s → knownKind kind = false →
       exec (.unknownKindRequest st kind body) s =
         .next (answered st (byteAt body 0) kind none .badRequest (heard s))) ∧
    (Serving s → badServiceFrame (op :: body) = true →
       exec (.unknownServiceOperation (op :: body)) s =
         .next (serviceAnswered op (byteAt body 0) .badRequest false 0#16 (heard s))) ∧
    (s.power.mode ≠ .sleep → discardedForm ident body = true →
       exec (.discardedFrame ident body) s = .next (heard s)) ∧
    (Serving s → body = [] →
       exec (.ackRestart st body) s =
         .next (answered st (byteAt body 0) 9#8 none .badRequest (heard s))) ∧
    (s.power.mode ≠ .sleep → s.request.ready = false →
       exec (.runRecipe st body) s =
         .next (answered st (byteAt body 0) 1#8 (decodeObject 1#8 body) .notReady (heard s))) ∧
    (s.power.mode ≠ .sleep → s.request.ready = false →
       exec (.runStep st body) s =
         .next (answered st (byteAt body 0) 2#8 (decodeObject 2#8 body) .notReady (heard s))) ∧
    (s.power.mode ≠ .sleep → s.request.ready = false →
       exec (.learn st body) s =
         .next (answered st (byteAt body 0) 3#8 (decodeObject 3#8 body) .notReady (heard s))) ∧
    (s.power.mode ≠ .sleep → s.request.ready = false →
       exec (.halt st body) s =
         .next (answered st (byteAt body 0) 5#8 (decodeObject 5#8 body) .notReady (heard s))) ∧
    (s.power.mode ≠ .sleep → s.request.ready = false →
       exec (.resume st body) s =
         .next (answered st (byteAt body 0) 6#8 (decodeObject 6#8 body) .notReady (heard s))) ∧
    (s.power.mode ≠ .sleep → s.request.ready = false →
       exec (.cancel st body) s =
         .next (answered st (byteAt body 0) 7#8 (decodeObject 7#8 body) .notReady (heard s))) ∧
    (s.power.mode ≠ .sleep → s.request.ready = false →
       exec (.clearFault st body) s =
         .next (answered st (byteAt body 0) 8#8 (decodeObject 8#8 body) .notReady (heard s))) ∧
    (s.power.mode ≠ .sleep → s.request.ready = false →
       exec (.ackRestart st body) s =
         .next (answered st (byteAt body 0) 9#8 (decodeObject 9#8 body) .notReady (heard s))) ∧
    (s.power.mode ≠ .sleep → s.request.ready = false → knownKind kind = false →
       exec (.unknownKindRequest st kind body) s =
         .next (answered st (byteAt body 0) kind (decodeObject kind body) .notReady (heard s))) ∧
    (s.power.mode ≠ .sleep → s.request.ready = false →
       exec (.readField body) s =
         .next (serviceAnswered 1#8 (byteAt body 0) .notReady false 0#16 (heard s))) ∧
    (s.power.mode ≠ .sleep → s.request.ready = false →
       exec (.writeField body) s =
         .next (serviceAnswered 2#8 (byteAt body 0) .notReady false 0#16 (heard s))) ∧
    (s.power.mode ≠ .sleep → s.request.ready = false →
       exec (.clearLog body) s =
         .next (serviceAnswered 3#8 (byteAt body 0) .notReady false 0#16 (heard s))) ∧
    (s.power.mode ≠ .sleep → s.request.ready = false →
       exec (.factoryProfile body) s =
         .next (serviceAnswered 4#8 (byteAt body 0) .notReady false 0#16 (heard s))) ∧
    (s.power.mode ≠ .sleep → s.request.ready = false →
       exec (.restart body) s =
         .next (serviceAnswered 5#8 (byteAt body 0) .notReady false 0#16 (heard s))) ∧
    (s.power.mode ≠ .sleep → s.request.ready = false → badServiceFrame (op :: body) = true →
       exec (.unknownServiceOperation (op :: body)) s =
         .next (serviceAnswered op (byteAt body 0) .notReady false 0#16 (heard s)))

/-- O16. A sample that brings no onset of supply low, whatever its voltage: in a MOVING lane the fifth sample of a
soft run, in PROFILE mode after blanking and the first of its step, sets SOFT_SEEN and ends adaptation: under
PAUSE the lane stops toward PAUSED(SOFT_CONTACT) in a 50 ms brake; under SLOW, away from its cut, it goes on at
CREEP. The third sample of a firm run, or of an absolute run in ABSOLUTE mode, sends it whatever the policy to
REVERSING toward PAUSED(FIRM_CONTACT) in a 40 ms reversal brake with the back-off's stop point fixed, sets
FIRM_SEEN and makes a FIRM_CONTACT entry at the contact with its deviation; in the back-off it leaves the lane
FAULTED(REVERSE_BLOCKED) with its own entry. Positions, zones of a lane that is not faulted, and motion marks
stay. (R136, R137, R138, R139, R140, R141, R142, R143, R144, R145, R147, R149.) -/
def Obligations.SampleContactsActByThePolicy : Prop :=
  ∀ (s : State) (l : LaneId) (reading : Nat) (mv : Nat), WaitListFits s →
    (∀ a, s.drives[l].connected = some a → ∀ k, s.drives[l].kind = some k → ∀ c, s.lanes[l].ctx = some c →
       s.drives[l].phase = .driving → ¬ (20000 ≤ reading ∧ s.drives[l].saturation = 2) →
       (mv < 9000 → s.supply.low = false → s.supply.lowRun < 9) → PreemptWaits s → s.lanes[l].state = .moving →
       k ≠ .backOff → SoftAt s.loads[l] s.ram.actuators[a] s.acts[a].position (min 20000 reading) →
       c.step.policy = .pause →
       ∃ t, exec (.loadSample l reading mv) s = .next t ∧
         t.lanes[l].state = .stopping ∧ t.lanes[l].stopDest = some (.paused .softContact) ∧
         t.lanes[l].incidents &&& 0x01#7 = 0x01#7 ∧ Braking t l 50 false ∧
         t.loads[l].softHandled = true ∧ t.loads[l].eligible = false ∧
         KeepsZones s t l ∧ SamePositions s t ∧ SameSettings s t ∧ SameRequests s t) ∧
    (∀ a, s.drives[l].connected = some a → ∀ k, s.drives[l].kind = some k → ∀ dir,
       s.drives[l].direction = some dir → ∀ c, s.lanes[l].ctx = some c → s.drives[l].phase = .driving →
       ¬ (20000 ≤ reading ∧ s.drives[l].saturation = 2) →
       (mv < 9000 → s.supply.low = false → s.supply.lowRun < 9) → PreemptWaits s → s.lanes[l].state = .moving →
       k ≠ .backOff → SoftAt s.loads[l] s.ram.actuators[a] s.acts[a].position (min 20000 reading) →
       c.step.policy = .slow →
       (s.drives[l].endKind = some .interior → 4 < leftTo dir s.acts[a].position s.drives[l].aim) →
       ∃ t, exec (.loadSample l reading mv) s = .next t ∧
         t.lanes[l].state = .moving ∧ t.drives[l].phase = .driving ∧ t.drives[l].cls = some .creep ∧
         t.lanes[l].ctx = some { c with cls := .creep, slowDropped := true } ∧
         t.lanes[l].incidents &&& 0x01#7 = 0x01#7 ∧ t.loads[l].softHandled = true ∧ t.loads[l].eligible = false ∧
         t.drives[l].connected = some a ∧ t.drives[l].kind = some k ∧ t.drives[l].direction = some dir ∧
         t.holders = s.holders ∧ SamePositions s t ∧ SameSettings s t ∧ SameRequests s t) ∧
    (∀ a, s.drives[l].connected = some a → ∀ k, s.drives[l].kind = some k → ∀ dir,
       s.drives[l].direction = some dir → s.drives[l].phase = .driving →
       ¬ (20000 ≤ reading ∧ s.drives[l].saturation = 2) →
       (mv < 9000 → s.supply.low = false → s.supply.lowRun < 9) → PreemptWaits s → s.lanes[l].state = .moving →
       FirmAt s.loads[l] s.ram.actuators[a] s.acts[a].position (min 20000 reading) →
       ∃ t, exec (.loadSample l reading mv) s = .next t ∧
         t.lanes[l].state = .reversing ∧ t.lanes[l].stopDest = some (.paused .firmContact) ∧
         t.lanes[l].incidents &&& 0x02#7 = 0x02#7 ∧ Braking t l 40 true ∧ t.loads[l].eligible = false ∧
         t.drives[l].stopPoint = stopPointOf dir s.acts[a].position
           (s.loads[l].origin.getD s.acts[a].position) s.ram.actuators[a].travel ∧
         KeepsZones s t l ∧ SamePositions s t ∧ t.ram.actuators = s.ram.actuators ∧
         Logged t .firmContact l a s.acts[a].position ∧
         t.ram.log.getLast?.map (fun e => e.deviation) = some t.loads[l].deviation) ∧
    (∀ a, s.drives[l].connected = some a → ∀ k, s.drives[l].kind = some k → s.drives[l].phase = .driving →
       ¬ (20000 ≤ reading ∧ s.drives[l].saturation = 2) →
       (mv < 9000 → s.supply.low = false → s.supply.lowRun < 9) → PreemptWaits s →
       s.lanes[l].state = .reversing → k = .backOff → s.request.slot = none →
       FirmAt s.loads[l] s.ram.actuators[a] s.acts[a].position (min 20000 reading) →
       ∃ t, exec (.loadSample l reading mv) s = .next t ∧
         t.lanes[l].state = .faulted ∧ t.lanes[l].faultReason = some .reverseBlocked ∧
         t.lanes[l].lastResult = some .faulted ∧ t.lanes[l].stopDest = none ∧ heldBy t l = 0#12 ∧
         Braking t l 50 false ∧ SamePositions s t ∧ t.ram.actuators = s.ram.actuators ∧
         (∀ b : ActId, t.acts[b].binding = s.acts[b].binding) ∧
         Logged t .reverseBlocked l a s.acts[a].position)

/-- O17. In SLEEP with the supply at or above 6.0 V, every received frame and the wake line wake the part: ACTIVE,
start-up flag clear, Vehicle State stale with its fields kept, freeze clear, silence timer 2 s, general status
marked; lanes, channels, zones, settings, positions, history, notice and replies are kept. A request other than
HOLD is held for the Request Unit and a service frame for the store; HOLD, Vehicle State and discarded frames
are held by none. Outside SLEEP the assertion of the wake line changes nothing. The supply pin is the model's
own (log entry 2). (R22, R50, R98, R133, R190, R191, R204.) -/
def Obligations.FramesAndTheWakeLineWakeTheSleepingPart : Prop :=
  ∀ (s : State) (st : Station) (body : List Byte) (kind : Byte) (ident : BitVec 11),
    (s.power.mode = .sleep → 6000 ≤ s.supply.pin →
       ∃ t, exec (.runRecipe st body) s = .next t ∧
         Woken s t ∧ t.request.held = some (st, 1#8 :: body) ∧ t.service.held = s.service.held) ∧
    (s.power.mode = .sleep → 6000 ≤ s.supply.pin →
       ∃ t, exec (.runStep st body) s = .next t ∧
         Woken s t ∧ t.request.held = some (st, 2#8 :: body) ∧ t.service.held = s.service.held) ∧
    (s.power.mode = .sleep → 6000 ≤ s.supply.pin →
       ∃ t, exec (.learn st body) s = .next t ∧
         Woken s t ∧ t.request.held = some (st, 3#8 :: body) ∧ t.service.held = s.service.held) ∧
    (s.power.mode = .sleep → 6000 ≤ s.supply.pin →
       ∃ t, exec (.halt st body) s = .next t ∧
         Woken s t ∧ t.request.held = some (st, 5#8 :: body) ∧ t.service.held = s.service.held) ∧
    (s.power.mode = .sleep → 6000 ≤ s.supply.pin →
       ∃ t, exec (.resume st body) s = .next t ∧
         Woken s t ∧ t.request.held = some (st, 6#8 :: body) ∧ t.service.held = s.service.held) ∧
    (s.power.mode = .sleep → 6000 ≤ s.supply.pin →
       ∃ t, exec (.cancel st body) s = .next t ∧
         Woken s t ∧ t.request.held = some (st, 7#8 :: body) ∧ t.service.held = s.service.held) ∧
    (s.power.mode = .sleep → 6000 ≤ s.supply.pin →
       ∃ t, exec (.clearFault st body) s = .next t ∧
         Woken s t ∧ t.request.held = some (st, 8#8 :: body) ∧ t.service.held = s.service.held) ∧
    (s.power.mode = .sleep → 6000 ≤ s.supply.pin →
       ∃ t, exec (.ackRestart st body) s = .next t ∧
         Woken s t ∧ t.request.held = some (st, 9#8 :: body) ∧ t.service.held = s.service.held) ∧
    (s.power.mode = .sleep → 6000 ≤ s.supply.pin → knownKind kind = false →
       ∃ t, exec (.unknownKindRequest st kind body) s = .next t ∧
         Woken s t ∧ t.request.held = some (st, kind :: body) ∧ t.service.held = s.service.held) ∧
    (s.power.mode = .sleep → 6000 ≤ s.supply.pin →
       ∃ t, exec (.readField body) s = .next t ∧
         Woken s t ∧ t.service.held = some (1#8 :: body) ∧ t.request.held = s.request.held) ∧
    (s.power.mode = .sleep → 6000 ≤ s.supply.pin →
       ∃ t, exec (.writeField body) s = .next t ∧
         Woken s t ∧ t.service.held = some (2#8 :: body) ∧ t.request.held = s.request.held) ∧
    (s.power.mode = .sleep → 6000 ≤ s.supply.pin →
       ∃ t, exec (.clearLog body) s = .next t ∧
         Woken s t ∧ t.service.held = some (3#8 :: body) ∧ t.request.held = s.request.held) ∧
    (s.power.mode = .sleep → 6000 ≤ s.supply.pin →
       ∃ t, exec (.factoryProfile body) s = .next t ∧
         Woken s t ∧ t.service.held = some (4#8 :: body) ∧ t.request.held = s.request.held) ∧
    (s.power.mode = .sleep → 6000 ≤ s.supply.pin →
       ∃ t, exec (.restart body) s = .next t ∧
         Woken s t ∧ t.service.held = some (5#8 :: body) ∧ t.request.held = s.request.held) ∧
    (s.power.mode = .sleep → 6000 ≤ s.supply.pin → badServiceFrame (kind :: body) = true →
       ∃ t, exec (.unknownServiceOperation (kind :: body)) s = .next t ∧
         Woken s t ∧ t.service.held = some (kind :: body) ∧ t.request.held = s.request.held) ∧
    (s.power.mode = .sleep → 6000 ≤ s.supply.pin →
       ∃ t, exec (.hold st body) s = .next t ∧
         Woken s t ∧ t.request.held = s.request.held ∧ t.service.held = s.service.held) ∧
    (s.power.mode = .sleep → 6000 ≤ s.supply.pin →
       ∃ t, exec (.vehicleState body) s = .next t ∧
         Woken s t ∧ t.request.held = s.request.held ∧ t.service.held = s.service.held) ∧
    (s.power.mode = .sleep → 6000 ≤ s.supply.pin → discardedForm ident body = true →
       ∃ t, exec (.discardedFrame ident body) s = .next t ∧
         Woken s t ∧ t.request.held = s.request.held ∧ t.service.held = s.service.held) ∧
    (s.power.mode = .sleep → 6000 ≤ s.supply.pin →
       ∃ t, exec .wakeLine s = .next t ∧
         Woken s t ∧ t.request.held = s.request.held ∧ t.service.held = s.service.held) ∧
    (s.power.mode ≠ .sleep →
       exec .wakeLine s = .next s)

/-- O18. A frame on 0x3A8 that does not decode only restarts the silence timer. In ACTIVE a decoded one replaces all
seven fields, is fresh for 300 ms and sets the freeze above 5 km/h, which stays set; a loss of the interlock
stops every MOVING lane toward PAUSED(INTERLOCK) and touches no other lane, and without a loss no lane is
touched. The expiry of the freshness timer makes the state stale, with the same reaction to a lost interlock.
Settings, positions and requests stay as they are. That a stopped timer expires without effect is the model's
choice (log entry 9). (R88, R180, R181, R182, R183.) -/
def Obligations.VehicleStateIsTakenWhole : Prop :=
  ∀ (s : State) (data : List Byte),
    (s.power.mode ≠ .sleep → decodeVehicle data = none →
       exec (.vehicleState data) s = .next (heard s)) ∧
    (∀ v, decodeVehicle data = some v → s.power.mode = .active →
       ∃ t, exec (.vehicleState data) s = .next t ∧
         t.vehicle.held = v ∧ t.vehicle.fresh = true ∧ t.vehicle.freshTimer = some 300 ∧
         t.vehicle.freeze = (s.vehicle.freeze || decide (5 < v.speed)) ∧
         SameSettings s t ∧ SamePositions s t ∧ SameRequests s t ∧
         (if interlock s = true ∧ ¬ (v.speed ≤ 2 ∧ v.park = true) then InterlockLost s t else SameLanes s t)) ∧
    (s.vehicle.freshTimer.isSome = true →
       ∃ t, exec .freshnessTimerExpiry s = .next t ∧
         t.vehicle = { s.vehicle with fresh := false, freshTimer := none } ∧
         SameSettings s t ∧ SamePositions s t ∧ SameRequests s t ∧
         (if interlock s = true then InterlockLost s t else SameLanes s t)) ∧
    (s.vehicle.freshTimer = none →
       exec .freshnessTimerExpiry s = .next s)

/-- O19. A served READ_FIELD that names an existing field is answered ACCEPTED with its RAM value or the indication
absent, or NOT_ACTIVE for a log index past the entries held; a frame too short or naming no field is answered
BAD_REQUEST. Nothing else changes but the silence timer. That an absent value reads 0, and that every log index
past the entries held is answered NOT_ACTIVE, are the model's choices (log entry 20). (R199, R205.) -/
def Obligations.ReadFieldAnswersTheRamValue : Prop :=
  ∀ (s : State) (body : List Byte), Serving s →
    (∀ f, decodeField (byteAt body 1) (byteAt body 2) (byteAt body 3) (byteAt body 4) = some f → ∀ x,
       readValue s f = .value x → 5 ≤ body.length →
       exec (.readField body) s =
         .next (serviceAnswered 1#8 (byteAt body 0) .accepted false x (heard s))) ∧
    (∀ f, decodeField (byteAt body 1) (byteAt body 2) (byteAt body 3) (byteAt body 4) = some f →
       readValue s f = .absent → 5 ≤ body.length →
       exec (.readField body) s =
         .next (serviceAnswered 1#8 (byteAt body 0) .accepted true 0#16 (heard s))) ∧
    (∀ f, decodeField (byteAt body 1) (byteAt body 2) (byteAt body 3) (byteAt body 4) = some f →
       readValue s f = .notActive → 5 ≤ body.length →
       exec (.readField body) s =
         .next (serviceAnswered 1#8 (byteAt body 0) .notActive false 0#16 (heard s))) ∧
    ((body.length < 5 ∨ decodeField (byteAt body 1) (byteAt body 2) (byteAt body 3) (byteAt body 4) = none) →
       exec (.readField body) s =
         .next (serviceAnswered 1#8 (byteAt body 0) .badRequest false 0#16 (heard s)))

/-- O20. A served store-changing operation that is too short, names no field or actuator, or a field that cannot be
written is answered BAD_REQUEST. One of a right form is answered STORE_FROZEN, SERVICE_REFUSED or STORE_BUSY by
the first check that fails, a write whose value fails its validation BAD_REQUEST; else it is in progress with 10
ms to run and not answered yet. In each case settings, lanes and everything else stay as they were. (R183, R200,
R202.) -/
def Obligations.StoreChangesStartOrAreRefused : Prop :=
  ∀ (s : State) (body : List Byte), Serving s →
    (∀ f, decodeField (byteAt body 1) (byteAt body 2) (byteAt body 3) (byteAt body 4) = some f → ∀ v,
       changeVerdict s = some v → 7 ≤ body.length → writable f = true →
       exec (.writeField body) s = .next (serviceAnswered 2#8 (byteAt body 0) v false 0#16 (heard s))) ∧
    (∀ v, changeVerdict s = some v → 1 ≤ body.length →
       exec (.clearLog body) s = .next (serviceAnswered 3#8 (byteAt body 0) v false 0#16 (heard s))) ∧
    (∀ a, below 10 (byteAt body 2).toNat = some a → ∀ v, changeVerdict s = some v → 3 ≤ body.length →
       exec (.factoryProfile body) s =
         .next (serviceAnswered 4#8 (byteAt body 0) v false 0#16 (heard s))) ∧
    (∀ f, decodeField (byteAt body 1) (byteAt body 2) (byteAt body 3) (byteAt body 4) = some f →
       7 ≤ body.length → writable f = true → changeVerdict s = none →
       validWrite s.ram f (wordAt body 5) = none →
       exec (.writeField body) s =
         .next (serviceAnswered 2#8 (byteAt body 0) .badRequest false 0#16 (heard s))) ∧
    (∀ f, decodeField (byteAt body 1) (byteAt body 2) (byteAt body 3) (byteAt body 4) = some f → ∀ w1,
       validWrite s.ram f (wordAt body 5) = some w1 → 7 ≤ body.length → writable f = true →
       changeVerdict s = none →
       exec (.writeField body) s =
         .next { heard s with service := { s.service with
           busy := some (.write (byteAt body 0) f (BitVec.ofNat 16 (wordAt body 5))), timer := some 10 } }) ∧
    ((body.length < 7 ∨ (decodeField (byteAt body 1) (byteAt body 2) (byteAt body 3) (byteAt body 4)).all (!writable ·) = true) →
       exec (.writeField body) s =
         .next (serviceAnswered 2#8 (byteAt body 0) .badRequest false 0#16 (heard s))) ∧
    (body = [] →
       exec (.clearLog body) s =
         .next (serviceAnswered 3#8 (byteAt body 0) .badRequest false 0#16 (heard s))) ∧
    ((body.length < 3 ∨ below 10 (byteAt body 2).toNat = none) →
       exec (.factoryProfile body) s =
         .next (serviceAnswered 4#8 (byteAt body 0) .badRequest false 0#16 (heard s))) ∧
    (1 ≤ body.length → changeVerdict s = none →
       exec (.clearLog body) s =
         .next { heard s with service := { s.service with
           busy := some (.clearLog (byteAt body 0)), timer := some 10 } }) ∧
    (∀ a, below 10 (byteAt body 2).toNat = some a → 3 ≤ body.length → changeVerdict s = none →
       exec (.factoryProfile body) s =
         .next { heard s with service := { s.service with
           busy := some (.factoryProfile (byteAt body 0) a), timer := some 10 } })

/-- O21. When its 10 ms end, the freeze, the lanes and the interlock are checked again. If a check fails the
operation is abandoned with that verdict, settings and lanes unchanged. Else a WRITE_FIELD of a field other than
travel and direction sense makes exactly its change in the RAM copy and in the store, CLEAR_LOG empties the log
and keeps every other setting, FACTORY_PROFILE sets the 32 bins of its actuator to 2500 mA and keeps every other
setting; the answer is ACCEPTED and nothing is in progress any more. (R194, R196, R198, R200, R201, R202.) -/
def Obligations.StoreChangesCompleteOrAreAbandoned : Prop :=
  ∀ (s : State) (tag : Byte),
    (∀ f y, s.service.busy = some (.write tag f y) → ∀ x, storeVerdict s = some x →
       ∃ t, exec .serviceWriteCompletion s = .next t ∧
         SameSettings s t ∧ t.service.busy = none ∧
         t.tx.replies = s.tx.replies ++ [serviceFrame 2#8 tag x false 0#16] ∧ SameLanes s t) ∧
    (∀ f y, s.service.busy = some (.write tag f y) → ∀ g w, writeOf f y.toNat = some (g, w) →
       storeVerdict s = none → (∀ a : ActId, f ≠ .actuator a .travel ∧ f ≠ .actuator a .sense) →
       ∃ t, exec .serviceWriteCompletion s = .next t ∧
         t.ram = w s.ram ∧ t.store = w s.store ∧ t.service.busy = none ∧ SamePositions s t ∧
         t.tx.replies = s.tx.replies ++ [serviceFrame 2#8 tag .accepted false 0#16]) ∧
    (s.service.busy = some (.clearLog tag) → ∀ x, storeVerdict s = some x →
       ∃ t, exec .clearLogCompletion s = .next t ∧
         SameSettings s t ∧ t.service.busy = none ∧
         t.tx.replies = s.tx.replies ++ [serviceFrame 3#8 tag x false 0#16] ∧ SameLanes s t) ∧
    (s.service.busy = some (.clearLog tag) → storeVerdict s = none →
       ∃ t, exec .clearLogCompletion s = .next t ∧
         t.ram = { s.ram with log := [] } ∧ t.store = { s.store with log := [] } ∧ t.service.busy = none ∧
         SamePositions s t ∧ SameLanes s t ∧
         t.tx.replies = s.tx.replies ++ [serviceFrame 3#8 tag .accepted false 0#16]) ∧
    (∀ a, s.service.busy = some (.factoryProfile tag a) → ∀ x, storeVerdict s = some x →
       ∃ t, exec .factoryProfileCompletion s = .next t ∧
         SameSettings s t ∧ t.service.busy = none ∧
         t.tx.replies = s.tx.replies ++ [serviceFrame 4#8 tag x false 0#16] ∧ SameLanes s t) ∧
    (∀ a, s.service.busy = some (.factoryProfile tag a) → storeVerdict s = none →
       ∃ t, exec .factoryProfileCompletion s = .next t ∧
         t.ram = Settings.onActuator a (fun r => { r with profile := tab fun _ => 2500 }) s.ram ∧
         t.store = Settings.onActuator a (fun r => { r with profile := tab fun _ => 2500 }) s.store ∧
         t.service.busy = none ∧ SamePositions s t ∧ SameLanes s t ∧
         t.tx.replies = s.tx.replies ++ [serviceFrame 4#8 tag .accepted false 0#16])

/-- O22. At the completion of a write of travel or direction sense that passes its checks, the actuator is
unreferenced in RAM, in the RAM copy and in the store, a position above the new travel comes down to it and is
stored with it, the motion mark stays, and the new value stands in RAM and store. No other actuator's position
or reference changes. At the completion of a write of a channel's gain that passes its checks, the new gain
stands in RAM and store, and the channel is STARTING with nothing counted, without GUARD_LOST, halt timer and
drift timer, out of the tuning queue, and with no tune of it in progress. Each is answered ACCEPTED, and no
operation is in progress afterwards. (R8, R9, R201, R161, R170, R176, R200.) -/
def Obligations.WritesOfTravelSenseAndGainHaveTheirConsequences : Prop :=
  ∀ (s : State) (a : ActId) (c : ChanId) (tag : Byte) (y : BitVec 16), storeVerdict s = none →
    (s.service.busy = some (.write tag (.actuator a .travel) y) → 200 ≤ y.toNat → y.toNat ≤ 4000 →
       ∃ t, exec .serviceWriteCompletion s = .next t ∧
         t.service.busy = none ∧ t.tx.replies = s.tx.replies ++ [serviceFrame 2#8 tag .accepted false 0#16] ∧
         t.acts[a].referenced = false ∧ t.acts[a].position = min s.acts[a].position y.toNat ∧
         t.ram.actuators[a] = { s.ram.actuators[a] with
           travel := y.toNat, storedPosition := min s.acts[a].position y.toNat, storedReferenced := false } ∧
         t.store.actuators[a] = { s.store.actuators[a] with
           travel := y.toNat, storedPosition := min s.acts[a].position y.toNat, storedReferenced := false } ∧
         ∀ b : ActId, b ≠ a → t.acts[b].position = s.acts[b].position ∧ t.acts[b].referenced = s.acts[b].referenced) ∧
    (s.service.busy = some (.write tag (.actuator a .sense) y) → y.toNat ≤ 1 →
       ∃ t, exec .serviceWriteCompletion s = .next t ∧
         t.service.busy = none ∧ t.tx.replies = s.tx.replies ++ [serviceFrame 2#8 tag .accepted false 0#16] ∧
         t.acts[a].referenced = false ∧
         t.acts[a].position = min s.acts[a].position s.ram.actuators[a].travel ∧
         t.ram.actuators[a] = { s.ram.actuators[a] with
           sense := (if y = 0#16 then .forward else .reverse)
           storedPosition := min s.acts[a].position s.ram.actuators[a].travel, storedReferenced := false } ∧
         t.store.actuators[a] = { s.store.actuators[a] with
           sense := (if y = 0#16 then .forward else .reverse)
           storedPosition := min s.acts[a].position s.ram.actuators[a].travel, storedReferenced := false } ∧
         ∀ b : ActId, b ≠ a → t.acts[b].position = s.acts[b].position ∧ t.acts[b].referenced = s.acts[b].referenced) ∧
    (s.service.busy = some (.write tag (.channel c .gain) y) → y.toNat ≤ 63 →
       ∃ t, exec .serviceWriteCompletion s = .next t ∧
         t.service.busy = none ∧ t.tx.replies = s.tx.replies ++ [serviceFrame 2#8 tag .accepted false 0#16] ∧
         t.ram.channels[c] = { s.ram.channels[c] with gain := y.toNat } ∧
         t.store.channels[c] = { s.store.channels[c] with gain := y.toNat } ∧
         t.chans[c].state = .starting ∧ t.chans[c].seedCount = 0 ∧ t.chans[c].seedSum = 0 ∧
         t.chans[c].guardLost = false ∧ t.chans[c].haltTimer = none ∧ t.chans[c].driftTimer = none ∧
         has t.presence.queue c = false ∧ t.presence.tune.all (fun k => k.channel != c) = true)

/-- O23. POWER_ON, RESET_LINE and the tester's RESTART leave every block at its restart values: lanes, channels,
zones, actuators, presence, vehicle, requests, service, the reporter's flags, timers and waiting frames, and the
doze, silence and sleep fields; the store is still to be loaded, the supply measured, its run from 0 and supply
low out of force, the settings and the notice kept. A BROWNOUT below 6.0 V holds the start-up back, and
BROWNOUT_RECOVERY begins it with the cause it was held with. The tester's RESTART is answered ACCEPTED first,
whatever the lanes, the interlock and the freeze; no other restart sends a reply. That restart values are taken
again at the recovery, that a restart below 6.0 V replaces the cause of a start-up held back, and that a
recovery in a running part moves the pin alone, are the model's choices (log entries 16 and 2), and so are the
RAM copies kept (log entry 3), the replies kept (log entry 7) and the zero values of fields that no rule names
(log entry 4). (R98, R133, R158, R178, R180, R185, R186, R192, R203, R204, R207.) -/
def Obligations.RestartsTakeTheirValues : Prop :=
  ∀ (s : State) (mv : Nat) (body : List Byte),
    (6000 ≤ mv →
       ∃ t, exec (.powerOn mv) s = .next t ∧
         AtRestartValues t ∧ SameSettings s t ∧ t.power.notice = s.power.notice ∧ t.startUp = .loading .powerOn ∧
         t.supply.measured = mv ∧ t.tx.replies = s.tx.replies) ∧
    (mv < 6000 →
       ∃ t, exec (.brownout mv) s = .next t ∧
         AtRestartValues t ∧ SameSettings s t ∧ t.power.notice = s.power.notice ∧ t.startUp = .held .brownout ∧
         t.tx.replies = s.tx.replies) ∧
    (∃ t, exec .resetLine s = .next t ∧
         AtRestartValues t ∧ SameSettings s t ∧ t.power.notice = s.power.notice ∧ t.tx.replies = s.tx.replies ∧
         t.startUp = (if s.supply.pin < 6000 then .held .resetLine else .loading .resetLine)) ∧
    (∀ k, s.startUp = .held k → 6000 < mv →
       ∃ t, exec (.brownoutRecovery mv) s = .next t ∧
         AtRestartValues t ∧ SameSettings s t ∧ t.power.notice = s.power.notice ∧ t.startUp = .loading k ∧
         t.supply.measured = mv ∧ t.tx.replies = s.tx.replies) ∧
    (6000 < mv → (s.startUp = .running ∨ s.startUp = .wake) →
       exec (.brownoutRecovery mv) s = .next { s with supply := { s.supply with pin := mv } }) ∧
    (Serving s → 1 ≤ body.length →
       ∃ t, exec (.restart body) s = .next t ∧
         AtRestartValues t ∧ SameSettings s t ∧ t.power.notice = s.power.notice ∧
         t.startUp = (if s.supply.pin < 6000 then .held .testerRestart else .loading .testerRestart) ∧
         t.tx.replies = s.tx.replies ++ [serviceFrame 5#8 (byteAt body 0) .accepted false 0#16])

/-- O24. When a restart start-up ends, each group that was not damaged and whose contents and checksum sum to 0 is
loaded as stored and each other takes its factory contents, RAM and store alike with every checksum right; the
restart count, 0 for failed counters, rises by one up to 65535, the lifetime fault count by one for each failed
group; the log gets one STORE_CORRUPT entry for each failed group in the order of R194's table, with consecutive
sequences, the raised restart count, the group and no history copies; the notice carries the cause; the start-up
flag is set; positions and references follow R21; every presence channel is STARTING. Outside such a start-up
the command changes nothing, which is the model's choice (log entry 9). (R21, R40, R50, R170, R178, R192, R193,
R194, R195, R198.) -/
def Obligations.StoreCheckEndsTheRestart : Prop :=
  ∀ (s : State) (d : GroupSet), s.store.lifetime ≤ 65535 →
    (∀ k, s.startUp = .loading k →
       ∃ t, exec (.storeCheckComplete d) s = .next t ∧
         t.startUp = .running ∧ t.request.ready = true ∧ t.power.notice = some k ∧
         t.store = t.ram ∧ StoreSound t ∧
         t.ram.actuators = (if checkFails d s .actuators then factorySettings.actuators else s.store.actuators) ∧
         t.ram.channels = (if checkFails d s .channels then factorySettings.channels else s.store.channels) ∧
         t.ram.steps = (if checkFails d s .steps then factorySettings.steps else s.store.steps) ∧
         t.ram.recipes = (if checkFails d s .recipes then factorySettings.recipes else s.store.recipes) ∧
         t.ram.dozeTime = (if checkFails d s .general then factorySettings.dozeTime else s.store.dozeTime) ∧
         t.ram.restartCount = min 65535 ((if checkFails d s .counters then 0 else s.store.restartCount) + 1) ∧
         t.ram.lifetime = min 65535 ((if checkFails d s .counters then 0 else s.store.lifetime) +
           (allGroups.filter (checkFails d s)).length) ∧
         t.ram.log = (corruptEntries (if checkFails d s .counters then 0 else s.store.lifetime)
             t.ram.restartCount s.now (allGroups.filter (checkFails d s))).foldl pushRing
           (if checkFails d s .faultLog then [] else s.store.log) ∧
         (∀ a : ActId, t.acts[a].position = min t.ram.actuators[a].storedPosition t.ram.actuators[a].travel ∧
           t.acts[a].referenced = (!t.ram.actuators[a].motionMark && t.ram.actuators[a].storedReferenced) ∧
           t.acts[a].binding = none ∧ t.acts[a].manualPulses = 0) ∧
         (∀ c : ChanId, t.chans[c].state = .starting ∧ t.chans[c].seedCount = 0 ∧ t.chans[c].guardLost = false) ∧
         t.presence.queue = 0#12 ∧ t.presence.tune = none) ∧
    ((s.startUp = .running ∨ s.startUp = .wake) →
       exec (.storeCheckComplete d) s = .next s)

/-- O25. With nothing held, the end of the wake start-up sets the start-up flag, puts every presence channel in
STARTING with nothing counted, empties the tuning queue, starts the sample rounds and changes no setting,
position or reply. A held request is decided as its command would be with the flag set: the replies and the
history are those of that command, which answers it at least once. A held service frame is served likewise: the
replies, the operation begun and the start-up are those of its command. Neither is held any longer. (R50, R170,
R179, R191.) -/
def Obligations.WakeStartUpEndsWithTheFlagAndSeeding : Prop :=
  ∀ (s : State) (st : Station) (kind : Byte) (body : List Byte), s.startUp = .wake →
    (s.request.held = none → s.service.held = none →
       ∃ t, exec .wakeStartUpComplete s = .next t ∧
         t.startUp = .running ∧ t.request.ready = true ∧ t.presence.roundTimer = some 10 ∧
         t.presence.queue = 0#12 ∧ t.presence.tune = none ∧
         (∀ c : ChanId, t.chans[c].state = .starting ∧ t.chans[c].seedCount = 0 ∧
           t.chans[c].guardLost = s.chans[c].guardLost) ∧
         SameSettings s t ∧ SamePositions s t ∧ t.tx.replies = s.tx.replies) ∧
    (s.power.mode ≠ .sleep → s.request.held = some (st, kind :: body) → kind ≠ 4#8 → s.service.held = none →
       ∃ t, exec .wakeStartUpComplete s = .next t ∧
         ∃ u, exec (requestOf st kind body)
           { s with startUp := .running, request := { s.request with ready := true, held := none } } = .next u ∧
         t.tx.replies = u.tx.replies ∧ t.request.history = u.request.history ∧
         s.tx.replies.length < t.tx.replies.length ∧
         t.request.held = none ∧ t.request.ready = true ∧ t.startUp = .running) ∧
    (s.power.mode ≠ .sleep → s.request.held = none → s.service.held = some (kind :: body) →
       (kind.toNat = 0 ∨ 5 < kind.toNat ∨ badServiceFrame (kind :: body) = false) →
       ∃ t, exec .wakeStartUpComplete s = .next t ∧
         ∃ u, exec (serviceOf kind body) { s with
           startUp := .running, request := { s.request with ready := true }, service := { s.service with held := none } } = .next u ∧
         t.tx.replies = u.tx.replies ∧ t.service.busy = u.service.busy ∧ t.startUp = u.startUp ∧
         t.service.held = none)

/-- O26. The doze timer's expiry with every lane IDLE or OFFLINE and no start-up running sends the part to DOZE with
the general status marked and the next round 100 ms later, unless the silence timer has expired or a fresh
Vehicle State shows ignition OFF with sleep permit: then it is in SLEEP. The silence timer's expiry sends a part
in DOZE to SLEEP and only notes itself in ACTIVE. SLEEP entry stops rounds, freshness, doze, silence and supply
timers, empties the queue and the waiting status frames, and waits for a service operation in progress. A
decoded Vehicle State in DOZE is taken whole and leaves the lanes alone; with ignition OFF and the sleep
permission it sends the part to SLEEP, or, with a service operation in progress, leaves the condition waiting;
any other leaves the part in DOZE. That the next round falls 100 ms after entry into DOZE is the model's choice
(log entry 21): it takes R187 over R162, by which the period in force at the last round would decide the next
one. That no doze time ends within a start-up is the model's inference (log entry 24), and that SLEEP waits for
a CLEAR_LOG and a FACTORY_PROFILE as for a write is its choice (log entry 29). (R179, R187, R188, R189, R190.) -/
def Obligations.DozeSleepAndTheSleepPermission : Prop :=
  ∀ (s : State) (data : List Byte),
    (s.power.dozeTimer.isSome = true → s.power.mode = .active → allIdle s = true → s.startUp = .running →
       ∃ t, exec .dozeTimerExpiry s = .next t ∧
         SameLanes s t ∧ SameSettings s t ∧ SamePositions s t ∧ SameRequests s t ∧
         (if s.power.silenceExpired = true ∨
             (s.vehicle.fresh = true ∧ s.vehicle.held.ignition = .off ∧ s.vehicle.held.sleepPermit = true) then
           if s.service.busy.isSome then t.power.mode = .doze ∧ t.power.sleepWaiting = true
           else t.power.mode = .sleep ∧ t.presence.roundTimer = none ∧ t.presence.queue = 0#12 ∧
             t.vehicle.held = s.vehicle.held ∧ t.vehicle.freshTimer = none ∧ t.supply.timer = none ∧
             t.power.dozeTimer = none ∧ t.power.silenceTimer = none ∧ t.tx.status = []
         else t.power.mode = .doze ∧ t.power.dozeTimer = none ∧ t.report.general = true ∧
           t.presence.roundTimer = s.presence.roundTimer.map (fun _ => 100))) ∧
    (s.power.silenceTimer.isSome = true → s.power.mode = .doze → s.service.busy = none →
       ∃ t, exec .silenceTimerExpiry s = .next t ∧
         t.power.mode = .sleep ∧ t.presence.roundTimer = none ∧ t.presence.queue = 0#12 ∧
         t.vehicle.freshTimer = none ∧ t.supply.timer = none ∧ t.power.dozeTimer = none ∧
         t.power.silenceTimer = none ∧ t.tx.status = [] ∧
         SameLanes s t ∧ SameSettings s t ∧ SamePositions s t ∧ SameRequests s t) ∧
    (s.power.silenceTimer.isSome = true → s.power.mode = .active →
       exec .silenceTimerExpiry s =
         .next { s with power := { s.power with silenceTimer := none, silenceExpired := true } }) ∧
    (∀ v, decodeVehicle data = some v → s.power.mode = .doze → allIdle s = true →
       ∃ t, exec (.vehicleState data) s = .next t ∧
         t.vehicle.held = v ∧ SameLanes s t ∧ SameSettings s t ∧ SamePositions s t ∧ SameRequests s t ∧
         t.vehicle.freeze = (s.vehicle.freeze || decide (5 < v.speed)) ∧
         (if v.ignition = .off ∧ v.sleepPermit = true then
           if s.service.busy.isSome then
             t.power.mode = .doze ∧ t.power.sleepWaiting = true ∧ t.vehicle.fresh = true
           else t.power.mode = .sleep ∧ t.presence.roundTimer = none ∧ t.presence.queue = 0#12 ∧
             t.vehicle.freshTimer = none ∧ t.supply.timer = none ∧ t.power.dozeTimer = none ∧
             t.power.silenceTimer = none ∧ t.tx.status = []
         else t.power.mode = .doze ∧ t.vehicle.fresh = true ∧ t.vehicle.freshTimer = some 300 ∧
           t.power.silenceTimer = some 2000 ∧ t.presence = s.presence))

/-- O27. While the monitor's own timer runs, a measurement becomes the latest, restarts the 10 ms timer, and below
9.0 V adds one to the low run up to 10; at 10 supply low comes into force, every MOVING lane stops toward
PAUSED(SUPPLY), a REVERSING one stops too and keeps a destination IDLE, and no other lane changes. At or above
9.0 V the run is 0 and the condition ends, and no lane changes. With the timer stopped only the pin's voltage
changes. The pin's own voltage is the model's (log entry 2). (R88, R184, R185.) -/
def Obligations.SupplyMeasurementKeepsTheLowRun : Prop :=
  ∀ (s : State) (mv : Nat),
    (s.supply.timer.isSome = true →
       ∃ t, exec (.supplyMeasurement mv) s = .next t ∧
         t.supply.measured = mv ∧ t.supply.timer = some 10 ∧
         t.supply.lowRun = (if mv < 9000 then min 10 (s.supply.lowRun + 1) else 0) ∧
         t.supply.low = (decide (mv < 9000) && (s.supply.low || decide (9 ≤ s.supply.lowRun))) ∧
         SameSettings s t ∧ SamePositions s t ∧ SameRequests s t ∧
         (if mv < 9000 ∧ 9 ≤ s.supply.lowRun ∧ s.supply.low = false then
           SupplyLost s t
         else SameLanes s t)) ∧
    (s.supply.timer = none →
       exec (.supplyMeasurement mv) s = .next { s with supply := { s.supply with pin := mv } })

/-- O28. While an actuator is driven or in its run-on window, a pulse raises its position by one when the last
driven polarity is its direction sense and lowers it otherwise, held within 0 and T; references, other
positions, settings, vehicle and requests are unchanged. When the count changes while one channel drives the
actuator: toward an INTERIOR aim a MOVING lane is cut into SETTLING in a 50 ms brake with 4, 12 or 24 counts
left by its class, and is slowed with 0, 80 or 120 left; toward an end, in a homing, LEARN_HOME or a learn rise
too, it is slowed likewise by the distance to that end and goes on; a back-off ends with 4 counts left, the lane
in STOPPING toward its destination in a 50 ms brake. Otherwise the lanes are unchanged and a running stall
measurement begins again. Before the store is loaded a pulse is not counted. The last sentence follows log entry
17. (R3, R4, R120, R121, R122, R125, R128, R133.) -/
def Obligations.HallPulsesCountAndSlowCutOrEndTheDrive : Prop :=
  ∀ (s : State) (a : ActId) (l : LaneId),
    ((s.startUp = .running ∨ s.startUp = .wake) → s.acts[a].cond ≠ .atRest →
       ∃ t, exec (.hallPulse a) s = .next t ∧
         t.acts[a].position =
           (if s.acts[a].lastPolarity = s.ram.actuators[a].sense then
             (if s.acts[a].position < s.ram.actuators[a].travel then s.acts[a].position + 1 else s.acts[a].position)
           else s.acts[a].position - 1) ∧
         (∀ b : ActId, t.acts[b].referenced = s.acts[b].referenced ∧
           (b ≠ a → t.acts[b].position = s.acts[b].position)) ∧
         SameSettings s t ∧ SameVehicle s t ∧ SameRequests s t) ∧
    (∀ cls, s.drives[l].cls = some cls → ∀ k, s.drives[l].kind = some k → ∀ dir,
       s.drives[l].direction = some dir → (s.startUp = .running ∨ s.startUp = .wake) →
       s.acts[a].cond ≠ .atRest → s.drives[l].phase = .driving → s.drives[l].connected = some a →
       (∀ m : LaneId, m ≠ l → s.drives[m].connected ≠ some a) → s.lanes[l].state = .moving →
       (k = .step ∨ k = .correction ∨ k = .learnReturn) → s.drives[l].endKind = some .interior →
       ∃ t, exec (.hallPulse a) s = .next t ∧
         (if t.acts[a].position = s.acts[a].position then
           t.lanes = s.lanes ∧ t.drives[l] = { s.drives[l] with
             stallTime := s.drives[l].stallTime.map (fun _ => 0) }
         else if leftTo dir t.acts[a].position s.drives[l].aim ≤ (match cls with
             | .creep => (4 : Int)
             | .normal => 12
             | .fast => 24) then
           t.lanes[l].state = .settling ∧ Braking t l 50 false ∧ t.acts[a].cond = .inRunOn ∧ KeepsZones s t l
         else
           t.lanes = s.lanes ∧ t.drives[l] = { s.drives[l] with
             stallTime := s.drives[l].stallTime.map (fun _ => 0)
             slowed := s.drives[l].slowed || decide (leftTo dir t.acts[a].position s.drives[l].aim ≤ (match cls with
               | .creep => (0 : Int)
               | .normal => 80
               | .fast => 120)) })) ∧
    (∀ cls, s.drives[l].cls = some cls → ∀ k, s.drives[l].kind = some k → ∀ e, s.drives[l].endKind = some e →
       (s.startUp = .running ∨ s.startUp = .wake) → s.acts[a].cond ≠ .atRest → s.drives[l].phase = .driving →
       s.drives[l].connected = some a → (∀ m : LaneId, m ≠ l → s.drives[m].connected ≠ some a) →
       s.lanes[l].state = .moving → (k = .step ∨ k = .correction ∨ k = .learnReturn) → e ≠ .interior →
       ∃ t, exec (.hallPulse a) s = .next t ∧
         (if t.acts[a].position = s.acts[a].position then
           t.lanes = s.lanes ∧ t.drives[l] = { s.drives[l] with
             stallTime := s.drives[l].stallTime.map (fun _ => 0) }
         else
           t.lanes = s.lanes ∧ t.drives[l] = { s.drives[l] with
             stallTime := s.drives[l].stallTime.map (fun _ => 0)
             slowed := s.drives[l].slowed || decide ((if e = .low then (t.acts[a].position : Int)
               else (s.ram.actuators[a].travel : Int) - (t.acts[a].position : Int)) ≤ (match cls with
               | .creep => (0 : Int)
               | .normal => 80
               | .fast => 120)) })) ∧
    (∀ cls, s.drives[l].cls = some cls → ∀ k, s.drives[l].kind = some k →
       (s.startUp = .running ∨ s.startUp = .wake) → s.acts[a].cond ≠ .atRest → s.drives[l].phase = .driving →
       s.drives[l].connected = some a → (∀ m : LaneId, m ≠ l → s.drives[m].connected ≠ some a) →
       s.lanes[l].state = .moving → (k = .homing ∨ k = .learnHome ∨ k = .learnRise) →
       ∃ t, exec (.hallPulse a) s = .next t ∧
         (if t.acts[a].position = s.acts[a].position then
           t.lanes = s.lanes ∧ t.drives[l] = { s.drives[l] with
             stallTime := s.drives[l].stallTime.map (fun _ => 0) }
         else
           t.lanes = s.lanes ∧ t.drives[l] = { s.drives[l] with
             stallTime := s.drives[l].stallTime.map (fun _ => 0)
             slowed := s.drives[l].slowed || decide ((if k = .homing ∨ k = .learnHome then (t.acts[a].position : Int)
               else (s.ram.actuators[a].travel : Int) - (t.acts[a].position : Int)) ≤ (match cls with
               | .creep => (0 : Int)
               | .normal => 80
               | .fast => 120)) })) ∧
    (∀ dir, s.drives[l].direction = some dir → ∀ dest, s.lanes[l].stopDest = some dest →
       (s.startUp = .running ∨ s.startUp = .wake) → s.acts[a].cond ≠ .atRest → s.drives[l].phase = .driving →
       s.drives[l].connected = some a → (∀ m : LaneId, m ≠ l → s.drives[m].connected ≠ some a) →
       s.lanes[l].state = .reversing → s.drives[l].kind = some .backOff → s.drives[l].cls = some .creep →
       ∃ t, exec (.hallPulse a) s = .next t ∧
         (if t.acts[a].position ≠ s.acts[a].position ∧ leftTo dir t.acts[a].position s.drives[l].stopPoint ≤ 4 then
           t.lanes[l].state = .stopping ∧ t.lanes[l].stopDest = some dest ∧ Braking t l 50 false ∧
           t.acts[a].cond = .inRunOn ∧ KeepsZones s t l
         else t.lanes = s.lanes ∧ t.drives[l].phase = .driving ∧ t.drives[l].kind = some .backOff)) ∧
    (∀ w1, s.startUp = .loading w1 →
       exec (.hallPulse a) s = .next s)

/-- O29. A pulse of an actuator at rest raises its manual pulse count by one and changes nothing else, and at 50
changes nothing at all; the one that makes it 50 on a referenced actuator makes it unreferenced in RAM and in
the store, with the position kept and stored and the motion mark unchanged. (R5, R8.) -/
def Obligations.ManualPulsesUnreferenceAtTheFiftieth : Prop :=
  ∀ (s : State) (a : ActId), (s.startUp = .running ∨ s.startUp = .wake) → s.acts[a].cond = .atRest →
    (s.acts[a].manualPulses < 50 → (s.acts[a].manualPulses = 49 → s.acts[a].referenced = false) →
       exec (.hallPulse a) s =
         .next { s with acts := put s.acts a { s.acts[a] with manualPulses := s.acts[a].manualPulses + 1 } }) ∧
    (50 ≤ s.acts[a].manualPulses →
       exec (.hallPulse a) s = .next s) ∧
    (s.acts[a].manualPulses = 49 → s.acts[a].referenced = true →
       ∃ t, exec (.hallPulse a) s = .next t ∧
         t.acts[a].manualPulses = 50 ∧ t.acts[a].referenced = false ∧
         t.ram.actuators[a] = { s.ram.actuators[a] with storedPosition := s.acts[a].position, storedReferenced := false } ∧
         t.store.actuators[a] = { s.store.actuators[a] with storedPosition := s.acts[a].position, storedReferenced := false } ∧
         ∀ b : ActId, t.acts[b].position = s.acts[b].position ∧
           (b ≠ a → t.acts[b].referenced = s.acts[b].referenced))

/-- O30. A sample of a driving lane's channel that is not the third saturated one and gives no SOFT or FIRM leaves
in the load context what the sample computation gives at the clamped current and the counted position, counts or
clears the saturation run, raises the duty by 50 per mille up to the limit in force, and is the latest supply
measurement. From 9.0 V the low run is 0 and supply low out of force, and its end marks the general status
frame; below, the run rises up to 10; nothing else in the whole state changes. The tenth low one with supply low
not in force brings it in: MOVING stops toward PAUSED(SUPPLY), REVERSING stops and keeps a destination IDLE, in
50 ms brakes, no other lane changes, and the frame is marked. Without a DRIVING channel there is no sample. The
last sentence is the model's choice (log entry 9), and so is the pin's own voltage (log entry 2). (R88, R120,
R129, R130, R137, R141, R184, R185, R206.) -/
def Obligations.LoadSampleFiltersAndRampsTheDuty : Prop :=
  ∀ (s : State) (l : LaneId) (reading : Nat) (mv : Nat),
    (∀ a, s.drives[l].connected = some a → ∀ k, s.drives[l].kind = some k → s.drives[l].phase = .driving →
       (s.lanes[l].state = .moving ∨ s.lanes[l].state = .reversing) → 9000 ≤ mv → PreemptWaits s →
       ¬ (20000 ≤ reading ∧ s.drives[l].saturation = 2) →
       (s.loads[l].sample k s.ram.actuators[a] s.acts[a].position (min 20000 reading)).2 = .none →
       exec (.loadSample l reading mv) s =
         .next (markIf s.supply.low .general { s with
         loads := put s.loads l (s.loads[l].sample k s.ram.actuators[a] s.acts[a].position (min 20000 reading)).1
         drives := put s.drives l { s.drives[l] with
           duty := min (s.drives[l].duty + 50) (limitInForce s.ram.actuators[a] s.drives[l])
           saturation := (if 20000 ≤ reading then s.drives[l].saturation + 1 else 0) }
         supply := { s.supply with pin := mv, measured := mv, lowRun := 0, low := false } })) ∧
    (∀ a, s.drives[l].connected = some a → ∀ k, s.drives[l].kind = some k → s.drives[l].phase = .driving →
       (s.lanes[l].state = .moving ∨ s.lanes[l].state = .reversing) → PreemptWaits s →
       ¬ (20000 ≤ reading ∧ s.drives[l].saturation = 2) →
       (s.loads[l].sample k s.ram.actuators[a] s.acts[a].position (min 20000 reading)).2 = .none → mv < 9000 →
       (s.supply.low = true ∨ s.supply.lowRun < 9) →
       exec (.loadSample l reading mv) s =
         .next { s with
         loads := put s.loads l (s.loads[l].sample k s.ram.actuators[a] s.acts[a].position (min 20000 reading)).1
         drives := put s.drives l { s.drives[l] with
           duty := min (s.drives[l].duty + 50) (limitInForce s.ram.actuators[a] s.drives[l])
           saturation := (if 20000 ≤ reading then s.drives[l].saturation + 1 else 0) }
         supply := { s.supply with pin := mv, measured := mv, lowRun := min 10 (s.supply.lowRun + 1) } }) ∧
    (∀ a, s.drives[l].connected = some a → ∀ k, s.drives[l].kind = some k → s.drives[l].phase = .driving →
       (s.lanes[l].state = .moving ∨ s.lanes[l].state = .reversing) → PreemptWaits s →
       ¬ (20000 ≤ reading ∧ s.drives[l].saturation = 2) →
       (s.loads[l].sample k s.ram.actuators[a] s.acts[a].position (min 20000 reading)).2 = .none → mv < 9000 →
       9 ≤ s.supply.lowRun → s.supply.low = false →
       ∃ t, exec (.loadSample l reading mv) s = .next t ∧
         t.supply.measured = mv ∧ t.supply.lowRun = 10 ∧ t.supply.low = true ∧
         t.loads = put s.loads l (s.loads[l].sample k s.ram.actuators[a] s.acts[a].position (min 20000 reading)).1 ∧
         SupplyLost s t ∧ t.report.general = true ∧ t.holders = s.holders ∧ t.waitList = s.waitList ∧
         SamePositions s t ∧ SameSettings s t ∧ SameRequests s t) ∧
    (s.drives[l].phase ≠ .driving →
       exec (.loadSample l reading mv) s = .next s)

/-- O31. The third consecutive sample at full scale of a MOVING or REVERSING lane's channel opens the relay at once
without a brake, marks the channel failed, and makes the log entry DRIVE_FAULT with lane, actuator and position.
A lane that no pending preempt awaits is left in FAULTED(DRIVE_FAULT) with result FAULTED and no zone, its
bindings and its inline record kept; the motion mark is not touched, the Load Monitor has still received the
sample, and, unless the sample brings an onset of supply low, any lane outside CLAIMING and FENCED that is not
the partner is as it was. A lane that a pending preempt awaits is cleared at once: it is OFFLINE with PREEMPTED,
holding no zone, no binding and no inline step, and leaves the awaited set; if it was the last one there, the
slot is empty and one reply answers the request. In both cases, unless the sample brings an onset of supply low,
the lane's partner has had a partner fault, which acts by its state as HALT does, with reason PARTNER_FAULT. That
the load context keeps the sample in FAULTED, that OFFLINE ends the inline step, and that a partner in CLAIMING
may be granted before its fault, are the model's choices (log entries 18 and 13), and so is that FAULTED keeps
nothing of the step context (log entry 27). (R8, R63, R89, R90, R91, R96, R117, R130, R131, R197.) -/
def Obligations.ThirdSaturatedSampleIsADriveFault : Prop :=
  ∀ (s : State) (l : LaneId) (reading : Nat) (mv : Nat), WaitListFits s →
    (∀ a, s.drives[l].connected = some a → ∀ k, s.drives[l].kind = some k → s.drives[l].phase = .driving →
       20000 ≤ reading → s.drives[l].saturation = 2 → Unawaited s l →
       ∃ t, exec (.loadSample l reading mv) s = .next t ∧
         RelayOpen t l ∧ t.drives[l].failed = true ∧
         t.lanes[l].state = .faulted ∧ t.lanes[l].faultReason = some .driveFault ∧
         t.lanes[l].lastResult = some .faulted ∧ t.lanes[l].ctx = none ∧ heldBy t l = 0#12 ∧
         t.lanes[l].inline = s.lanes[l].inline ∧ t.loads[l].samples = s.loads[l].samples + 1 ∧
         (∀ b : ActId, t.acts[b].binding = s.acts[b].binding ∧ t.acts[b].position = s.acts[b].position) ∧
         t.ram.actuators = s.ram.actuators ∧ Logged t .driveFault l a s.acts[a].position ∧
         (9000 ≤ mv ∨ s.supply.low = true ∨ s.supply.lowRun < 9 → FaultHandedOn s t l)) ∧
    (∀ a, s.drives[l].connected = some a → ∀ k, s.drives[l].kind = some k → ∀ p, s.request.slot = some p →
       s.drives[l].phase = .driving → 20000 ≤ reading → s.drives[l].saturation = 2 → has p.awaited l = true →
       ∃ t, exec (.loadSample l reading mv) s = .next t ∧
         t.lanes[l].state = .offline ∧ t.lanes[l].lastResult = some .preempted ∧
         t.lanes[l].faultReason = some .driveFault ∧ t.lanes[l].ctx = none ∧ t.lanes[l].inline = none ∧
         HoldsNothing t l ∧ RelayOpen t l ∧ t.drives[l].failed = true ∧ Logged t .driveFault l a s.acts[a].position ∧
         (if p.awaited &&& ~~~single l = 0#4 then t.request.slot = none ∧ ∃ v ls down clamp, v ≠ .preemptPending ∧
           t.tx.replies = s.tx.replies ++ [replyFrame p.station p.tag p.run.kind v ls down clamp]
         else t.request.slot = some { p with awaited := p.awaited &&& ~~~single l } ∧ t.tx.replies = s.tx.replies) ∧
         (9000 ≤ mv ∨ s.supply.low = true ∨ s.supply.lowRun < 9 → ∀ j : LaneId, j ≠ l → s.lanes[l].partner = some j →
           s.lanes[j].partner = some l → s.lanes[j].state.free = false → PartnerFaulted s t j))

/-- O32. BLANKING_END of a DRIVING channel that has had its blanked samples starts the stall measurement at 0 and
changes nothing else; RUN_ON_END of an actuator in run-on puts it at rest and changes nothing else; HOLD_LAPSE
marks the hold not current and sends a MOVING lane in HOLD mode to STOPPING toward PAUSED(HOLD_LAPSED) in a 50
ms brake. The gate timer's expiry brings a lane in WAIT_GATE to PAUSED(GATE_TIMEOUT) with resume point GATE; the
claim timer's brings one in CLAIMING off the wait list to PAUSED(CLAIM_TIMEOUT) with CLAIM; the total timer's
brings one in FENCED to PAUSED(FENCE_TIMEOUT) with MOTION. Each starts the pause timer with 120 s and keeps the
zones the lane holds; with nothing of the kind running, each changes nothing, which is the model's choice (log
entry 9). That the lapse timer of a lane in FAULTED, IDLE or OFFLINE runs on to its expiry is the model's choice
(log entry 28). (R4, R73, R74, R84, R87, R100, R112, R125.) -/
def Obligations.WatchesWindowsAndWaitsEnd : Prop :=
  ∀ (s : State) (l : LaneId) (a : ActId),
    (s.drives[l].phase = .driving → s.drives[l].blanking = true → s.loads[l].blanking ≤ s.loads[l].samples →
       exec (.blankingEnd l) s =
         .next { s with drives := put s.drives l { s.drives[l] with blanking := false, stallTime := some 0 } }) ∧
    ((s.drives[l].phase ≠ .driving ∨ s.drives[l].blanking = false ∨ s.loads[l].samples < s.loads[l].blanking) →
       exec (.blankingEnd l) s = .next s) ∧
    (s.acts[a].cond = .inRunOn →
       exec (.runOnEnd a) s =
         .next { s with acts := put s.acts a { s.acts[a] with cond := .atRest, runOn := none } }) ∧
    (s.acts[a].cond ≠ .inRunOn →
       exec (.runOnEnd a) s = .next s) ∧
    (s.lanes[l].lapseTimer.isSome = true → ¬ (s.lanes[l].state = .moving ∧ s.lanes[l].mode = some .hold) →
       exec (.holdLapse l) s =
         .next { s with lanes := put s.lanes l { s.lanes[l] with lapseTimer := none } }) ∧
    (s.lanes[l].lapseTimer.isSome = true → s.lanes[l].state = .moving → s.lanes[l].mode = some .hold →
       s.drives[l].phase = .driving →
       ∃ t, exec (.holdLapse l) s = .next t ∧
         t.lanes[l].state = .stopping ∧ t.lanes[l].stopDest = some (.paused .holdLapsed) ∧
         t.lanes[l].lapseTimer = none ∧ Braking t l 50 false ∧ t.holders = s.holders ∧
         ∀ k : LaneId, k ≠ l → t.lanes[k] = s.lanes[k] ∧ t.drives[k] = s.drives[k]) ∧
    (s.lanes[l].lapseTimer = none →
       exec (.holdLapse l) s = .next s) ∧
    (s.lanes[l].state = .waitGate → s.lanes[l].gateTimer.isSome = true →
       ∃ t, exec (.gateTimerExpiry l) s = .next t ∧
         PausedAt t.lanes[l] .gateTimeout .gate ∧ t.holders = s.holders ∧ t.waitList = s.waitList ∧
         ∀ k : LaneId, k ≠ l → t.lanes[k] = s.lanes[k]) ∧
    (s.lanes[l].gateTimer = none →
       exec (.gateTimerExpiry l) s = .next s) ∧
    (s.lanes[l].state = .claiming → s.lanes[l].claimTimer.isSome = true →
       ∃ t, exec (.claimTimerExpiry l) s = .next t ∧
         PausedAt t.lanes[l] .claimTimeout .claim ∧ Unlisted t l ∧ KeepsZones s t l) ∧
    (s.lanes[l].claimTimer = none →
       exec (.claimTimerExpiry l) s = .next s) ∧
    (s.lanes[l].state = .fenced → s.lanes[l].totalTimer.isSome = true →
       ∃ t, exec (.totalTimerExpiry l) s = .next t ∧
         PausedAt t.lanes[l] .fenceTimeout .motion ∧ t.holders = s.holders ∧ t.waitList = s.waitList ∧
         ∀ k : LaneId, k ≠ l → t.lanes[k] = s.lanes[k]) ∧
    (s.lanes[l].totalTimer = none →
       exec (.totalTimerExpiry l) s = .next s)

/-- O33. A stall of a MOVING lane's channel, after blanking and 80 ms without a pulse: a homing or LEARN_HOME ends
with position 0, referenced, manual pulses 0; a drive to END_LOW that stalls decreasing within 30 counts of it
likewise; a drive to END_HIGH that stalls increasing within 30 counts of T ends with position T and the
reference unchanged; a learn rise ends with its counted position as the learned travel. The lane is in SETTLING
and the channel in a 50 ms brake; other positions and the settings are unchanged. Without 80 ms measured, before
the end of blanking and outside a drive there is no stall. The last sentence is the model's choice (log entry
9). (R6, R7, R77, R124, R125, R126, R152, R154.) -/
def Obligations.StallAtTheEndCompletesTheMotion : Prop :=
  ∀ (s : State) (l : LaneId), WaitListFits s → PreemptWaits s →
    (∀ a, s.drives[l].connected = some a → ∀ k, s.drives[l].kind = some k → s.drives[l].phase = .driving →
       StallMeasured s.drives[l] → s.drives[l].blanking = false → s.lanes[l].state = .moving →
       (k = .homing ∨ k = .learnHome ∨ ((k = .step ∨ k = .correction ∨ k = .learnReturn) ∧
       s.drives[l].endKind = some .low ∧ s.drives[l].direction = some .decreasing ∧ s.acts[a].position ≤ 30)) →
       ∃ t, exec (.stall l) s = .next t ∧
         t.lanes[l].state = .settling ∧ Braking t l 50 false ∧ SameSettings s t ∧
         t.acts[a].position = 0 ∧ t.acts[a].referenced = true ∧ t.acts[a].manualPulses = 0 ∧
         ∀ b : ActId, b ≠ a → t.acts[b].position = s.acts[b].position ∧ t.acts[b].referenced = s.acts[b].referenced) ∧
    (∀ a, s.drives[l].connected = some a → ∀ k, s.drives[l].kind = some k → s.drives[l].phase = .driving →
       StallMeasured s.drives[l] → s.drives[l].blanking = false → s.lanes[l].state = .moving →
       (k = .step ∨ k = .correction ∨ k = .learnReturn) → s.drives[l].endKind = some .high →
       s.drives[l].direction = some .increasing → s.ram.actuators[a].travel - 30 ≤ s.acts[a].position →
       ∃ t, exec (.stall l) s = .next t ∧
         t.lanes[l].state = .settling ∧ Braking t l 50 false ∧ SameSettings s t ∧
         t.acts[a].position = s.ram.actuators[a].travel ∧ t.acts[a].manualPulses = 0 ∧
         ∀ b : ActId, t.acts[b].referenced = s.acts[b].referenced ∧ (b ≠ a → t.acts[b].position = s.acts[b].position)) ∧
    (∀ a, s.drives[l].connected = some a → ∀ k, s.drives[l].kind = some k → s.drives[l].phase = .driving →
       StallMeasured s.drives[l] → s.drives[l].blanking = false → s.lanes[l].state = .moving → k = .learnRise →
       ∃ t, exec (.stall l) s = .next t ∧
         t.lanes[l].state = .settling ∧ Braking t l 50 false ∧ SameSettings s t ∧ SamePositions s t ∧
         t.loads[l].learn = s.loads[l].learn.map (fun r => { r with travel := some s.acts[a].position })) ∧
    ((s.drives[l].phase ≠ .driving ∨ s.drives[l].blanking = true ∨ ¬ StallMeasured s.drives[l]) →
       exec (.stall l) s = .next s)

/-- O34. After blanking, a stall of a MOVING lane's step, correction or learn return outside its target end's window
sends the lane to REVERSING toward PAUSED(FIRM_CONTACT) in a 40 ms reversal brake with the back-off's stop point
fixed 40 counts back within its limits, makes BACK_OFF the motion of its step context, sets FIRM_SEEN, ends adaptation and makes a FIRM_CONTACT entry at the
contact. A stall in the back-off brakes for 50 ms and leaves the lane in FAULTED(REVERSE_BLOCKED), holding no
zone and keeping its bindings, with its own entry. Its partner has then had a partner fault, which acts by its
state as HALT does, with reason PARTNER_FAULT, and any lane outside CLAIMING and FENCED that is not the partner
is as it was. If a pending preempt awaits the lane, it keeps a clear with result PREEMPTED as its pending order
until the brake ends, and stays awaited. Positions and motion marks stay. That a partner in CLAIMING may be
granted before its fault is the model's choice (log entry 13). (R63, R68, R89, R90, R91, R96, R126, R143, R144,
R145, R147.) -/
def Obligations.ContactsReverseAndBlockedReversalsFault : Prop :=
  ∀ (s : State) (l : LaneId), WaitListFits s →
    (∀ a, s.drives[l].connected = some a → ∀ k, s.drives[l].kind = some k → ∀ dir,
       s.drives[l].direction = some dir → s.drives[l].phase = .driving → StallMeasured s.drives[l] →
       s.drives[l].blanking = false → s.lanes[l].state = .moving → PreemptWaits s →
       ((k = .step ∨ k = .correction ∨ k = .learnReturn) ∧ ¬ (s.drives[l].endKind = some .low ∧
       dir = .decreasing ∧ s.acts[a].position ≤ 30) ∧ ¬ (s.drives[l].endKind = some .high ∧ dir = .increasing ∧
       s.ram.actuators[a].travel - 30 ≤ s.acts[a].position)) →
       ∃ t, exec (.stall l) s = .next t ∧
         t.lanes[l].state = .reversing ∧ t.lanes[l].stopDest = some (.paused .firmContact) ∧
         t.lanes[l].incidents &&& 0x02#7 = 0x02#7 ∧ Braking t l 40 true ∧ t.loads[l].eligible = false ∧
         t.drives[l].stopPoint = stopPointOf dir s.acts[a].position
           (s.loads[l].origin.getD s.acts[a].position) s.ram.actuators[a].travel ∧
         t.lanes[l].ctx = s.lanes[l].ctx.map (fun c => { c with motion := .backOff }) ∧
         KeepsZones s t l ∧ SamePositions s t ∧ t.ram.actuators = s.ram.actuators ∧
         Logged t .firmContact l a s.acts[a].position) ∧
    (∀ a, s.drives[l].connected = some a → ∀ k, s.drives[l].kind = some k → s.drives[l].phase = .driving →
       StallMeasured s.drives[l] → s.drives[l].blanking = false → s.lanes[l].state = .reversing →
       k = .backOff → Unawaited s l →
       ∃ t, exec (.stall l) s = .next t ∧
         t.lanes[l].state = .faulted ∧ t.lanes[l].faultReason = some .reverseBlocked ∧
         t.lanes[l].lastResult = some .faulted ∧ t.lanes[l].stopDest = none ∧ heldBy t l = 0#12 ∧
         Braking t l 50 false ∧ SamePositions s t ∧ t.ram.actuators = s.ram.actuators ∧
         (∀ b : ActId, t.acts[b].binding = s.acts[b].binding) ∧
         Logged t .reverseBlocked l a s.acts[a].position ∧ FaultHandedOn s t l) ∧
    (∀ a, s.drives[l].connected = some a → ∀ k, s.drives[l].kind = some k → ∀ p, s.request.slot = some p →
       s.drives[l].phase = .driving → StallMeasured s.drives[l] → s.drives[l].blanking = false →
       s.lanes[l].state = .reversing → k = .backOff → has p.awaited l = true →
       ∃ t, exec (.stall l) s = .next t ∧
         t.lanes[l].state = .faulted ∧ t.lanes[l].faultReason = some .reverseBlocked ∧
         t.lanes[l].pendingOrder = some (.clear .preempted) ∧ heldBy t l = 0#12 ∧ Braking t l 50 false ∧
         (∀ b : ActId, t.acts[b].binding = s.acts[b].binding) ∧ SameRequests s t ∧
         Logged t .reverseBlocked l a s.acts[a].position ∧ FaultHandedOn s t l)

/-- O35. When the relay is made with the actuator referenced where the motion needs it, the interlock satisfied,
supply low not in force and a HOLD lane's hold current: the motion mark is set in RAM and store, the actuator is
driven with the polarity as its last and manual pulses 0, and the channel drives at 250 per mille with the lane
in MOVING. The load context starts afresh with 60 samples of blanking, in PROFILE mode for a step, correction or
learn return, else in ABSOLUTE, with the actuator's margins, smaller under GUARD_LOST; a step drive not at
NORMAL loses adaptation. A step, correction or learn return to an INTERIOR target that lies within the coast
allowance of its class is cut at once into SETTLING. The supply monitor's own timer stops while it drives, and
other actuators' records are untouched. (R4, R6, R8, R76, R118, R119, R122, R125, R134, R135, R139, R149.) -/
def Obligations.RelayMadeStartsTheDrive : Prop :=
  ∀ (s : State) (l : LaneId),
    (∀ c, s.lanes[l].ctx = some c → s.drives[l].phase = .making → s.lanes[l].state = .arming →
       s.drives[l].connected = some c.act → interlock s = true → s.supply.low = false →
       ¬ (s.lanes[l].mode = some .hold ∧ s.lanes[l].lapseTimer = none) →
       (c.motion = .homing ∨ c.motion = .learnHome ∨ s.acts[c.act].referenced = true) → c.motion ≠ .backOff →
       (c.endKind = .interior → (c.motion = .step ∨ c.motion = .correction ∨ c.motion = .learnReturn) →
       s.acts[c.act].position + coastAllowance (driveClass c) < c.pt ∨
         c.pt + coastAllowance (driveClass c) < s.acts[c.act].position) →
       ∃ t, exec (.relayMade l) s = .next t ∧
         t.lanes[l].state = .moving ∧ t.drives[l].phase = .driving ∧ t.drives[l].duty = 250 ∧
         t.drives[l].connected = some c.act ∧ t.drives[l].kind = some c.motion ∧
         t.drives[l].endKind = some c.endKind ∧ t.drives[l].aim = c.pt ∧ t.drives[l].blanking = true ∧
         t.drives[l].saturation = 0 ∧ t.supply.timer = none ∧
         t.drives[l].direction = some (driveDirection c.motion c.endKind c.pt s.acts[c.act].position) ∧
         t.drives[l].cls = some (driveClass c) ∧
         LoadStarted s t l c.act 60
           (if c.motion = .step ∨ c.motion = .correction ∨ c.motion = .learnReturn then .profile else .absolute)
           c.guardLost ∧
         t.loads[l].eligible = (if c.motion = .step ∧ c.cls ≠ .normal then false else s.loads[l].eligible) ∧
         t.loads[l].origin = some (s.loads[l].origin.getD s.acts[c.act].position) ∧
         t.acts[c.act].cond = .driven ∧ t.acts[c.act].manualPulses = 0 ∧ t.acts[c.act].runOn = none ∧
         t.acts[c.act].lastPolarity = bridge s.ram.actuators[c.act].sense
           (driveDirection c.motion c.endKind c.pt s.acts[c.act].position) ∧
         t.ram.actuators = put s.ram.actuators c.act { s.ram.actuators[c.act] with motionMark := true } ∧
         t.store.actuators = put s.store.actuators c.act { s.store.actuators[c.act] with motionMark := true } ∧
         SamePositions s t ∧ t.holders = s.holders ∧ SameRequests s t) ∧
    (∀ c, s.lanes[l].ctx = some c → s.drives[l].phase = .making → s.lanes[l].state = .arming →
       s.drives[l].connected = some c.act → interlock s = true → s.supply.low = false →
       ¬ (s.lanes[l].mode = some .hold ∧ s.lanes[l].lapseTimer = none) →
       (c.motion = .step ∨ c.motion = .correction ∨ c.motion = .learnReturn) →
       s.acts[c.act].referenced = true → c.endKind = .interior →
       s.acts[c.act].position ≤ c.pt + coastAllowance (driveClass c) →
       c.pt ≤ s.acts[c.act].position + coastAllowance (driveClass c) →
       ∃ t, exec (.relayMade l) s = .next t ∧
         t.lanes[l].state = .settling ∧ Braking t l 50 false ∧ t.acts[c.act].cond = .inRunOn ∧
         LoadStarted s t l c.act 60 .profile c.guardLost ∧
         t.ram.actuators = put s.ram.actuators c.act { s.ram.actuators[c.act] with motionMark := true } ∧
         SamePositions s t ∧ t.holders = s.holders)

/-- O36. When the relay is made and the actuator is referenced where the motion needs it, a missing interlock pauses
the lane with INTERLOCK, else supply low in force with SUPPLY, else a HOLD lane's hold that is not current with
HOLD_LAPSED, each with resume point MOTION, the relay open, the zones kept and no setting or motion mark
written. A motion that needs a reference and has none does not drive: the lane goes back to the ARMING decision.
Without a MAKING channel nothing happens. The last sentence is the model's choice (log entry 9). (R75, R76, R86,
R117, R118.) -/
def Obligations.RelayMadePausesWithoutItsConditions : Prop :=
  ∀ (s : State) (l : LaneId),
    (∀ c, s.lanes[l].ctx = some c → WaitListFits s → s.drives[l].phase = .making →
       (c.motion = .homing ∨ c.motion = .learnHome ∨ s.acts[c.act].referenced = true) → interlock s = false →
       ∃ t, exec (.relayMade l) s = .next t ∧
         PausedAt t.lanes[l] .interlock .motion ∧ RelayOpen t l ∧ KeepsZones s t l ∧ SameSettings s t ∧
         SamePositions s t) ∧
    (∀ c, s.lanes[l].ctx = some c → WaitListFits s → s.drives[l].phase = .making →
       (c.motion = .homing ∨ c.motion = .learnHome ∨ s.acts[c.act].referenced = true) → interlock s = true →
       s.supply.low = true →
       ∃ t, exec (.relayMade l) s = .next t ∧
         PausedAt t.lanes[l] .supply .motion ∧ RelayOpen t l ∧ KeepsZones s t l ∧ SameSettings s t ∧ SamePositions s t) ∧
    (∀ c, s.lanes[l].ctx = some c → WaitListFits s → s.drives[l].phase = .making →
       (c.motion = .homing ∨ c.motion = .learnHome ∨ s.acts[c.act].referenced = true) → interlock s = true →
       s.supply.low = false → s.lanes[l].mode = some .hold → s.lanes[l].lapseTimer = none →
       ∃ t, exec (.relayMade l) s = .next t ∧
         PausedAt t.lanes[l] .holdLapsed .motion ∧ RelayOpen t l ∧ KeepsZones s t l ∧ SameSettings s t ∧
         SamePositions s t) ∧
    (∀ c, s.lanes[l].ctx = some c → WaitListFits s → s.drives[l].phase = .making →
       s.acts[c.act].referenced = false →
       (c.motion = .step ∨ c.motion = .correction ∨ c.motion = .learnRise ∨ c.motion = .learnReturn) →
       ∃ t, exec (.relayMade l) s = .next t ∧
         GoneOn t.lanes[l] ∧ t.drives[l].phase ≠ .driving ∧ SameSettings s t) ∧
    (s.drives[l].phase ≠ .making →
       exec (.relayMade l) s = .next s)

/-- O37. At the end of a 50 ms brake the stored position and reference take the RAM values and the motion mark
clears, in RAM and store, and the relay opens. STOPPING enters its destination: PAUSED with its reason and
resume point MOTION, FENCED with a 10 s total timer and, with no held zone fenced, a 1000 ms clear timer, or,
with no preempt pending, IDLE with its result and nothing held. SETTLING on target at the end of a track with no
order pending completes the step: into DWELL, or with dwell 0 and no preempt pending into IDLE with COMPLETED.
In FAULTED nothing is captured; with a clear pending and no preempt pending the lane then leaves FAULTED with
the result that the clear brings, to IDLE, or to OFFLINE after DRIVE_FAULT, its bindings released. (R8, R70,
R78, R79, R80, R82, R109, R117, R124, R90.) -/
def Obligations.BrakeEndCapturesAndSendsTheLaneOn : Prop :=
  ∀ (s : State) (l : LaneId), WaitListFits s →
    (∀ (r : PauseReason), ∀ a, s.drives[l].connected = some a → s.drives[l].phase = .braking →
       s.drives[l].reversal = false → s.lanes[l].state = .stopping → s.lanes[l].stopDest = some (.paused r) →
       PreemptWaits s →
       ∃ t, exec (.brakeEnd l) s = .next t ∧
         PausedAt t.lanes[l] r .motion ∧ RelayOpen t l ∧ Captured s t a ∧ SamePositions s t ∧ KeepsZones s t l) ∧
    (∀ a, s.drives[l].connected = some a → s.drives[l].phase = .braking → s.drives[l].reversal = false →
       s.lanes[l].state = .stopping → s.lanes[l].stopDest = some .fenced → PreemptWaits s →
       ∃ t, exec (.brakeEnd l) s = .next t ∧
         t.lanes[l].state = .fenced ∧ t.lanes[l].totalTimer = some 10000 ∧
         t.lanes[l].clearTimer = (if meets (heldBy t l) (fenced t) = true then none else some 1000) ∧
         t.lanes[l].incidents &&& 0x04#7 = 0x04#7 ∧ RelayOpen t l ∧ Captured s t a ∧ SamePositions s t ∧
         KeepsZones s t l) ∧
    (∀ (x : Result), ∀ a, s.drives[l].connected = some a → s.drives[l].phase = .braking →
       s.drives[l].reversal = false → s.lanes[l].state = .stopping → s.lanes[l].stopDest = some (.idle x) →
       s.request.slot = none →
       ∃ t, exec (.brakeEnd l) s = .next t ∧
         t.lanes[l].state = .idle ∧ t.lanes[l].lastResult = some x ∧ HoldsNothing t l ∧
         RelayOpen t l ∧ Captured s t a ∧ SamePositions s t) ∧
    (∀ a, s.drives[l].connected = some a → ∀ c, s.lanes[l].ctx = some c → s.drives[l].phase = .braking →
       s.drives[l].reversal = false → s.lanes[l].state = .settling → s.lanes[l].pendingOrder = none →
       (c.motion = .step ∨ c.motion = .correction) → c.step.next = none → s.acts[c.act].position ≤ c.pt + 8 →
       c.pt ≤ s.acts[c.act].position + 8 → s.request.slot = none →
       ∃ t, exec (.brakeEnd l) s = .next t ∧
         RelayOpen t l ∧ Captured s t a ∧ SamePositions s t ∧
         t.lanes[l].stepsCompleted = s.lanes[l].stepsCompleted + 1 ∧
         (if c.step.dwell = 0 then
           t.lanes[l].state = .idle ∧ t.lanes[l].lastResult = some .completed ∧ HoldsNothing t l
         else t.lanes[l].state = .dwell ∧ t.lanes[l].dwellTimer = some (c.step.dwell * 10) ∧ KeepsZones s t l)) ∧
    (s.drives[l].phase = .braking → s.drives[l].reversal = false → s.lanes[l].state = .faulted →
       s.lanes[l].pendingOrder = none → PreemptWaits s →
       ∃ t, exec (.brakeEnd l) s = .next t ∧
         t.lanes[l].state = .faulted ∧ RelayOpen t l ∧ SameSettings s t ∧ SamePositions s t) ∧
    (∀ r, s.lanes[l].pendingOrder = some (.clear r) → s.drives[l].phase = .braking →
       s.drives[l].reversal = false → s.lanes[l].state = .faulted → s.request.slot = none →
       ∃ t, exec (.brakeEnd l) s = .next t ∧
         t.lanes[l].state = (if s.lanes[l].faultReason = some .driveFault then .offline else .idle) ∧
         t.lanes[l].lastResult = some r ∧ t.lanes[l].faultReason = s.lanes[l].faultReason ∧ t.lanes[l].bound = [] ∧
         (∀ b : ActId, t.acts[b].binding ≠ some l) ∧ RelayOpen t l ∧ SameSettings s t ∧ SamePositions s t)

/-- O38. The brake end that brings the only awaited lane from STOPPING to IDLE empties the slot and sends exactly
one reply, to the request's station with its tag and kind and a verdict other than PREEMPT_PENDING; with another
lane still awaited the slot keeps the request without this lane, and no reply is sent. (R62, R63, R70, R78.) -/
def Obligations.PendingPreemptIsAnsweredByItsLastLane : Prop :=
  ∀ (s : State) (l : LaneId), s.drives[l].phase = .braking → s.drives[l].reversal = false →
    s.lanes[l].state = .stopping → s.lanes[l].stopDest = some (.idle .preempted) → WaitListFits s →
    (∀ p, s.request.slot = some p → p.awaited = single l →
       ∃ t, exec (.brakeEnd l) s = .next t ∧
         t.request.slot = none ∧ ∃ v ls down clamp, v ≠ .preemptPending ∧
         t.tx.replies = s.tx.replies ++ [replyFrame p.station p.tag p.run.kind v ls down clamp]) ∧
    (∀ p, s.request.slot = some p → p.awaited &&& ~~~single l ≠ 0#4 →
       ∃ t, exec (.brakeEnd l) s = .next t ∧
         t.request.slot = some { p with awaited := p.awaited &&& ~~~single l } ∧
         t.tx.replies = s.tx.replies ∧ t.lanes[l].state = .idle ∧ t.lanes[l].lastResult = some .preempted)

/-- O39. At the end of a 40 ms reversal brake: with the stop point at the present position no drive is started and
the lane is in STOPPING toward its destination in a 50 ms brake; with it more than 4 counts back the channel
drives in the opposite direction as BACK_OFF at CREEP from 250 per mille, and the lane stays in REVERSING; with
it elsewhere, no more than 4 counts back, the drive starts and its back-off end follows at once, into STOPPING
in a 50 ms brake. Either start takes 20 samples of blanking, the mode of the drive that met the contact and the
actuator's margins, smaller under GUARD_LOST; the adaptation eligibility stays. The step context stays, but that in
STOPPING its motion is the interrupted one again: a learn lane's phase, else homing while it is pending, else the
correction once it is used, else the step. Settings, positions and zones are unchanged. Which motion that is, and
that it stands from STOPPING on, is the model's inference (log entry 18). (R68, R86, R119, R125, R128, R134, R135,
R139, R149.) -/
def Obligations.ReversalBrakeEndStartsTheBackOff : Prop :=
  ∀ (s : State) (l : LaneId), s.drives[l].phase = .braking → s.drives[l].reversal = true →
    s.lanes[l].state = .reversing →
    (∀ a, s.drives[l].connected = some a → ∀ w1, s.drives[l].direction = some w1 → ∀ dest,
       s.lanes[l].stopDest = some dest → s.drives[l].stopPoint = s.acts[a].position →
       ∃ t, exec (.reversalBrakeEnd l) s = .next t ∧
         t.lanes[l].state = .stopping ∧ t.lanes[l].stopDest = some dest ∧ BackedOff s t l ∧
         t.drives[l].phase = .braking ∧ t.drives[l].brakeTimer = some 50 ∧ t.drives[l].reversal = false ∧
         SameSettings s t ∧ SamePositions s t ∧ t.holders = s.holders) ∧
    (∀ a, s.drives[l].connected = some a → ∀ dir, s.drives[l].direction = some dir →
       ((dir = .increasing ∧ s.drives[l].stopPoint + 4 < s.acts[a].position) ∨ (dir = .decreasing ∧
       s.acts[a].position + 4 < s.drives[l].stopPoint)) →
       ∃ t, exec (.reversalBrakeEnd l) s = .next t ∧
         t.lanes[l].state = .reversing ∧ t.lanes[l].stopDest = s.lanes[l].stopDest ∧
         t.lanes[l].ctx = s.lanes[l].ctx ∧
         t.drives[l].phase = .driving ∧ t.drives[l].kind = some .backOff ∧ t.drives[l].cls = some .creep ∧
         t.drives[l].duty = 250 ∧ t.drives[l].blanking = true ∧
         LoadStarted s t l a 20 s.loads[l].mode (match s.lanes[l].ctx with
           | some c => c.guardLost
           | none => false) ∧
         t.loads[l].eligible = s.loads[l].eligible ∧
         t.drives[l].direction = some (match dir with
           | .increasing => .decreasing
           | .decreasing => .increasing) ∧
         t.acts[a].cond = .driven ∧ t.supply.timer = none ∧
         SameSettings s t ∧ SamePositions s t ∧ t.holders = s.holders) ∧
    (∀ a, s.drives[l].connected = some a → ∀ dir, s.drives[l].direction = some dir → ∀ dest,
       s.lanes[l].stopDest = some dest → s.drives[l].stopPoint ≠ s.acts[a].position →
       ((dir = .increasing ∧ s.acts[a].position ≤ s.drives[l].stopPoint + 4) ∨ (dir = .decreasing ∧
       s.drives[l].stopPoint ≤ s.acts[a].position + 4)) →
       ∃ t, exec (.reversalBrakeEnd l) s = .next t ∧
         t.lanes[l].state = .stopping ∧ t.lanes[l].stopDest = some dest ∧ BackedOff s t l ∧
         t.drives[l].kind = some .backOff ∧ Braking t l 50 false ∧ t.acts[a].cond = .inRunOn ∧
         LoadStarted s t l a 20 s.loads[l].mode (match s.lanes[l].ctx with
           | some c => c.guardLost
           | none => false) ∧
         t.loads[l].eligible = s.loads[l].eligible ∧
         SameSettings s t ∧ SamePositions s t ∧ t.holders = s.holders)

/-- O40. At the end of a SETTLING's brake a step or correction on target is complete; a first miss by more than 8
counts whose correction the held zones cover is corrected, in ARMING or FENCED, or in PAUSED with resume point
MOTION when a halt is pending; any other miss notes OFF_TARGET and completes the step. A complete step with a
successor and no order loads it: record, actuator, resolved target and sweep set stand in the lane, zones
outside that set are released, and the lane is in DWELL, WAIT_ADVANCE or WAIT_GATE, or goes on; without a
successor it is in DWELL, or in IDLE with COMPLETED. With a halt pending it is in PAUSED with resume point
AFTER_STEP, but at a last step with dwell 0 in IDLE with COMPLETED. A homing goes on to the step proper from 0,
or pauses with MOTION. A pending cancel ends any of these in IDLE with its result. A step proper adapts its
profile bin by bin when it is eligible, else the profile stays. (R70, R72, R79, R80, R81, R82, R83, R86, R149,
R150.) -/
def Obligations.SettlingEndHandsOverCorrectsAndAdapts : Prop :=
  ∀ (s : State) (l : LaneId), WaitListFits s → s.drives[l].phase = .braking → s.drives[l].reversal = false →
    s.lanes[l].state = .settling → s.request.slot = none →
    (∀ c, s.lanes[l].ctx = some c → ∀ n, c.step.next = some n → ∀ b, s.ram.steps[n].actuator = some b →
       s.drives[l].connected = some c.act → s.lanes[l].pendingOrder = none →
       (c.motion = .step ∨ c.motion = .correction) → StepOver s l c →
       ∃ t, exec (.brakeEnd l) s = .next t ∧
         ∃ c', t.lanes[l].ctx = some c' ∧ c'.step = s.ram.steps[n] ∧ c'.act = b ∧
         c'.p0 = s.acts[b].position ∧ c'.correctionUsed = false ∧ c'.completed = false ∧
         (c'.endKind, c'.pt) = ((resolve s.ram.actuators[b].travel s.ram.steps[n].target).1,
           (resolve s.ram.actuators[b].travel s.ram.steps[n].target).2.1) ∧
         c'.motion = (if s.acts[b].referenced then .step else .homing) ∧
         c'.sweep = (if s.acts[b].referenced then spanSweep s.ram.actuators[b] c'.p0 c'.pt
           else fullSweep s.ram.actuators[b]) ||| s.ram.steps[n].extraZones.getD 0#12 ∧
         t.lanes[l].currentStep = some (.stored n) ∧ t.lanes[l].curAct = some b ∧
         t.lanes[l].stepsCompleted = s.lanes[l].stepsCompleted + 1 ∧
         (¬ OnTarget s c → t.lanes[l].incidents &&& 0x08#7 = 0x08#7) ∧
         (if 0 < c.step.dwell then
           t.lanes[l].state = .dwell ∧ t.lanes[l].dwellTimer = some (c.step.dwell * 10) ∧
             heldBy t l = heldBy s l &&& c'.sweep
         else if s.lanes[l].mode = some .stepwise then
           t.lanes[l].state = .waitAdvance ∧ t.lanes[l].pauseTimer = some 120000 ∧
             heldBy t l = heldBy s l &&& c'.sweep
         else if gateHolds s s.ram.steps[n].gate = false then
           t.lanes[l].state = .waitGate ∧ t.lanes[l].gateTimer = some 30000 ∧ heldBy t l = 0#12
         else GoneOn t.lanes[l])) ∧
    (∀ c, s.lanes[l].ctx = some c → s.drives[l].connected = some c.act → s.lanes[l].pendingOrder = none →
       (c.motion = .step ∨ c.motion = .correction) → ¬ OnTarget s c → c.correctionUsed = false →
       s.acts[c.act].referenced = true → subset (correctionSweep s c) (heldBy s l) = true →
       ∃ t, exec (.brakeEnd l) s = .next t ∧
         t.lanes[l].ctx = some { c with
           correctionUsed := true, motion := .correction, sweep := correctionSweep s c
           guardLost := meets (correctionSweep s c) (guardLostZones s) } ∧
         t.lanes[l].stepsCompleted = s.lanes[l].stepsCompleted ∧
         (t.lanes[l].state = .arming ∨ t.lanes[l].state = .fenced)) ∧
    (∀ c, s.lanes[l].ctx = some c → ∀ r, s.lanes[l].pendingOrder = some (.halt r) →
       s.drives[l].connected = some c.act → (c.motion = .step ∨ c.motion = .correction) → ¬ OnTarget s c →
       c.correctionUsed = false → subset (correctionSweep s c) (heldBy s l) = true →
       ∃ t, exec (.brakeEnd l) s = .next t ∧
         PausedAt t.lanes[l] r .motion ∧ KeepsZones s t l ∧
         t.lanes[l].ctx = some { c with
           correctionUsed := true, motion := .correction, sweep := correctionSweep s c
           guardLost := meets (correctionSweep s c) (guardLostZones s) } ∧
         t.lanes[l].stepsCompleted = s.lanes[l].stepsCompleted) ∧
    (∀ c, s.lanes[l].ctx = some c → s.drives[l].connected = some c.act → s.lanes[l].pendingOrder = none →
       (c.motion = .step ∨ c.motion = .correction) → ¬ OnTarget s c → c.step.next = none → StepOver s l c →
       ∃ t, exec (.brakeEnd l) s = .next t ∧
         t.lanes[l].incidents &&& 0x08#7 = 0x08#7 ∧
         t.lanes[l].stepsCompleted = s.lanes[l].stepsCompleted + 1 ∧
         (if c.step.dwell = 0 then
           t.lanes[l].state = .idle ∧ t.lanes[l].lastResult = some .completed ∧ HoldsNothing t l
         else t.lanes[l].state = .dwell ∧ t.lanes[l].dwellTimer = some (c.step.dwell * 10) ∧ KeepsZones s t l)) ∧
    (∀ c, s.lanes[l].ctx = some c → s.drives[l].connected = some c.act →
       (c.motion = .step ∨ c.motion = .correction) →
       ∃ t, exec (.brakeEnd l) s = .next t ∧
         (∀ b : Fin 32, t.ram.actuators[c.act].profile[b] =
           (if c.motion = .correction ∨ s.loads[l].eligible = false ∨ s.loads[l].bins[b].2 < 4 then
             s.ram.actuators[c.act].profile[b]
           else (max 200 (min 15000 ((s.ram.actuators[c.act].profile[b] : Int) +
             max (-250) (min 250 ((((s.loads[l].bins[b].1 / s.loads[l].bins[b].2 : Nat) : Int) -
               (s.ram.actuators[c.act].profile[b] : Int)).tdiv 8))))).toNat)) ∧
         (s.store = s.ram → t.store.actuators[c.act].profile = t.ram.actuators[c.act].profile)) ∧
    (∀ c, s.lanes[l].ctx = some c → s.drives[l].connected = some c.act → s.lanes[l].pendingOrder = none →
       c.motion = .homing → s.acts[c.act].referenced = true →
       ∃ t, exec (.brakeEnd l) s = .next t ∧
         (if gateHolds s c.step.gate = false then
           t.lanes[l].state = .waitGate ∧ t.lanes[l].gateTimer = some 30000 ∧ heldBy t l = 0#12
         else GoneOn t.lanes[l] ∧
           t.lanes[l].ctx.map (fun x => (x.motion, x.p0, x.endKind, x.pt, x.homingPending)) =
             some (.step, 0, (resolve s.ram.actuators[c.act].travel c.step.target).1,
               (resolve s.ram.actuators[c.act].travel c.step.target).2.1, false))) ∧
    (∀ c, s.lanes[l].ctx = some c → ∀ r, s.lanes[l].pendingOrder = some (.cancel r) →
       s.drives[l].connected = some c.act → (c.motion = .homing ∨ c.motion = .step ∨ c.motion = .correction) →
       ∃ t, exec (.brakeEnd l) s = .next t ∧
         t.lanes[l].state = .idle ∧ t.lanes[l].lastResult = some r ∧ HoldsNothing t l) ∧
    (∀ c, s.lanes[l].ctx = some c → ∀ r, s.lanes[l].pendingOrder = some (.halt r) →
       s.drives[l].connected = some c.act →
       (c.motion = .homing ∨ ((c.motion = .step ∨ c.motion = .correction) ∧ StepOver s l c)) →
       ∃ t, exec (.brakeEnd l) s = .next t ∧
         (if c.motion = .homing then PausedAt t.lanes[l] r .motion
         else t.lanes[l].stepsCompleted = s.lanes[l].stepsCompleted + 1 ∧
           (¬ OnTarget s c → t.lanes[l].incidents &&& 0x08#7 = 0x08#7) ∧
           (if c.step.next = none ∧ c.step.dwell = 0 then
             t.lanes[l].state = .idle ∧ t.lanes[l].lastResult = some .completed ∧ HoldsNothing t l
           else PausedAt t.lanes[l] r .afterStep)))

/-- O41. With no preempt pending: the dwell timer's expiry completes a lane whose last step is done, into IDLE with
COMPLETED and nothing held; else a STEPWISE lane enters WAIT_ADVANCE with 120 s; else the lane enters WAIT_GATE
when its gate does not hold and goes on toward its motion when it does. The pause timer's expiry in PAUSED or
WAIT_ADVANCE brings the lane to IDLE with ABANDONED and nothing held, its position where it stood. A stopped
timer's expiry changes nothing, which is the model's choice (log entry 9). (R70, R80, R82, R83, R87.) -/
def Obligations.DwellAndPauseTimersEndTheirStates : Prop :=
  ∀ (s : State) (l : LaneId), WaitListFits s → s.request.slot = none →
    (∀ c, s.lanes[l].ctx = some c → s.lanes[l].state = .dwell → s.lanes[l].dwellTimer.isSome = true →
       ∃ t, exec (.dwellTimerExpiry l) s = .next t ∧
         (if c.completed = true then
           t.lanes[l].state = .idle ∧ t.lanes[l].lastResult = some .completed ∧ HoldsNothing t l
         else if s.lanes[l].mode = some .stepwise then
           t.lanes[l].state = .waitAdvance ∧ t.lanes[l].pauseTimer = some 120000 ∧ KeepsZones s t l
         else if gateHolds s c.step.gate = false then
           t.lanes[l].state = .waitGate ∧ t.lanes[l].gateTimer = some 30000 ∧ heldBy t l = 0#12
         else GoneOn t.lanes[l])) ∧
    (s.lanes[l].dwellTimer = none →
       exec (.dwellTimerExpiry l) s = .next s) ∧
    ((s.lanes[l].state = .paused ∨ s.lanes[l].state = .waitAdvance) → s.lanes[l].pauseTimer.isSome = true →
       ∃ t, exec (.pauseTimerExpiry l) s = .next t ∧
         t.lanes[l].state = .idle ∧ t.lanes[l].lastResult = some .abandoned ∧ HoldsNothing t l ∧ SamePositions s t) ∧
    (s.lanes[l].pauseTimer = none →
       exec (.pauseTimerExpiry l) s = .next s)

/-- O42. The clear timer's expiry sends a HOLD lane whose hold is not current to PAUSED(HOLD_LAPSED) with resume
point MOTION and its zones. Else a lane that holds exactly its sweep set, with the actuator referenced, enters
ARMING with its channel making the relay to that actuator when no zone of the set is fenced, and stays in FENCED
with fresh timers when one is. A stopped timer's expiry changes nothing, which is the model's choice (log entry
9). (R75, R109, R111, R118.) -/
def Obligations.ClearTimerTakesUpTheMotion : Prop :=
  ∀ (s : State) (l : LaneId), WaitListFits s →
    (s.lanes[l].state = .fenced → s.lanes[l].clearTimer.isSome = true → s.lanes[l].mode = some .hold →
       s.lanes[l].lapseTimer = none →
       ∃ t, exec (.clearTimerExpiry l) s = .next t ∧
         PausedAt t.lanes[l] .holdLapsed .motion ∧ t.holders = s.holders) ∧
    (∀ c, s.lanes[l].ctx = some c → s.lanes[l].state = .fenced → s.lanes[l].clearTimer.isSome = true →
       ¬ (s.lanes[l].mode = some .hold ∧ s.lanes[l].lapseTimer = none) → s.acts[c.act].referenced = true →
       heldBy s l = c.sweep →
       ∃ t, exec (.clearTimerExpiry l) s = .next t ∧
         KeepsZones s t l ∧
         (if meets c.sweep (fenced s) = true then
           t.lanes[l].state = .fenced ∧ t.lanes[l].totalTimer = some 10000 ∧ t.lanes[l].clearTimer = none
         else t.lanes[l].state = .arming ∧ t.drives[l].phase = .making ∧ t.drives[l].makeTimer = some 15 ∧
           t.drives[l].connected = some c.act ∧ t.drives[l].duty = 0)) ∧
    (s.lanes[l].clearTimer = none →
       exec (.clearTimerExpiry l) s = .next s)

/-- O43. When the yield timer of an entry expires that has not yielded and is blocked by tuning alone, the tune in
progress ends: its channel has the state, baseline and filtered count saved at its start with its runs at 0,
stays in the queue, and its gain is not written; no tune is in progress. An entry that is not so blocked, or has
yielded before, only has its timer expired: a tune in progress goes on, and with an empty queue none starts.
Without an entry the command changes nothing, which is the model's choice (log entry 9). (R114, R115, R175.) -/
def Obligations.YieldTimerSuspendsTheTune : Prop :=
  ∀ (s : State) (l : LaneId), WaitListFits s →
    (∀ e, entryOf s l = some e → ∀ k, s.presence.tune = some k → e.yieldTimer.isSome = true →
       e.yieldMade = false → blockedByTuning s e.wanted = true →
       ∃ t, exec (.yieldTimerExpiry l) s = .next t ∧
         t.presence.tune = none ∧ t.presence.queue = s.presence.queue ∧
         t.chans[k.channel].state = k.savedState ∧ t.chans[k.channel].baseline = k.savedBaseline ∧
         t.chans[k.channel].filtered = k.savedFiltered ∧ t.chans[k.channel].nearRun = 0 ∧
         t.chans[k.channel].contactRun = 0 ∧ t.chans[k.channel].guardLost = s.chans[k.channel].guardLost ∧
         SameSettings s t) ∧
    (∀ e, entryOf s l = some e → e.yieldTimer.isSome = true →
       (e.yieldMade = true ∨ blockedByTuning s e.wanted = false) →
       (s.presence.queue = 0#12 ∨ s.presence.tune.isSome = true) →
       exec (.yieldTimerExpiry l) s =
         .next { s with waitList := s.waitList.map fun x => if x.lane = l then { x with yieldTimer := none } else x }) ∧
    (Unlisted s l →
       exec (.yieldTimerExpiry l) s = .next s)

/-- O44. In a sample round a channel P0 to P10 that is CLEAR, NEAR or CONTACT moves its filtered count a quarter of
the way to the raw count, truncated toward zero; tracks its baseline in CLEAR by 1/128, in DOZE by 1/32, and
raises it to a count above it by more than the near threshold; subtracts the reference delta by its weight in
percent; counts the near and contact runs at the thresholds and the release runs below three quarters of them,
in the tuning queue only if no entry of the wait list is grantable, as every grant scan leaves it (O4); and,
outside the tuning queue, is classified by its runs, with the halt timer started on leaving CLEAR and the drift
timer run in CLEAR outside the band. P11 tracks in every round outside STARTING. A STARTING channel filters,
counts and sums the raw count. The raw count of the channel in TUNING goes to the trial, up to 8, unless a grant
or a yield suspends the tune. All this holds while the tune and its timers follow the channels (the invariant of
O59). The next round falls 10 ms later, in DOZE 100 ms. Without rounds running nothing happens. The last
sentence is the model's choice (log entry 9). (R160, R162, R163, R164, R165, R166, R167, R169, R170, R171,
R173.) -/
def Obligations.SampleRoundFiltersAndClassifies : Prop :=
  ∀ (s : State) (c : ChanId) (counts : Vector (BitVec 16) 12), TuneFits s →
    (s.presence.roundTimer.isSome = true → c ≠ 11 →
       (s.chans[c].state = .clear ∨ s.chans[c].state = .near ∨ s.chans[c].state = .contact) →
       ∃ t, exec (.presenceSampleRound counts) s = .next t ∧
         t.chans[c].filtered = countAfter s.chans[c].filtered counts[c].toNat ∧
         t.chans[c].baseline = baselineAfter s c (s.chans[c].state = .clear)
           (countAfter s.chans[c].filtered counts[c].toNat) ∧
         (∀ d : Nat, d = compensatedAfter s c counts[c].toNat counts[(11 : ChanId)].toNat →
           has s.presence.queue c = false ∨ (∀ e ∈ s.waitList, meets e.wanted (allHeld s ||| fenced s) = true) →
           t.chans[c].nearRun = (if s.ram.channels[c].nearThr ≤ d then s.chans[c].nearRun + 1 else 0) ∧
           t.chans[c].contactRun = (if s.ram.channels[c].contactThr ≤ d then s.chans[c].contactRun + 1 else 0) ∧
           t.chans[c].nearRelease = (if d < s.ram.channels[c].nearThr * 3 / 4 then s.chans[c].nearRelease + 1
             else 0) ∧
           t.chans[c].contactRelease = (if d < s.ram.channels[c].contactThr * 3 / 4
             then s.chans[c].contactRelease + 1 else 0)) ∧
         (has s.presence.queue c = false →
           t.chans[c].state = classified { t.chans[c] with state := s.chans[c].state } ∧
           t.chans[c].haltTimer =
             (if s.chans[c].state = .clear ∧ t.chans[c].state ≠ .clear then
               (if s.ram.channels[c].haltTimeout ≠ 0 ∧ s.ram.channels[c].reseedEnable = true then
                 some (s.ram.channels[c].haltTimeout * 1000) else none)
             else if s.chans[c].state ≠ .clear ∧ t.chans[c].state = .clear then none else s.chans[c].haltTimer) ∧
           t.chans[c].driftTimer = (if s.chans[c].state = .clear ∧ t.chans[c].state = .clear ∧
             ¬ (s.ram.channels[c].tuneTarget - s.ram.channels[c].tuneTarget / 8 ≤ t.chans[c].baseline ∧
               t.chans[c].baseline ≤ s.ram.channels[c].tuneTarget + s.ram.channels[c].tuneTarget / 8)
             then some (s.chans[c].driftTimer.getD 5000) else none))) ∧
    (s.presence.roundTimer.isSome = true → s.chans[c].state = .starting → s.chans[c].seedCount < 16 →
       ∃ t, exec (.presenceSampleRound counts) s = .next t ∧
         t.chans[c].state = .starting ∧ t.chans[c].seedCount = s.chans[c].seedCount + 1 ∧
         t.chans[c].seedSum = s.chans[c].seedSum + counts[c].toNat ∧
         t.chans[c].filtered = (if s.chans[c].seedCount = 0 then counts[c].toNat
           else countAfter s.chans[c].filtered counts[c].toNat) ∧ t.chans[c].baseline = s.chans[c].baseline) ∧
    (s.presence.roundTimer.isSome = true → s.chans[(11 : ChanId)].state = .clear →
       ∃ t, exec (.presenceSampleRound counts) s = .next t ∧
         t.chans[(11 : ChanId)] = { s.chans[(11 : ChanId)] with
           filtered := countAfter s.chans[(11 : ChanId)].filtered counts[(11 : ChanId)].toNat
           baseline := baselineAfter s 11 true (countAfter s.chans[(11 : ChanId)].filtered counts[(11 : ChanId)].toNat) }) ∧
    (∀ k, s.presence.tune = some k → s.presence.roundTimer.isSome = true → WaitListFits s →
       ∃ t, exec (.presenceSampleRound counts) s = .next t ∧
         (t.presence.tune = none ∨ t.presence.tune = some (if k.count < 8 then
           { k with sum := k.sum + counts[k.channel].toNat, count := k.count + 1 } else k)) ∧
         (s.waitList = [] → t.presence.tune = some (if k.count < 8 then
           { k with sum := k.sum + counts[k.channel].toNat, count := k.count + 1 } else k) ∧
           t.chans[k.channel] = s.chans[k.channel])) ∧
    (s.presence.roundTimer.isSome = true →
       ∃ t, exec (.presenceSampleRound counts) s = .next t ∧
         t.presence.roundTimer = some (if s.power.mode = .doze then 100 else 10)) ∧
    (s.presence.roundTimer = none →
       exec (.presenceSampleRound counts) s = .next s)

/-- O45. A STARTING channel with 16 samples, out of the queue, ends its seeding CLEAR with baseline and filtered
count at the sum divided by 16 and its runs at 0. A halt timer's expiry makes the channel CLEAR with the
filtered count as its baseline, its runs at 0 and its halt timer stopped, raises the reseed count modulo 256,
names the channel as the last reseeded and marks the general status frame. Either returns the part to ACTIVE and
leaves the settings as they are. A stopped halt timer's expiry changes nothing, which is the model's choice (log
entry 9). (R168, R169, R170, R187.) -/
def Obligations.SeedingAndReseedEndInClear : Prop :=
  ∀ (s : State) (c : ChanId), has s.presence.queue c = false →
    s.presence.tune.all (fun k => k.channel != c) = true →
    (s.presence.roundTimer.isSome = true → s.chans[c].state = .starting → s.chans[c].seedCount = 16 →
       ∃ t, exec (.seedingEnd c) s = .next t ∧
         t.chans[c].state = .clear ∧ t.chans[c].baseline = s.chans[c].seedSum / 16 ∧
         t.chans[c].filtered = s.chans[c].seedSum / 16 ∧ t.chans[c].nearRun = 0 ∧ t.chans[c].contactRun = 0 ∧
         t.chans[c].nearRelease = 0 ∧ t.chans[c].contactRelease = 0 ∧
         t.power.mode = .active ∧ SameSettings s t) ∧
    (s.chans[c].haltTimer.isSome = true →
       ∃ t, exec (.haltTimeout c) s = .next t ∧
         t.chans[c].state = .clear ∧ t.chans[c].baseline = s.chans[c].filtered ∧
         t.chans[c].filtered = s.chans[c].filtered ∧ t.chans[c].nearRun = 0 ∧ t.chans[c].contactRun = 0 ∧
         t.chans[c].haltTimer = none ∧ t.presence.reseedCount = (s.presence.reseedCount + 1) % 256 ∧
         t.presence.lastReseeded = some c ∧ t.report.general = true ∧ t.power.mode = .active ∧ SameSettings s t) ∧
    (s.chans[c].haltTimer = none →
       exec (.haltTimeout c) s = .next s)

/-- O46. A drift timer's expiry puts its channel in the tuning queue. The end of a trial keeps its bit and its
average when the average is at or below the upper end of the band, else clears the bit and keeps what was kept;
a trial that is not the last goes on with the next bit. At the end of the last one, with a kept average, of this
trial or an older one, at or above the band's lower end, the gain so found is stored and the channel is CLEAR at
that average with its runs at 0 and without GUARD_LOST; with a lower one or none kept the channel is GUARD_LOST,
seeds afresh with its runs at 0, and its stored gain stays. Either way it leaves the queue. A stopped drift
timer's expiry changes nothing, which is the model's choice (log entry 9). (R166, R171, R173, R174, R176.) -/
def Obligations.DriftQueuesAndTrialsTune : Prop :=
  ∀ (s : State) (c : ChanId),
    (s.chans[c].driftTimer.isSome = true → s.chans[c].state = .clear →
       s.presence.tune.all (fun k => k.channel != c) = true →
       ∃ t, exec (.driftTimerExpiry c) s = .next t ∧
         has t.presence.queue c = true ∧ t.chans[c].driftTimer = none ∧ SameSettings s t) ∧
    (s.chans[c].driftTimer = none →
       exec (.driftTimerExpiry c) s = .next s) ∧
    (∀ k, s.presence.tune = some k → s.presence.roundTimer.isSome = true → k.count = 8 → 1 < k.bit →
       exec .tuneTrialEnd s =
         .next { s with presence := { s.presence with tune := some { k with
           bit := k.bit / 2, sum := 0, count := 0, trialGain := gainAfter s k + k.bit / 2, kept := keptAfter s k } } }) ∧
    (∀ k, s.presence.tune = some k → ∀ x, keptAfter s k = some x → s.presence.roundTimer.isSome = true →
       k.count = 8 → k.bit = 1 →
       s.ram.channels[k.channel].tuneTarget - s.ram.channels[k.channel].tuneTarget / 8 ≤ x →
       ∃ t, exec .tuneTrialEnd s = .next t ∧
         t.chans[k.channel].state = .clear ∧ t.chans[k.channel].baseline = x ∧
         t.chans[k.channel].filtered = x ∧ t.chans[k.channel].nearRun = 0 ∧ t.chans[k.channel].contactRun = 0 ∧
         t.chans[k.channel].nearRelease = 0 ∧ t.chans[k.channel].contactRelease = 0 ∧
         t.chans[k.channel].guardLost = false ∧ t.ram.channels[k.channel].gain = gainAfter s k ∧
         t.store.channels[k.channel].gain = gainAfter s k ∧ has t.presence.queue k.channel = false) ∧
    (∀ k, s.presence.tune = some k → s.presence.roundTimer.isSome = true → k.count = 8 → k.bit = 1 →
       (keptAfter s k).all (fun x => decide (x < s.ram.channels[k.channel].tuneTarget - s.ram.channels[k.channel].tuneTarget / 8)) = true →
       ∃ t, exec .tuneTrialEnd s = .next t ∧
         t.chans[k.channel].state = .starting ∧ t.chans[k.channel].seedCount = 0 ∧
         t.chans[k.channel].nearRun = 0 ∧ t.chans[k.channel].contactRun = 0 ∧
         t.chans[k.channel].guardLost = true ∧ SameSettings s t ∧ has t.presence.queue k.channel = false)

/-- O47. With the wait list and the tune consistent: if a zone that a lane holds is not fenced before a sample round
and is fenced after it, a MOVING lane is in STOPPING toward FENCED in a 50 ms brake, one in ARMING is in FENCED
with the relay open, a 10 s total timer and no clear timer, a FENCED lane's clear timer is stopped, and a lane
in any other state is as it was. If a held zone of a FENCED lane is fenced before the round and no held zone is
after it, the lane's clear timer has started with 1000 ms; while a held zone is still fenced, a stopped clear
timer stays stopped and nothing of the lane changes. The lane keeps its zones. (R76, R77, R106, R107, R108,
R109, R110.) -/
def Obligations.FenceChangesActOnTheirHolders : Prop :=
  ∀ (s : State) (l : LaneId) (z : ZoneId) (counts : Vector (BitVec 16) 12), WaitListFits s → TuneFits s →
    s.holders[z] = some l →
    (has (fenced s) z = false →
       ∃ t, exec (.presenceSampleRound counts) s = .next t ∧
         (has (fenced t) z = true →
           match s.lanes[l].state with
           | .moving => t.lanes[l].state = .stopping ∧ t.lanes[l].stopDest = some .fenced ∧ Braking t l 50 false ∧
               KeepsZones s t l
           | .arming => t.lanes[l].state = .fenced ∧ t.lanes[l].totalTimer = some 10000 ∧
               t.lanes[l].clearTimer = none ∧ t.lanes[l].incidents &&& 0x04#7 = 0x04#7 ∧ RelayOpen t l ∧
               KeepsZones s t l
           | .fenced => t.lanes[l] = { s.lanes[l] with clearTimer := none } ∧ KeepsZones s t l
           | _ => t.lanes[l] = s.lanes[l] ∧ t.drives[l] = s.drives[l] ∧ KeepsZones s t l)) ∧
    (has (fenced s) z = true → s.lanes[l].state = .fenced →
       ∃ t, exec (.presenceSampleRound counts) s = .next t ∧
         (meets (heldBy s l) (fenced t) = false →
           t.lanes[l] = { s.lanes[l] with clearTimer := some 1000 }) ∧
         (s.lanes[l].clearTimer = none → meets (heldBy s l) (fenced t) = true → t.lanes[l] = s.lanes[l]) ∧
         KeepsZones s t l)

/-- O48. At the coalescing timer's expiry with the start-up flag set and outside SLEEP each marked frame is in its
transmit place with the present contents, every flag is clear and the timer is stopped. At the period timer's
expiry the same holds of all frames, unless the coalescing timer has expired at the same moment and left no flag
set: then nothing is sent. Either way the period restarts with 200 ms while the part is ACTIVE with a busy lane,
else with 1000 ms. Replies, lanes, settings and positions are unchanged. That two expiries without a step on an
empty queue between them are of the same moment is the model's choice (log entry 1), and so is that a stopped
coalescing timer's expiry changes nothing (log entry 9). (R206, R207.) -/
def Obligations.StatusTimersSendTheFrames : Prop :=
  ∀ (s : State), s.request.ready = true → s.power.mode ≠ .sleep →
    (s.report.coalesce.isSome = true →
       ∃ t, exec .coalescingTimerExpiry s = .next t ∧
         t.report = { s.report with
           lanes := 0#4, positions := false, sets := false, general := false, coalesce := none
           batched := true } ∧
         (∀ l : LaneId, has s.report.lanes l = true →
           (Place.lane l false, lanePage0 s l) ∈ t.tx.status ∧ (Place.lane l true, lanePage1 s l) ∈ t.tx.status) ∧
         (s.report.positions = true → (Place.positions, positionsFrame s) ∈ t.tx.status) ∧
         (s.report.sets = true → (Place.sets, setsFrame s) ∈ t.tx.status) ∧
         (s.report.general = true →
           (Place.general false, generalPage0 s) ∈ t.tx.status ∧ (Place.general true, generalPage1 s) ∈ t.tx.status) ∧
         SameLanes s t ∧ SameSettings s t ∧ t.acts = s.acts ∧ SameRequests s t) ∧
    (s.report.coalesce = none →
       exec .coalescingTimerExpiry s = .next s) ∧
    (s.report.period.isSome = true → ¬ (s.report.batched = true ∧ s.report.unmarked = true) →
       ∃ t, exec .periodTimerExpiry s = .next t ∧
         t.report = { s.report with
           lanes := 0#4, positions := false, sets := false, general := false, coalesce := none
           period := some (if s.power.mode = .active ∧ allIdle s = false then 200 else 1000) } ∧
         (∀ l : LaneId, (Place.lane l false, lanePage0 s l) ∈ t.tx.status ∧
           (Place.lane l true, lanePage1 s l) ∈ t.tx.status) ∧
         (Place.positions, positionsFrame s) ∈ t.tx.status ∧ (Place.sets, setsFrame s) ∈ t.tx.status ∧
         (Place.general false, generalPage0 s) ∈ t.tx.status ∧ (Place.general true, generalPage1 s) ∈ t.tx.status ∧
         SameLanes s t ∧ SameSettings s t ∧ t.acts = s.acts ∧ SameRequests s t) ∧
    (s.report.period.isSome = true → s.report.batched = true → s.report.unmarked = true →
       exec .periodTimerExpiry s =
         .next { s with report := { s.report with
           period := some (if s.power.mode = .active ∧ allIdle s = false then 200 else 1000) } })

/-- O49. Outside SLEEP, RUN_RECIPE, RUN_STEP, LEARN, HOLD, HALT, RESUME, CANCEL, CLEAR_FAULT and the lane timers'
expiries, and sample rounds, seeding ends, halt timeouts and drift expiries in every mode, leave the settings in
RAM and store, every position and reference, the vehicle state, the supply measurement and condition, the
notice, the service operation and the time as they were; the presence events also send no reply. (R8, R20, R88,
R104, R168, R194.) -/
def Obligations.LaneAndPresenceCommandsKeepTheSurroundings : Prop :=
  ∀ (i : Instr) (s t : State), exec i s = .next t →
    (laneCommand i = true → s.power.mode ≠ .sleep → SameSurroundings s t) ∧
    (presenceCommand i = true → SameSurroundings s t ∧ SameRequests s t)

/-- O50. For a travel of at least 200: END_LOW and numbers up to 30 resolve to END_LOW at 0, END_HIGH and numbers
from T - 30 to T to END_HIGH at T, numbers above T to END_HIGH at T clamped, and the numbers between to INTERIOR
at themselves. For an actuator of travel at least 200 and a motion between two positions of its travel, a zone
is in the sweep map part of the sweep set exactly when some position of the span widened by 24 counts and
clamped to 0 and T lies in a quarter whose entry holds the zone, quarter q being the positions from floor(qT/4)
up to the next quarter's first, the last up to T. (R11, R12, R13, R14.) -/
def Obligations.TargetsResolveAndSweepsCoverTheSpan : Prop :=
  (∀ (T n : Nat), 200 ≤ T →
    resolve T .endLow = (.low, 0, false) ∧ resolve T .endHigh = (.high, T, false) ∧
    (n ≤ 30 → resolve T (.num n) = (.low, 0, false)) ∧
    (30 < n → n < T - 30 → resolve T (.num n) = (.interior, n, false)) ∧
    (T - 30 ≤ n → n ≤ T → resolve T (.num n) = (.high, T, false)) ∧
    (T < n → resolve T (.num n) = (.high, T, true))) ∧
    (∀ (r : ActuatorRec) (p0 pt : Nat) (z : ZoneId), 200 ≤ r.travel → p0 ≤ r.travel → pt ≤ r.travel →
    (has (spanSweep r p0 pt) z = true ↔
      ∃ (p : Nat) (q : Fin 4), min p0 pt - 24 ≤ p ∧ p ≤ max p0 pt + 24 ∧ p ≤ r.travel ∧
        q.val * r.travel / 4 ≤ p ∧ (q.val < 3 → p < (q.val + 1) * r.travel / 4) ∧
        has r.sweep[q] z = true))

/-- O51. At the brake end of a learn lane: LEARN_HOME goes on to the rise toward END_HIGH of the present travel; a
rise whose travel is within 200 to 4000 writes travel, profile, position and reference in RAM and store and goes
on to the return, toward the start position if it was referenced, else END_LOW, resolved against the new travel;
a rise outside that range leaves the lane FAULTED(LEARN_FAILED) with its entry and the stored travel and profile
as they were; the return completes the learn into IDLE with COMPLETED, one step, OFF_TARGET if it missed by more
than 8. A bin with fewer than 4 samples takes the value of the bin below it, the lowest 2500. A pending cancel
ends a phase in IDLE with its result, a pending halt in PAUSED. (R78, R81, R89, R152, R153, R154, R155, R156,
R197.) -/
def Obligations.LearnPhasesEndAndStoreTheirResult : Prop :=
  ∀ (s : State) (l : LaneId), WaitListFits s → s.drives[l].phase = .braking → s.drives[l].reversal = false →
    s.lanes[l].state = .settling → s.request.slot = none →
    (∀ c, s.lanes[l].ctx = some c → ∀ lr, s.loads[l].learn = some lr → s.drives[l].connected = some c.act →
       s.lanes[l].pendingOrder = none → c.motion = .learnHome → s.acts[c.act].referenced = true →
       ∃ t, exec (.brakeEnd l) s = .next t ∧
         t.lanes[l].ctx = some { c with
           motion := .learnRise, homingPending := false, p0 := 0, endKind := .high, pt := s.ram.actuators[c.act].travel } ∧
         t.loads[l].learn = some { lr with phase := .rise } ∧
         (t.lanes[l].state = .arming ∨ t.lanes[l].state = .fenced)) ∧
    (∀ c, s.lanes[l].ctx = some c → ∀ lr, s.loads[l].learn = some lr → ∀ T, lr.travel = some T →
       s.drives[l].connected = some c.act → s.lanes[l].pendingOrder = none → c.motion = .learnRise → 200 ≤ T →
       T ≤ 4000 → s.acts[c.act].referenced = true →
       ∃ t, exec (.brakeEnd l) s = .next t ∧
         t.ram.actuators[c.act] = { s.ram.actuators[c.act] with
           travel := T, profile := t.ram.actuators[c.act].profile, storedPosition := min s.acts[c.act].position T
           storedReferenced := true, motionMark := false } ∧
         t.store.actuators[c.act] = { s.store.actuators[c.act] with
           travel := T, profile := t.ram.actuators[c.act].profile, storedPosition := min s.acts[c.act].position T
           storedReferenced := true, motionMark := false } ∧
         (∀ b : Fin 32, t.ram.actuators[c.act].profile[b] =
           (if 4 ≤ (learnShare lr.bins T b).2 then
             max 200 (min 15000 ((learnShare lr.bins T b).1 / (learnShare lr.bins T b).2))
           else if b = 0 then 2500 else t.ram.actuators[c.act].profile[b - 1])) ∧
         t.acts[c.act].position = min s.acts[c.act].position T ∧
         t.lanes[l].ctx = some { c with
           motion := .learnReturn, p0 := min s.acts[c.act].position T
           endKind := (resolve T (if lr.startReferenced then .num lr.startPosition else .endLow)).1
           pt := (resolve T (if lr.startReferenced then .num lr.startPosition else .endLow)).2.1 } ∧
         t.loads[l].learn = some { lr with phase := .back, travel := some T } ∧
         (t.lanes[l].state = .arming ∨ t.lanes[l].state = .fenced)) ∧
    (∀ c, s.lanes[l].ctx = some c → ∀ lr, s.loads[l].learn = some lr → ∀ T, lr.travel = some T →
       s.drives[l].connected = some c.act → c.motion = .learnRise → (T < 200 ∨ 4000 < T) →
       ∃ t, exec (.brakeEnd l) s = .next t ∧
         t.lanes[l].state = .faulted ∧ t.lanes[l].faultReason = some .learnFailed ∧
         t.lanes[l].lastResult = some .faulted ∧ heldBy t l = 0#12 ∧ RelayOpen t l ∧
         t.ram.actuators[c.act].travel = s.ram.actuators[c.act].travel ∧
         t.ram.actuators[c.act].profile = s.ram.actuators[c.act].profile ∧ SamePositions s t ∧
         Logged t .learnFailed l c.act T) ∧
    (∀ c, s.lanes[l].ctx = some c → ∀ lr, s.loads[l].learn = some lr → s.drives[l].connected = some c.act →
       c.motion = .learnReturn →
       s.lanes[l].pendingOrder.all (fun x => match x with | .cancel _ => false | _ => true) = true →
       ∃ t, exec (.brakeEnd l) s = .next t ∧
         t.lanes[l].state = .idle ∧ t.lanes[l].lastResult = some .completed ∧ HoldsNothing t l ∧
         t.lanes[l].stepsCompleted = 1 ∧ SamePositions s t ∧
         (c.pt + 8 < s.acts[c.act].position ∨ s.acts[c.act].position + 8 < c.pt →
           t.lanes[l].incidents &&& 0x08#7 = 0x08#7)) ∧
    (∀ c, s.lanes[l].ctx = some c → ∀ lr, s.loads[l].learn = some lr → ∀ r,
       s.lanes[l].pendingOrder = some (.cancel r) → s.drives[l].connected = some c.act →
       (c.motion = .learnHome ∨ (c.motion = .learnRise ∧ lr.travel.any (fun x => decide (200 ≤ x ∧
       x ≤ 4000)) = true) ∨ c.motion = .learnReturn) →
       ∃ t, exec (.brakeEnd l) s = .next t ∧
         t.lanes[l].state = .idle ∧ t.lanes[l].lastResult = some r ∧ HoldsNothing t l) ∧
    (∀ c, s.lanes[l].ctx = some c → ∀ lr, s.loads[l].learn = some lr → ∀ r,
       s.lanes[l].pendingOrder = some (.halt r) → s.drives[l].connected = some c.act →
       (c.motion = .learnHome ∨ (c.motion = .learnRise ∧ lr.travel.any (fun x => decide (200 ≤ x ∧
       x ≤ 4000)) = true)) →
       ∃ t, exec (.brakeEnd l) s = .next t ∧
         PausedAt t.lanes[l] r .motion ∧ KeepsZones s t l)

/-- O52. The actuator list of a successful walk holds exactly the actuators of the steps visited, 1 to 4, without
repetition, the first step's first; its step count is the number of visits, 1 to 24, each of which names an
actuator and the last of which meets END. A chain that meets END within 24 visits, each naming one of at most
four actuators, has a walk with that count and those actuators. A walk whose chain comes back to a visited step
fails. A recipe's plan has the tracks of its walks; it has none when track A's walk fails, when track B is
present and its walk fails, or when the two lists share an actuator. The plan's actuator set is the union of the
lists. (R28, R34, R35.) -/
def Obligations.ChainWalksAndPlansSucceedByTheirRules : Prop :=
  (∀ (steps : Vector StepRec 96) (n : StepId) (w : Walk), walk steps n = some w →
      1 ≤ w.acts.length ∧ w.acts.length ≤ 4 ∧ w.acts.Nodup ∧ w.acts.head? = steps[n].actuator ∧
      1 ≤ w.steps ∧ w.steps ≤ 24 ∧
      (∃ m, stepAfter steps (w.steps - 1) n = some m ∧ steps[m].next = none) ∧
      (∀ (i : Nat) (j : StepId), i < w.steps → stepAfter steps i n = some j → steps[j].actuator.isSome = true) ∧
      ∀ a : ActId, a ∈ w.acts ↔
        ∃ (i : Nat) (j : StepId), i < w.steps ∧ stepAfter steps i n = some j ∧ steps[j].actuator = some a) ∧
    (∀ (steps : Vector StepRec 96) (n m : StepId) (k : Nat) (acts : List ActId), k < 24 →
      stepAfter steps k n = some m → steps[m].next = none → acts.length ≤ 4 →
      (∀ (i : Nat) (j : StepId), i ≤ k → stepAfter steps i n = some j →
        ∃ a ∈ acts, steps[j].actuator = some a) →
      ∃ w, walk steps n = some w ∧ w.steps = k + 1 ∧
        ∀ a : ActId, a ∈ w.acts ↔
          ∃ (i : Nat) (j : StepId), i ≤ k ∧ stepAfter steps i n = some j ∧ steps[j].actuator = some a) ∧
    (∀ (steps : Vector StepRec 96) (n m : StepId) (i k : Nat), stepAfter steps i n = some m → 0 < k →
      stepAfter steps k m = some m → walk steps n = none) ∧
    (∀ (s : State) (m : AdvanceMode) (p : Bool) (n : RecipeId),
      (walk s.ram.steps s.ram.recipes[n].trackA = none → planTracks s (.recipe m p n) = none) ∧
      ∀ wa, walk s.ram.steps s.ram.recipes[n].trackA = some wa →
        (s.ram.recipes[n].trackB = none →
          planTracks s (.recipe m p n) = some [trackOf s n false s.ram.recipes[n].trackA wa]) ∧
        ∀ b, s.ram.recipes[n].trackB = some b →
          (walk s.ram.steps b = none → planTracks s (.recipe m p n) = none) ∧
          ∀ wb, walk s.ram.steps b = some wb →
            planTracks s (.recipe m p n) =
              if ∃ a ∈ wa.acts, a ∈ wb.acts then none
              else some [trackOf s n false s.ram.recipes[n].trackA wa, trackOf s n true b wb]) ∧
    (∀ (ts : List Track) (a : ActId), has (planActs ts) a = true ↔ ∃ t ∈ ts, a ∈ t.acts)

/-- O53. Each sample raises the sample count by one; the first sets F to the sample, each later one adds the
difference divided by 4 and truncated toward zero, so that F lies between its old value and the sample and stays
within 0 to 20000 mA; a drive start makes F absent and the sample count 0. After blanking in ABSOLUTE mode the
absolute run rises by one when F is at least 12000 mA and is 0 below it, whatever the actuator's stored
settings; no deviation is computed, the other runs and the bins stay, and the outcome depends on the run alone.
(R136, R140.) -/
def Obligations.FilteredCurrentAndAbsoluteRunFollowTheSamples : Prop :=
  (∀ (x : Load) (k : MotionKind) (r : ActuatorRec) (p i : Nat), i ≤ 20000 →
      (x.sample k r p i).1.samples = x.samples + 1 ∧
      (x.filtered = none → (x.sample k r p i).1.filtered = some i) ∧
      (∀ f, x.filtered = some f → f ≤ 20000 →
        ∃ g, (x.sample k r p i).1.filtered = some g ∧
          (g : Int) = (f : Int) + ((i : Int) - (f : Int)).tdiv 4 ∧
          min f i ≤ g ∧ g ≤ max f i ∧ g ≤ 20000) ∧
      (∀ (m : ClassMode) (mg : Nat × Nat),
        (x.driveStart k m mg).filtered = none ∧ (x.driveStart k m mg).samples = 0)) ∧
    (∀ (x : Load) (k : MotionKind) (r r' : ActuatorRec) (p i f : Nat), x.mode = .absolute →
      x.blanking ≤ x.samples → (x.sample k r p i).1.filtered = some f →
      (x.sample k r p i).1.absRun = (if 12000 ≤ f then x.absRun + 1 else 0) ∧
      (x.sample k r p i).1.deviation = x.deviation ∧
      (x.sample k r p i).1.softRun = x.softRun ∧ (x.sample k r p i).1.firmRun = x.firmRun ∧
      (x.sample k r p i).1.bins = x.bins ∧
      (x.sample k r p i).2 = (if 12000 ≤ f ∧ x.absRun + 1 = 3 then .firm else .none) ∧
      x.sample k r p i = x.sample k r' p i)

/-- O54. CLEAR goes to CONTACT at a contact run of 2, else to NEAR at a near run of 2; NEAR goes to CONTACT at a
contact run of 2, else to CLEAR at a near release run of 3; CONTACT goes to NEAR at a contact release run of 3;
else the state stays. (R167.) -/
def Obligations.ClassificationByTheRuns : Prop :=
  ∀ (x : ChanRun),
    (x.state = .clear → classified x =
      (if 2 ≤ x.contactRun then .contact else if 2 ≤ x.nearRun then .near else .clear)) ∧
    (x.state = .near → classified x =
      (if 2 ≤ x.contactRun then .contact else if 3 ≤ x.nearRelease then .clear else .near)) ∧
    (x.state = .contact → classified x = (if 3 ≤ x.contactRelease then .near else .contact))

/-- O55. If the request history and the fault log hold at most eight entries and the counters stand within their
ranges, they do so after every step: no command and no passing of time overfills a ring or overruns a saturating
or wrapping counter. (R2, R66, R169, R185, R193, R197, R198.) -/
def Obligations.RingsAndCountersStayBounded : Prop :=
  ∀ (s t : State), Bounded s → step s = .next t → Bounded t

/-- O56. If, outside a restart start-up, the store equals its RAM copies with every checksum right and only a
running part is in DOZE or SLEEP, this holds after every step: every write changes both together. (R187, R194,
R196, R201.) -/
def Obligations.StoreAndRamStayTheSame : Prop :=
  ∀ (s t : State), StoreMatches s → step s = .next t → StoreMatches t

/-- O57. If each channel follows its lane, every MOVING lane has the interlock satisfied, supply low not in force
and, in HOLD mode, a current hold, in DOZE and SLEEP every lane is IDLE or OFFLINE, and such lanes have no step
context, all of this holds after every step from a state whose wait list fits, which is an invariant of its own.
(R76, R77, R84, R88, R187.) -/
def Obligations.MotionStaysSafe : Prop :=
  ∀ (s t : State), WaitListFits s → SafeMotion s → step s = .next t → SafeMotion t

/-- O58. If each channel follows its lane, the wait list holds each lane in CLAIMING exactly once and no other lane,
and a CLAIMING lane has a step context and holds no zone, all of this holds after every step. (R74, R99, R100,
R103.) -/
def Obligations.WaitListStaysTheClaimingLanes : Prop :=
  ∀ (s t : State), WaitListFits s → step s = .next t → WaitListFits t

/-- O59. If the awaited set of a pending preempt is not empty, it is not empty after every step: the command that
empties it answers the request in the same event. If a tune in progress is of the one channel in TUNING, which
it found CLEAR, queued channels and those with a drift timer are CLEAR but for it, halt timers run in NEAR and
CONTACT alone, and P11 is STARTING or CLEAR and outside tuning, all of this holds after every step. (R62, R63,
R160, R169, R170, R171, R172, R174, R175.) -/
def Obligations.PreemptAndTuneStayConsistent : Prop :=
  ∀ (s t : State), step s = .next t →
    (PreemptWaits s → PreemptWaits t) ∧ (TuneFits s → TuneFits t)

/-- O60. Right after reset the rings and counters are within their bounds, RAM and store agree as far as asked,
motion is safe, the wait list fits, no preempt is pending, and the tune and its timers follow the channels.
(R66, R98, R99, R133, R192, R204, R178.) -/
def Obligations.InvariantsHoldAtReset : Prop :=
  Bounded State.reset ∧ StoreMatches State.reset ∧ SafeMotion State.reset ∧ WaitListFits State.reset ∧
    State.reset.request.slot = none ∧ TuneFits State.reset
end

