-- ==== Sys2Proof/Laws/Sets.lean ====
section
/-! SUPPORT. Sets coded one bit per member, by membership: what each set operation and each derived set of the model
contains. The lemmas rewrite `has`; use them with `simp only` or `rw`, since `simp` itself unfolds `has`. -/

namespace Sys2Proof.Machine

open Sys2Proof (LaneId ActId ZoneId ChanId ZoneSet ActSet LaneSet)

section
variable {w : Nat}

theorem has_zero (i : Fin w) : has (0#w) i = false := by simp [has]
theorem has_or (a b : BitVec w) (i : Fin w) : has (a ||| b) i = (has a i || has b i) := by simp [has]
theorem has_and (a b : BitVec w) (i : Fin w) : has (a &&& b) i = (has a i && has b i) := by simp [has]
theorem has_not (a : BitVec w) (i : Fin w) : has (~~~a) i = !has a i := by simp [has]
theorem has_single (i j : Fin w) : has (single i) j = decide (i = j) := by
  simp [has, single, Fin.ext_iff, eq_comm]

theorem set_ext {a b : BitVec w} (h : ∀ i : Fin w, has a i = has b i) : a = b :=
  BitVec.eq_of_getLsbD_eq fun i hi => h ⟨i, hi⟩

theorem eq_zero_iff {a : BitVec w} : a = 0#w ↔ ∀ i : Fin w, has a i = false :=
  ⟨fun h i => by rw [h, has_zero], fun h => set_ext fun i => by rw [h i, has_zero]⟩

/-- Two sets meet when they share a member. -/
theorem meets_iff {a b : BitVec w} : meets a b = true ↔ ∃ i : Fin w, has a i = true ∧ has b i = true := by
  simp only [meets, bne_iff_ne, ne_eq, eq_zero_iff, has_and, not_forall, Bool.not_eq_false, Bool.and_eq_true]

theorem meets_eq_false {a b : BitVec w} : meets a b = false ↔ ∀ i : Fin w, has a i = true → has b i = false := by
  rw [← Bool.not_eq_true, meets_iff]
  simp

/-- A subset has no member outside. -/
theorem subset_iff {a b : BitVec w} : subset a b = true ↔ ∀ i : Fin w, has a i = true → has b i = true := by
  simp only [subset, beq_iff_eq, eq_zero_iff, has_and, has_not]
  exact forall_congr' fun i => by cases has a i <;> simp

end

/-- Membership in a set given by the list of its members' bits. -/
theorem has_ofList (bs : List Bool) (i : Fin bs.length) : has (BitVec.ofBoolListLE bs) i = bs[i] := by
  rw [has, BitVec.getLsbD_ofBoolListLE]; simp

theorem has_lanesWhere (p : LaneId → Bool) (l : LaneId) : has (lanesWhere p) l = p l := by
  refine (has_ofList [p 0, p 1, p 2, p 3] l).trans ?_
  revert l; simp [Fin.forall_fin_succ]

theorem has_zonesWhere (p : ZoneId → Bool) (z : ZoneId) : has (zonesWhere p) z = p z := by
  refine (has_ofList [p 0, p 1, p 2, p 3, p 4, p 5, p 6, p 7, p 8, p 9, p 10, p 11] z).trans ?_
  revert z; simp [Fin.forall_fin_succ]

theorem has_actsWhere (p : ActId → Bool) (a : ActId) : has (actsWhere p) a = p a := by
  refine (has_ofList [p 0, p 1, p 2, p 3, p 4, p 5, p 6, p 7, p 8, p 9] a).trans ?_
  revert a; simp [Fin.forall_fin_succ]

theorem has_chansWhere (p : ChanId → Bool) (c : ChanId) : has (chansWhere p) c = p c := by
  refine (has_ofList [p 0, p 1, p 2, p 3, p 4, p 5, p 6, p 7, p 8, p 9, p 10, p 11] c).trans ?_
  revert c; simp [Fin.forall_fin_succ]

/-! ### The derived sets -/

section
variable (s : State)

theorem has_heldBy (l : LaneId) (z : ZoneId) : has (heldBy s l) z = decide (s.holders[z] = some l) := by
  simp only [heldBy, has_zonesWhere, beq_eq_decide]
theorem has_allHeld (z : ZoneId) : has (allHeld s) z = s.holders[z].isSome := by
  simp only [allHeld, has_zonesWhere]
theorem has_boundActs (a : ActId) : has (boundActs s) a = s.acts[a].binding.isSome := by
  simp only [boundActs, has_actsWhere]
theorem has_referencedSet (a : ActId) : has (referencedSet s) a = s.acts[a].referenced := by
  simp only [referencedSet, has_actsWhere]
theorem has_offlineMask (l : LaneId) : has (offlineMask s) l = decide (s.lanes[l].state = .offline) := by
  simp only [offlineMask, has_lanesWhere]
theorem has_arrangement (st : Sys2Proof.Station) (tag : BitVec 8) (l : LaneId) :
    has (arrangement s st tag) l =
      (decide (s.lanes[l].owner = some st) && decide (s.lanes[l].tag = some tag) && !s.lanes[l].state.free) := by
  simp only [arrangement, has_lanesWhere, beq_eq_decide]
theorem has_ownedBy (st : Sys2Proof.Station) (l : LaneId) :
    has (ownedBy s st) l = (decide (s.lanes[l].owner = some st) && !s.lanes[l].state.free) := by
  simp only [ownedBy, has_lanesWhere, beq_eq_decide]

/-- A fold that unites sets holds what some united set holds. -/
theorem has_foldl_union {α : Type} {w : Nat} (f : α → BitVec w) (p : α → Bool) (xs : List α) (z : BitVec w) (i : Fin w) :
    has (xs.foldl (fun z x => if p x then z ||| f x else z) z) i =
      (has z i || xs.any fun x => p x && has (f x) i) := by
  induction xs generalizing z with
  | nil => simp
  | cons x xs ih =>
    rw [List.foldl_cons, ih, List.any_cons]
    cases h : p x <;> simp [Bool.or_assoc]

/-- A zone is in a guard union when some chosen channel guards it. -/
theorem has_guardUnion (p : ChanRun → Bool) (z : ZoneId) :
    has (guardUnion s p) z = allChans.any fun c => p s.chans[c] && has s.ram.channels[c].guard z := by
  unfold guardUnion
  rw [has_foldl_union (fun c : ChanId => s.ram.channels[c].guard) (fun c => p s.chans[c])]
  simp

theorem mem_allChans (c : ChanId) : c ∈ allChans := by revert c; decide
theorem mem_allLanes (l : LaneId) : l ∈ allLanes := by revert l; decide
theorem mem_allActs (a : ActId) : a ∈ allActs := by revert a; decide
theorem mem_allZones (z : ZoneId) : z ∈ allZones := by revert z; decide

/-- A zone is in a guard union when some chosen channel guards it. -/
theorem has_guardUnion_iff (p : ChanRun → Bool) (z : ZoneId) :
    has (guardUnion s p) z = true ↔ ∃ c : ChanId, p s.chans[c] = true ∧ has s.ram.channels[c].guard z = true := by
  rw [has_guardUnion, List.any_eq_true]
  simp only [Bool.and_eq_true]
  exact ⟨fun ⟨c, _, h⟩ => ⟨c, h⟩, fun ⟨c, h⟩ => ⟨c, mem_allChans c, h⟩⟩

/-- A zone is fenced when a channel outside CLEAR guards it (R17). -/
theorem has_fenced (z : ZoneId) :
    has (fenced s) z = true ↔ ∃ c : ChanId, s.chans[c].state ≠ .clear ∧ has s.ram.channels[c].guard z = true := by
  have bool (p q r : Bool) : (p || q && !p || r && !(p || q)) = (p || q || r) := by
    cases p <;> cases q <;> cases r <;> rfl
  simp only [fenced, FenceView.all, fenceView, has_or, has_and, has_not, bool, Bool.or_eq_true, has_guardUnion_iff,
    decide_eq_true_eq]
  constructor
  · rintro ((⟨c, h, g⟩ | ⟨c, h, g⟩) | ⟨c, h, g⟩)
    · exact ⟨c, by rcases h with h | h <;> rw [h] <;> decide, g⟩
    · exact ⟨c, by rw [h]; decide, g⟩
    · exact ⟨c, by rw [h]; decide, g⟩
  · rintro ⟨c, h, g⟩
    cases e : s.chans[c].state
    · exact .inl (.inr ⟨c, e, g⟩)
    · exact absurd e h
    · exact .inl (.inl ⟨c, .inl e, g⟩)
    · exact .inl (.inl ⟨c, .inr e, g⟩)
    · exact .inr ⟨c, e, g⟩

/-- A wanted set is grantable when no zone of it is held and none is fenced (R101). -/
theorem grantable_iff (w : ZoneSet) :
    grantable s w = true ↔ ∀ z : ZoneId, has w z = true → s.holders[z] = none ∧ has (fenced s) z = false := by
  simp only [grantable, Bool.not_eq_true', meets_eq_false, has_or, Bool.or_eq_false_iff, has_allHeld,
    Option.isSome_eq_false_iff, Option.isNone_iff_eq_none]

end

end Sys2Proof.Machine
end

