-- ==== Sys2Proof/Laws/State.lean ====
section
/-! SUPPORT. The fields of the state after each update: one lemma per field that an update leaves unchanged, and the
values of the records that the plain updates write. -/

namespace Sys2Proof.Machine

open Sys2Proof (Byte LaneId ActId ZoneId ChanId ZoneSet ActSet LaneSet ChanSet GroupSet Station)

/-! ### Tables -/

theorem getElem_fin {α : Type} {n : Nat} (v : Vector α n) (i : Fin n) : v[i] = v[i.val] := rfl

@[simp] theorem put_self {α : Type} {n : Nat} (v : Vector α n) (i : Fin n) (x : α) : (put v i x)[i] = x := by
  simp [put]

theorem put_get {α : Type} {n : Nat} (v : Vector α n) (i j : Fin n) (x : α) :
    (put v i x)[j] = if i = j then x else v[j] := by
  simp [put, Vector.getElem_set, Fin.ext_iff]

@[simp] theorem put_other {α : Type} {n : Nat} (v : Vector α n) {i j : Fin n} (h : j ≠ i) (x : α) :
    (put v i x)[j] = v[j] := by
  rw [put_get, if_neg (Ne.symm h)]

@[simp] theorem put_same {α : Type} {n : Nat} (v : Vector α n) (i : Fin n) : put v i v[i] = v := by
  simp [put]

@[simp] theorem tab_get {α : Type} {n : Nat} (f : Fin n → α) (i : Fin n) : (tab f)[i] = f i := by
  simp [tab]

@[simp] theorem tab_get_val {α : Type} {n : Nat} (f : Fin n → α) (i : Nat) (h : i < n) : (tab f)[i] = f ⟨i, h⟩ := by
  simp [tab]

/-- Two tables with the same entries are the same. -/
theorem table_ext {α : Type} {n : Nat} {v w : Vector α n} (h : ∀ i : Fin n, v[i] = w[i]) : v = w :=
  Vector.ext fun i hi => h ⟨i, hi⟩

/-! ### Fields that an update leaves unchanged -/

/-! `mark` -/
@[simp] theorem mark_pending (f : Flag) (s : State) : (mark f s).pending = s.pending := rfl
@[simp] theorem mark_now (f : Flag) (s : State) : (mark f s).now = s.now := rfl
@[simp] theorem mark_startUp (f : Flag) (s : State) : (mark f s).startUp = s.startUp := rfl
@[simp] theorem mark_ram (f : Flag) (s : State) : (mark f s).ram = s.ram := rfl
@[simp] theorem mark_store (f : Flag) (s : State) : (mark f s).store = s.store := rfl
@[simp] theorem mark_checksums (f : Flag) (s : State) : (mark f s).checksums = s.checksums := rfl
@[simp] theorem mark_acts (f : Flag) (s : State) : (mark f s).acts = s.acts := rfl
@[simp] theorem mark_holders (f : Flag) (s : State) : (mark f s).holders = s.holders := rfl
@[simp] theorem mark_lanes (f : Flag) (s : State) : (mark f s).lanes = s.lanes := rfl
@[simp] theorem mark_waitList (f : Flag) (s : State) : (mark f s).waitList = s.waitList := rfl
@[simp] theorem mark_drives (f : Flag) (s : State) : (mark f s).drives = s.drives := rfl
@[simp] theorem mark_loads (f : Flag) (s : State) : (mark f s).loads = s.loads := rfl
@[simp] theorem mark_chans (f : Flag) (s : State) : (mark f s).chans = s.chans := rfl
@[simp] theorem mark_presence (f : Flag) (s : State) : (mark f s).presence = s.presence := rfl
@[simp] theorem mark_vehicle (f : Flag) (s : State) : (mark f s).vehicle = s.vehicle := rfl
@[simp] theorem mark_supply (f : Flag) (s : State) : (mark f s).supply = s.supply := rfl
@[simp] theorem mark_power (f : Flag) (s : State) : (mark f s).power = s.power := rfl
@[simp] theorem mark_request (f : Flag) (s : State) : (mark f s).request = s.request := rfl
@[simp] theorem mark_service (f : Flag) (s : State) : (mark f s).service = s.service := rfl
@[simp] theorem mark_tx (f : Flag) (s : State) : (mark f s).tx = s.tx := rfl

/-! `writeGroup` -/
@[simp] theorem writeGroup_pending (g : Group) (f : Settings → Settings) (s : State) : (writeGroup g f s).pending = s.pending := rfl
@[simp] theorem writeGroup_now (g : Group) (f : Settings → Settings) (s : State) : (writeGroup g f s).now = s.now := rfl
@[simp] theorem writeGroup_startUp (g : Group) (f : Settings → Settings) (s : State) : (writeGroup g f s).startUp = s.startUp := rfl
@[simp] theorem writeGroup_acts (g : Group) (f : Settings → Settings) (s : State) : (writeGroup g f s).acts = s.acts := rfl
@[simp] theorem writeGroup_holders (g : Group) (f : Settings → Settings) (s : State) : (writeGroup g f s).holders = s.holders := rfl
@[simp] theorem writeGroup_lanes (g : Group) (f : Settings → Settings) (s : State) : (writeGroup g f s).lanes = s.lanes := rfl
@[simp] theorem writeGroup_waitList (g : Group) (f : Settings → Settings) (s : State) : (writeGroup g f s).waitList = s.waitList := rfl
@[simp] theorem writeGroup_drives (g : Group) (f : Settings → Settings) (s : State) : (writeGroup g f s).drives = s.drives := rfl
@[simp] theorem writeGroup_loads (g : Group) (f : Settings → Settings) (s : State) : (writeGroup g f s).loads = s.loads := rfl
@[simp] theorem writeGroup_chans (g : Group) (f : Settings → Settings) (s : State) : (writeGroup g f s).chans = s.chans := rfl
@[simp] theorem writeGroup_presence (g : Group) (f : Settings → Settings) (s : State) : (writeGroup g f s).presence = s.presence := rfl
@[simp] theorem writeGroup_vehicle (g : Group) (f : Settings → Settings) (s : State) : (writeGroup g f s).vehicle = s.vehicle := rfl
@[simp] theorem writeGroup_supply (g : Group) (f : Settings → Settings) (s : State) : (writeGroup g f s).supply = s.supply := rfl
@[simp] theorem writeGroup_power (g : Group) (f : Settings → Settings) (s : State) : (writeGroup g f s).power = s.power := rfl
@[simp] theorem writeGroup_request (g : Group) (f : Settings → Settings) (s : State) : (writeGroup g f s).request = s.request := rfl
@[simp] theorem writeGroup_service (g : Group) (f : Settings → Settings) (s : State) : (writeGroup g f s).service = s.service := rfl
@[simp] theorem writeGroup_report (g : Group) (f : Settings → Settings) (s : State) : (writeGroup g f s).report = s.report := rfl
@[simp] theorem writeGroup_tx (g : Group) (f : Settings → Settings) (s : State) : (writeGroup g f s).tx = s.tx := rfl

/-! `writeActuator` -/
@[simp] theorem writeActuator_pending (a : ActId) (f : ActuatorRec → ActuatorRec) (s : State) : (writeActuator a f s).pending = s.pending := rfl
@[simp] theorem writeActuator_now (a : ActId) (f : ActuatorRec → ActuatorRec) (s : State) : (writeActuator a f s).now = s.now := rfl
@[simp] theorem writeActuator_startUp (a : ActId) (f : ActuatorRec → ActuatorRec) (s : State) : (writeActuator a f s).startUp = s.startUp := rfl
@[simp] theorem writeActuator_acts (a : ActId) (f : ActuatorRec → ActuatorRec) (s : State) : (writeActuator a f s).acts = s.acts := rfl
@[simp] theorem writeActuator_holders (a : ActId) (f : ActuatorRec → ActuatorRec) (s : State) : (writeActuator a f s).holders = s.holders := rfl
@[simp] theorem writeActuator_lanes (a : ActId) (f : ActuatorRec → ActuatorRec) (s : State) : (writeActuator a f s).lanes = s.lanes := rfl
@[simp] theorem writeActuator_waitList (a : ActId) (f : ActuatorRec → ActuatorRec) (s : State) : (writeActuator a f s).waitList = s.waitList := rfl
@[simp] theorem writeActuator_drives (a : ActId) (f : ActuatorRec → ActuatorRec) (s : State) : (writeActuator a f s).drives = s.drives := rfl
@[simp] theorem writeActuator_loads (a : ActId) (f : ActuatorRec → ActuatorRec) (s : State) : (writeActuator a f s).loads = s.loads := rfl
@[simp] theorem writeActuator_chans (a : ActId) (f : ActuatorRec → ActuatorRec) (s : State) : (writeActuator a f s).chans = s.chans := rfl
@[simp] theorem writeActuator_presence (a : ActId) (f : ActuatorRec → ActuatorRec) (s : State) : (writeActuator a f s).presence = s.presence := rfl
@[simp] theorem writeActuator_vehicle (a : ActId) (f : ActuatorRec → ActuatorRec) (s : State) : (writeActuator a f s).vehicle = s.vehicle := rfl
@[simp] theorem writeActuator_supply (a : ActId) (f : ActuatorRec → ActuatorRec) (s : State) : (writeActuator a f s).supply = s.supply := rfl
@[simp] theorem writeActuator_power (a : ActId) (f : ActuatorRec → ActuatorRec) (s : State) : (writeActuator a f s).power = s.power := rfl
@[simp] theorem writeActuator_request (a : ActId) (f : ActuatorRec → ActuatorRec) (s : State) : (writeActuator a f s).request = s.request := rfl
@[simp] theorem writeActuator_service (a : ActId) (f : ActuatorRec → ActuatorRec) (s : State) : (writeActuator a f s).service = s.service := rfl
@[simp] theorem writeActuator_report (a : ActId) (f : ActuatorRec → ActuatorRec) (s : State) : (writeActuator a f s).report = s.report := rfl
@[simp] theorem writeActuator_tx (a : ActId) (f : ActuatorRec → ActuatorRec) (s : State) : (writeActuator a f s).tx = s.tx := rfl

/-! `setMotionMark` -/
@[simp] theorem setMotionMark_pending (a : ActId) (s : State) : (setMotionMark a s).pending = s.pending := rfl
@[simp] theorem setMotionMark_now (a : ActId) (s : State) : (setMotionMark a s).now = s.now := rfl
@[simp] theorem setMotionMark_startUp (a : ActId) (s : State) : (setMotionMark a s).startUp = s.startUp := rfl
@[simp] theorem setMotionMark_acts (a : ActId) (s : State) : (setMotionMark a s).acts = s.acts := rfl
@[simp] theorem setMotionMark_holders (a : ActId) (s : State) : (setMotionMark a s).holders = s.holders := rfl
@[simp] theorem setMotionMark_lanes (a : ActId) (s : State) : (setMotionMark a s).lanes = s.lanes := rfl
@[simp] theorem setMotionMark_waitList (a : ActId) (s : State) : (setMotionMark a s).waitList = s.waitList := rfl
@[simp] theorem setMotionMark_drives (a : ActId) (s : State) : (setMotionMark a s).drives = s.drives := rfl
@[simp] theorem setMotionMark_loads (a : ActId) (s : State) : (setMotionMark a s).loads = s.loads := rfl
@[simp] theorem setMotionMark_chans (a : ActId) (s : State) : (setMotionMark a s).chans = s.chans := rfl
@[simp] theorem setMotionMark_presence (a : ActId) (s : State) : (setMotionMark a s).presence = s.presence := rfl
@[simp] theorem setMotionMark_vehicle (a : ActId) (s : State) : (setMotionMark a s).vehicle = s.vehicle := rfl
@[simp] theorem setMotionMark_supply (a : ActId) (s : State) : (setMotionMark a s).supply = s.supply := rfl
@[simp] theorem setMotionMark_power (a : ActId) (s : State) : (setMotionMark a s).power = s.power := rfl
@[simp] theorem setMotionMark_request (a : ActId) (s : State) : (setMotionMark a s).request = s.request := rfl
@[simp] theorem setMotionMark_service (a : ActId) (s : State) : (setMotionMark a s).service = s.service := rfl
@[simp] theorem setMotionMark_report (a : ActId) (s : State) : (setMotionMark a s).report = s.report := rfl
@[simp] theorem setMotionMark_tx (a : ActId) (s : State) : (setMotionMark a s).tx = s.tx := rfl

/-! `capture` -/
@[simp] theorem capture_pending (a : ActId) (s : State) : (capture a s).pending = s.pending := rfl
@[simp] theorem capture_now (a : ActId) (s : State) : (capture a s).now = s.now := rfl
@[simp] theorem capture_startUp (a : ActId) (s : State) : (capture a s).startUp = s.startUp := rfl
@[simp] theorem capture_acts (a : ActId) (s : State) : (capture a s).acts = s.acts := rfl
@[simp] theorem capture_holders (a : ActId) (s : State) : (capture a s).holders = s.holders := rfl
@[simp] theorem capture_lanes (a : ActId) (s : State) : (capture a s).lanes = s.lanes := rfl
@[simp] theorem capture_waitList (a : ActId) (s : State) : (capture a s).waitList = s.waitList := rfl
@[simp] theorem capture_drives (a : ActId) (s : State) : (capture a s).drives = s.drives := rfl
@[simp] theorem capture_loads (a : ActId) (s : State) : (capture a s).loads = s.loads := rfl
@[simp] theorem capture_chans (a : ActId) (s : State) : (capture a s).chans = s.chans := rfl
@[simp] theorem capture_presence (a : ActId) (s : State) : (capture a s).presence = s.presence := rfl
@[simp] theorem capture_vehicle (a : ActId) (s : State) : (capture a s).vehicle = s.vehicle := rfl
@[simp] theorem capture_supply (a : ActId) (s : State) : (capture a s).supply = s.supply := rfl
@[simp] theorem capture_power (a : ActId) (s : State) : (capture a s).power = s.power := rfl
@[simp] theorem capture_request (a : ActId) (s : State) : (capture a s).request = s.request := rfl
@[simp] theorem capture_service (a : ActId) (s : State) : (capture a s).service = s.service := rfl
@[simp] theorem capture_report (a : ActId) (s : State) : (capture a s).report = s.report := rfl
@[simp] theorem capture_tx (a : ActId) (s : State) : (capture a s).tx = s.tx := rfl

/-! `updLoad` -/
@[simp] theorem updLoad_pending (l : LaneId) (f : Load → Load) (s : State) : (updLoad l f s).pending = s.pending := rfl
@[simp] theorem updLoad_now (l : LaneId) (f : Load → Load) (s : State) : (updLoad l f s).now = s.now := rfl
@[simp] theorem updLoad_startUp (l : LaneId) (f : Load → Load) (s : State) : (updLoad l f s).startUp = s.startUp := rfl
@[simp] theorem updLoad_ram (l : LaneId) (f : Load → Load) (s : State) : (updLoad l f s).ram = s.ram := rfl
@[simp] theorem updLoad_store (l : LaneId) (f : Load → Load) (s : State) : (updLoad l f s).store = s.store := rfl
@[simp] theorem updLoad_checksums (l : LaneId) (f : Load → Load) (s : State) : (updLoad l f s).checksums = s.checksums := rfl
@[simp] theorem updLoad_acts (l : LaneId) (f : Load → Load) (s : State) : (updLoad l f s).acts = s.acts := rfl
@[simp] theorem updLoad_holders (l : LaneId) (f : Load → Load) (s : State) : (updLoad l f s).holders = s.holders := rfl
@[simp] theorem updLoad_lanes (l : LaneId) (f : Load → Load) (s : State) : (updLoad l f s).lanes = s.lanes := rfl
@[simp] theorem updLoad_waitList (l : LaneId) (f : Load → Load) (s : State) : (updLoad l f s).waitList = s.waitList := rfl
@[simp] theorem updLoad_drives (l : LaneId) (f : Load → Load) (s : State) : (updLoad l f s).drives = s.drives := rfl
@[simp] theorem updLoad_chans (l : LaneId) (f : Load → Load) (s : State) : (updLoad l f s).chans = s.chans := rfl
@[simp] theorem updLoad_presence (l : LaneId) (f : Load → Load) (s : State) : (updLoad l f s).presence = s.presence := rfl
@[simp] theorem updLoad_vehicle (l : LaneId) (f : Load → Load) (s : State) : (updLoad l f s).vehicle = s.vehicle := rfl
@[simp] theorem updLoad_supply (l : LaneId) (f : Load → Load) (s : State) : (updLoad l f s).supply = s.supply := rfl
@[simp] theorem updLoad_power (l : LaneId) (f : Load → Load) (s : State) : (updLoad l f s).power = s.power := rfl
@[simp] theorem updLoad_request (l : LaneId) (f : Load → Load) (s : State) : (updLoad l f s).request = s.request := rfl
@[simp] theorem updLoad_service (l : LaneId) (f : Load → Load) (s : State) : (updLoad l f s).service = s.service := rfl
@[simp] theorem updLoad_report (l : LaneId) (f : Load → Load) (s : State) : (updLoad l f s).report = s.report := rfl
@[simp] theorem updLoad_tx (l : LaneId) (f : Load → Load) (s : State) : (updLoad l f s).tx = s.tx := rfl

/-! `updDrive` -/
@[simp] theorem updDrive_pending (l : LaneId) (f : Drive → Drive) (s : State) : (updDrive l f s).pending = s.pending := rfl
@[simp] theorem updDrive_now (l : LaneId) (f : Drive → Drive) (s : State) : (updDrive l f s).now = s.now := rfl
@[simp] theorem updDrive_startUp (l : LaneId) (f : Drive → Drive) (s : State) : (updDrive l f s).startUp = s.startUp := rfl
@[simp] theorem updDrive_ram (l : LaneId) (f : Drive → Drive) (s : State) : (updDrive l f s).ram = s.ram := rfl
@[simp] theorem updDrive_store (l : LaneId) (f : Drive → Drive) (s : State) : (updDrive l f s).store = s.store := rfl
@[simp] theorem updDrive_checksums (l : LaneId) (f : Drive → Drive) (s : State) : (updDrive l f s).checksums = s.checksums := rfl
@[simp] theorem updDrive_acts (l : LaneId) (f : Drive → Drive) (s : State) : (updDrive l f s).acts = s.acts := rfl
@[simp] theorem updDrive_holders (l : LaneId) (f : Drive → Drive) (s : State) : (updDrive l f s).holders = s.holders := rfl
@[simp] theorem updDrive_lanes (l : LaneId) (f : Drive → Drive) (s : State) : (updDrive l f s).lanes = s.lanes := rfl
@[simp] theorem updDrive_waitList (l : LaneId) (f : Drive → Drive) (s : State) : (updDrive l f s).waitList = s.waitList := rfl
@[simp] theorem updDrive_loads (l : LaneId) (f : Drive → Drive) (s : State) : (updDrive l f s).loads = s.loads := rfl
@[simp] theorem updDrive_chans (l : LaneId) (f : Drive → Drive) (s : State) : (updDrive l f s).chans = s.chans := rfl
@[simp] theorem updDrive_presence (l : LaneId) (f : Drive → Drive) (s : State) : (updDrive l f s).presence = s.presence := rfl
@[simp] theorem updDrive_vehicle (l : LaneId) (f : Drive → Drive) (s : State) : (updDrive l f s).vehicle = s.vehicle := rfl
@[simp] theorem updDrive_supply (l : LaneId) (f : Drive → Drive) (s : State) : (updDrive l f s).supply = s.supply := rfl
@[simp] theorem updDrive_power (l : LaneId) (f : Drive → Drive) (s : State) : (updDrive l f s).power = s.power := rfl
@[simp] theorem updDrive_request (l : LaneId) (f : Drive → Drive) (s : State) : (updDrive l f s).request = s.request := rfl
@[simp] theorem updDrive_service (l : LaneId) (f : Drive → Drive) (s : State) : (updDrive l f s).service = s.service := rfl
@[simp] theorem updDrive_report (l : LaneId) (f : Drive → Drive) (s : State) : (updDrive l f s).report = s.report := rfl
@[simp] theorem updDrive_tx (l : LaneId) (f : Drive → Drive) (s : State) : (updDrive l f s).tx = s.tx := rfl

/-! `openRelay` -/
@[simp] theorem openRelay_pending (l : LaneId) (s : State) : (openRelay l s).pending = s.pending := rfl
@[simp] theorem openRelay_now (l : LaneId) (s : State) : (openRelay l s).now = s.now := rfl
@[simp] theorem openRelay_startUp (l : LaneId) (s : State) : (openRelay l s).startUp = s.startUp := rfl
@[simp] theorem openRelay_ram (l : LaneId) (s : State) : (openRelay l s).ram = s.ram := rfl
@[simp] theorem openRelay_store (l : LaneId) (s : State) : (openRelay l s).store = s.store := rfl
@[simp] theorem openRelay_checksums (l : LaneId) (s : State) : (openRelay l s).checksums = s.checksums := rfl
@[simp] theorem openRelay_acts (l : LaneId) (s : State) : (openRelay l s).acts = s.acts := rfl
@[simp] theorem openRelay_holders (l : LaneId) (s : State) : (openRelay l s).holders = s.holders := rfl
@[simp] theorem openRelay_lanes (l : LaneId) (s : State) : (openRelay l s).lanes = s.lanes := rfl
@[simp] theorem openRelay_waitList (l : LaneId) (s : State) : (openRelay l s).waitList = s.waitList := rfl
@[simp] theorem openRelay_loads (l : LaneId) (s : State) : (openRelay l s).loads = s.loads := rfl
@[simp] theorem openRelay_chans (l : LaneId) (s : State) : (openRelay l s).chans = s.chans := rfl
@[simp] theorem openRelay_presence (l : LaneId) (s : State) : (openRelay l s).presence = s.presence := rfl
@[simp] theorem openRelay_vehicle (l : LaneId) (s : State) : (openRelay l s).vehicle = s.vehicle := rfl
@[simp] theorem openRelay_supply (l : LaneId) (s : State) : (openRelay l s).supply = s.supply := rfl
@[simp] theorem openRelay_power (l : LaneId) (s : State) : (openRelay l s).power = s.power := rfl
@[simp] theorem openRelay_request (l : LaneId) (s : State) : (openRelay l s).request = s.request := rfl
@[simp] theorem openRelay_service (l : LaneId) (s : State) : (openRelay l s).service = s.service := rfl
@[simp] theorem openRelay_report (l : LaneId) (s : State) : (openRelay l s).report = s.report := rfl
@[simp] theorem openRelay_tx (l : LaneId) (s : State) : (openRelay l s).tx = s.tx := rfl

/-! `armOrder` -/
@[simp] theorem armOrder_pending (l : LaneId) (a : ActId) (s : State) : (armOrder l a s).pending = s.pending := rfl
@[simp] theorem armOrder_now (l : LaneId) (a : ActId) (s : State) : (armOrder l a s).now = s.now := rfl
@[simp] theorem armOrder_startUp (l : LaneId) (a : ActId) (s : State) : (armOrder l a s).startUp = s.startUp := rfl
@[simp] theorem armOrder_ram (l : LaneId) (a : ActId) (s : State) : (armOrder l a s).ram = s.ram := rfl
@[simp] theorem armOrder_store (l : LaneId) (a : ActId) (s : State) : (armOrder l a s).store = s.store := rfl
@[simp] theorem armOrder_checksums (l : LaneId) (a : ActId) (s : State) : (armOrder l a s).checksums = s.checksums := rfl
@[simp] theorem armOrder_acts (l : LaneId) (a : ActId) (s : State) : (armOrder l a s).acts = s.acts := rfl
@[simp] theorem armOrder_holders (l : LaneId) (a : ActId) (s : State) : (armOrder l a s).holders = s.holders := rfl
@[simp] theorem armOrder_lanes (l : LaneId) (a : ActId) (s : State) : (armOrder l a s).lanes = s.lanes := rfl
@[simp] theorem armOrder_waitList (l : LaneId) (a : ActId) (s : State) : (armOrder l a s).waitList = s.waitList := rfl
@[simp] theorem armOrder_loads (l : LaneId) (a : ActId) (s : State) : (armOrder l a s).loads = s.loads := rfl
@[simp] theorem armOrder_chans (l : LaneId) (a : ActId) (s : State) : (armOrder l a s).chans = s.chans := rfl
@[simp] theorem armOrder_presence (l : LaneId) (a : ActId) (s : State) : (armOrder l a s).presence = s.presence := rfl
@[simp] theorem armOrder_vehicle (l : LaneId) (a : ActId) (s : State) : (armOrder l a s).vehicle = s.vehicle := rfl
@[simp] theorem armOrder_supply (l : LaneId) (a : ActId) (s : State) : (armOrder l a s).supply = s.supply := rfl
@[simp] theorem armOrder_power (l : LaneId) (a : ActId) (s : State) : (armOrder l a s).power = s.power := rfl
@[simp] theorem armOrder_request (l : LaneId) (a : ActId) (s : State) : (armOrder l a s).request = s.request := rfl
@[simp] theorem armOrder_service (l : LaneId) (a : ActId) (s : State) : (armOrder l a s).service = s.service := rfl
@[simp] theorem armOrder_report (l : LaneId) (a : ActId) (s : State) : (armOrder l a s).report = s.report := rfl
@[simp] theorem armOrder_tx (l : LaneId) (a : ActId) (s : State) : (armOrder l a s).tx = s.tx := rfl

/-! `updChan` -/
@[simp] theorem updChan_pending (c : ChanId) (f : ChanRun → ChanRun) (s : State) : (updChan c f s).pending = s.pending := rfl
@[simp] theorem updChan_now (c : ChanId) (f : ChanRun → ChanRun) (s : State) : (updChan c f s).now = s.now := rfl
@[simp] theorem updChan_startUp (c : ChanId) (f : ChanRun → ChanRun) (s : State) : (updChan c f s).startUp = s.startUp := rfl
@[simp] theorem updChan_ram (c : ChanId) (f : ChanRun → ChanRun) (s : State) : (updChan c f s).ram = s.ram := rfl
@[simp] theorem updChan_store (c : ChanId) (f : ChanRun → ChanRun) (s : State) : (updChan c f s).store = s.store := rfl
@[simp] theorem updChan_checksums (c : ChanId) (f : ChanRun → ChanRun) (s : State) : (updChan c f s).checksums = s.checksums := rfl
@[simp] theorem updChan_acts (c : ChanId) (f : ChanRun → ChanRun) (s : State) : (updChan c f s).acts = s.acts := rfl
@[simp] theorem updChan_holders (c : ChanId) (f : ChanRun → ChanRun) (s : State) : (updChan c f s).holders = s.holders := rfl
@[simp] theorem updChan_lanes (c : ChanId) (f : ChanRun → ChanRun) (s : State) : (updChan c f s).lanes = s.lanes := rfl
@[simp] theorem updChan_waitList (c : ChanId) (f : ChanRun → ChanRun) (s : State) : (updChan c f s).waitList = s.waitList := rfl
@[simp] theorem updChan_drives (c : ChanId) (f : ChanRun → ChanRun) (s : State) : (updChan c f s).drives = s.drives := rfl
@[simp] theorem updChan_loads (c : ChanId) (f : ChanRun → ChanRun) (s : State) : (updChan c f s).loads = s.loads := rfl
@[simp] theorem updChan_presence (c : ChanId) (f : ChanRun → ChanRun) (s : State) : (updChan c f s).presence = s.presence := rfl
@[simp] theorem updChan_vehicle (c : ChanId) (f : ChanRun → ChanRun) (s : State) : (updChan c f s).vehicle = s.vehicle := rfl
@[simp] theorem updChan_supply (c : ChanId) (f : ChanRun → ChanRun) (s : State) : (updChan c f s).supply = s.supply := rfl
@[simp] theorem updChan_power (c : ChanId) (f : ChanRun → ChanRun) (s : State) : (updChan c f s).power = s.power := rfl
@[simp] theorem updChan_request (c : ChanId) (f : ChanRun → ChanRun) (s : State) : (updChan c f s).request = s.request := rfl
@[simp] theorem updChan_service (c : ChanId) (f : ChanRun → ChanRun) (s : State) : (updChan c f s).service = s.service := rfl
@[simp] theorem updChan_report (c : ChanId) (f : ChanRun → ChanRun) (s : State) : (updChan c f s).report = s.report := rfl
@[simp] theorem updChan_tx (c : ChanId) (f : ChanRun → ChanRun) (s : State) : (updChan c f s).tx = s.tx := rfl

/-! `dequeue` -/
@[simp] theorem dequeue_pending (c : ChanId) (s : State) : (dequeue c s).pending = s.pending := rfl
@[simp] theorem dequeue_now (c : ChanId) (s : State) : (dequeue c s).now = s.now := rfl
@[simp] theorem dequeue_startUp (c : ChanId) (s : State) : (dequeue c s).startUp = s.startUp := rfl
@[simp] theorem dequeue_ram (c : ChanId) (s : State) : (dequeue c s).ram = s.ram := rfl
@[simp] theorem dequeue_store (c : ChanId) (s : State) : (dequeue c s).store = s.store := rfl
@[simp] theorem dequeue_checksums (c : ChanId) (s : State) : (dequeue c s).checksums = s.checksums := rfl
@[simp] theorem dequeue_acts (c : ChanId) (s : State) : (dequeue c s).acts = s.acts := rfl
@[simp] theorem dequeue_holders (c : ChanId) (s : State) : (dequeue c s).holders = s.holders := rfl
@[simp] theorem dequeue_lanes (c : ChanId) (s : State) : (dequeue c s).lanes = s.lanes := rfl
@[simp] theorem dequeue_waitList (c : ChanId) (s : State) : (dequeue c s).waitList = s.waitList := rfl
@[simp] theorem dequeue_drives (c : ChanId) (s : State) : (dequeue c s).drives = s.drives := rfl
@[simp] theorem dequeue_loads (c : ChanId) (s : State) : (dequeue c s).loads = s.loads := rfl
@[simp] theorem dequeue_chans (c : ChanId) (s : State) : (dequeue c s).chans = s.chans := rfl
@[simp] theorem dequeue_vehicle (c : ChanId) (s : State) : (dequeue c s).vehicle = s.vehicle := rfl
@[simp] theorem dequeue_supply (c : ChanId) (s : State) : (dequeue c s).supply = s.supply := rfl
@[simp] theorem dequeue_power (c : ChanId) (s : State) : (dequeue c s).power = s.power := rfl
@[simp] theorem dequeue_request (c : ChanId) (s : State) : (dequeue c s).request = s.request := rfl
@[simp] theorem dequeue_service (c : ChanId) (s : State) : (dequeue c s).service = s.service := rfl
@[simp] theorem dequeue_report (c : ChanId) (s : State) : (dequeue c s).report = s.report := rfl
@[simp] theorem dequeue_tx (c : ChanId) (s : State) : (dequeue c s).tx = s.tx := rfl

/-! `setHolders` -/
@[simp] theorem setHolders_pending (zs : ZoneSet) (h : Option LaneId) (s : State) : (setHolders zs h s).pending = s.pending := rfl
@[simp] theorem setHolders_now (zs : ZoneSet) (h : Option LaneId) (s : State) : (setHolders zs h s).now = s.now := rfl
@[simp] theorem setHolders_startUp (zs : ZoneSet) (h : Option LaneId) (s : State) : (setHolders zs h s).startUp = s.startUp := rfl
@[simp] theorem setHolders_ram (zs : ZoneSet) (h : Option LaneId) (s : State) : (setHolders zs h s).ram = s.ram := rfl
@[simp] theorem setHolders_store (zs : ZoneSet) (h : Option LaneId) (s : State) : (setHolders zs h s).store = s.store := rfl
@[simp] theorem setHolders_checksums (zs : ZoneSet) (h : Option LaneId) (s : State) : (setHolders zs h s).checksums = s.checksums := rfl
@[simp] theorem setHolders_acts (zs : ZoneSet) (h : Option LaneId) (s : State) : (setHolders zs h s).acts = s.acts := rfl
@[simp] theorem setHolders_lanes (zs : ZoneSet) (h : Option LaneId) (s : State) : (setHolders zs h s).lanes = s.lanes := rfl
@[simp] theorem setHolders_waitList (zs : ZoneSet) (h : Option LaneId) (s : State) : (setHolders zs h s).waitList = s.waitList := rfl
@[simp] theorem setHolders_drives (zs : ZoneSet) (h : Option LaneId) (s : State) : (setHolders zs h s).drives = s.drives := rfl
@[simp] theorem setHolders_loads (zs : ZoneSet) (h : Option LaneId) (s : State) : (setHolders zs h s).loads = s.loads := rfl
@[simp] theorem setHolders_chans (zs : ZoneSet) (h : Option LaneId) (s : State) : (setHolders zs h s).chans = s.chans := rfl
@[simp] theorem setHolders_presence (zs : ZoneSet) (h : Option LaneId) (s : State) : (setHolders zs h s).presence = s.presence := rfl
@[simp] theorem setHolders_vehicle (zs : ZoneSet) (h : Option LaneId) (s : State) : (setHolders zs h s).vehicle = s.vehicle := rfl
@[simp] theorem setHolders_supply (zs : ZoneSet) (h : Option LaneId) (s : State) : (setHolders zs h s).supply = s.supply := rfl
@[simp] theorem setHolders_power (zs : ZoneSet) (h : Option LaneId) (s : State) : (setHolders zs h s).power = s.power := rfl
@[simp] theorem setHolders_request (zs : ZoneSet) (h : Option LaneId) (s : State) : (setHolders zs h s).request = s.request := rfl
@[simp] theorem setHolders_service (zs : ZoneSet) (h : Option LaneId) (s : State) : (setHolders zs h s).service = s.service := rfl
@[simp] theorem setHolders_report (zs : ZoneSet) (h : Option LaneId) (s : State) : (setHolders zs h s).report = s.report := rfl
@[simp] theorem setHolders_tx (zs : ZoneSet) (h : Option LaneId) (s : State) : (setHolders zs h s).tx = s.tx := rfl

/-! `leaveList` -/
@[simp] theorem leaveList_pending (l : LaneId) (s : State) : (leaveList l s).pending = s.pending := rfl
@[simp] theorem leaveList_now (l : LaneId) (s : State) : (leaveList l s).now = s.now := rfl
@[simp] theorem leaveList_startUp (l : LaneId) (s : State) : (leaveList l s).startUp = s.startUp := rfl
@[simp] theorem leaveList_ram (l : LaneId) (s : State) : (leaveList l s).ram = s.ram := rfl
@[simp] theorem leaveList_store (l : LaneId) (s : State) : (leaveList l s).store = s.store := rfl
@[simp] theorem leaveList_checksums (l : LaneId) (s : State) : (leaveList l s).checksums = s.checksums := rfl
@[simp] theorem leaveList_acts (l : LaneId) (s : State) : (leaveList l s).acts = s.acts := rfl
@[simp] theorem leaveList_holders (l : LaneId) (s : State) : (leaveList l s).holders = s.holders := rfl
@[simp] theorem leaveList_lanes (l : LaneId) (s : State) : (leaveList l s).lanes = s.lanes := rfl
@[simp] theorem leaveList_drives (l : LaneId) (s : State) : (leaveList l s).drives = s.drives := rfl
@[simp] theorem leaveList_loads (l : LaneId) (s : State) : (leaveList l s).loads = s.loads := rfl
@[simp] theorem leaveList_chans (l : LaneId) (s : State) : (leaveList l s).chans = s.chans := rfl
@[simp] theorem leaveList_presence (l : LaneId) (s : State) : (leaveList l s).presence = s.presence := rfl
@[simp] theorem leaveList_vehicle (l : LaneId) (s : State) : (leaveList l s).vehicle = s.vehicle := rfl
@[simp] theorem leaveList_supply (l : LaneId) (s : State) : (leaveList l s).supply = s.supply := rfl
@[simp] theorem leaveList_power (l : LaneId) (s : State) : (leaveList l s).power = s.power := rfl
@[simp] theorem leaveList_request (l : LaneId) (s : State) : (leaveList l s).request = s.request := rfl
@[simp] theorem leaveList_service (l : LaneId) (s : State) : (leaveList l s).service = s.service := rfl
@[simp] theorem leaveList_report (l : LaneId) (s : State) : (leaveList l s).report = s.report := rfl
@[simp] theorem leaveList_tx (l : LaneId) (s : State) : (leaveList l s).tx = s.tx := rfl

/-! `expireYield` -/
@[simp] theorem expireYield_pending (l : LaneId) (s : State) : (expireYield l s).pending = s.pending := rfl
@[simp] theorem expireYield_now (l : LaneId) (s : State) : (expireYield l s).now = s.now := rfl
@[simp] theorem expireYield_startUp (l : LaneId) (s : State) : (expireYield l s).startUp = s.startUp := rfl
@[simp] theorem expireYield_ram (l : LaneId) (s : State) : (expireYield l s).ram = s.ram := rfl
@[simp] theorem expireYield_store (l : LaneId) (s : State) : (expireYield l s).store = s.store := rfl
@[simp] theorem expireYield_checksums (l : LaneId) (s : State) : (expireYield l s).checksums = s.checksums := rfl
@[simp] theorem expireYield_acts (l : LaneId) (s : State) : (expireYield l s).acts = s.acts := rfl
@[simp] theorem expireYield_holders (l : LaneId) (s : State) : (expireYield l s).holders = s.holders := rfl
@[simp] theorem expireYield_lanes (l : LaneId) (s : State) : (expireYield l s).lanes = s.lanes := rfl
@[simp] theorem expireYield_drives (l : LaneId) (s : State) : (expireYield l s).drives = s.drives := rfl
@[simp] theorem expireYield_loads (l : LaneId) (s : State) : (expireYield l s).loads = s.loads := rfl
@[simp] theorem expireYield_chans (l : LaneId) (s : State) : (expireYield l s).chans = s.chans := rfl
@[simp] theorem expireYield_presence (l : LaneId) (s : State) : (expireYield l s).presence = s.presence := rfl
@[simp] theorem expireYield_vehicle (l : LaneId) (s : State) : (expireYield l s).vehicle = s.vehicle := rfl
@[simp] theorem expireYield_supply (l : LaneId) (s : State) : (expireYield l s).supply = s.supply := rfl
@[simp] theorem expireYield_power (l : LaneId) (s : State) : (expireYield l s).power = s.power := rfl
@[simp] theorem expireYield_request (l : LaneId) (s : State) : (expireYield l s).request = s.request := rfl
@[simp] theorem expireYield_service (l : LaneId) (s : State) : (expireYield l s).service = s.service := rfl
@[simp] theorem expireYield_report (l : LaneId) (s : State) : (expireYield l s).report = s.report := rfl
@[simp] theorem expireYield_tx (l : LaneId) (s : State) : (expireYield l s).tx = s.tx := rfl

/-! `reportFree` -/
@[simp] theorem reportFree_pending (l : LaneId) (s : State) : (reportFree l s).pending = s.pending := rfl
@[simp] theorem reportFree_now (l : LaneId) (s : State) : (reportFree l s).now = s.now := rfl
@[simp] theorem reportFree_startUp (l : LaneId) (s : State) : (reportFree l s).startUp = s.startUp := rfl
@[simp] theorem reportFree_ram (l : LaneId) (s : State) : (reportFree l s).ram = s.ram := rfl
@[simp] theorem reportFree_store (l : LaneId) (s : State) : (reportFree l s).store = s.store := rfl
@[simp] theorem reportFree_checksums (l : LaneId) (s : State) : (reportFree l s).checksums = s.checksums := rfl
@[simp] theorem reportFree_acts (l : LaneId) (s : State) : (reportFree l s).acts = s.acts := rfl
@[simp] theorem reportFree_holders (l : LaneId) (s : State) : (reportFree l s).holders = s.holders := rfl
@[simp] theorem reportFree_lanes (l : LaneId) (s : State) : (reportFree l s).lanes = s.lanes := rfl
@[simp] theorem reportFree_waitList (l : LaneId) (s : State) : (reportFree l s).waitList = s.waitList := rfl
@[simp] theorem reportFree_drives (l : LaneId) (s : State) : (reportFree l s).drives = s.drives := rfl
@[simp] theorem reportFree_loads (l : LaneId) (s : State) : (reportFree l s).loads = s.loads := rfl
@[simp] theorem reportFree_chans (l : LaneId) (s : State) : (reportFree l s).chans = s.chans := rfl
@[simp] theorem reportFree_presence (l : LaneId) (s : State) : (reportFree l s).presence = s.presence := rfl
@[simp] theorem reportFree_vehicle (l : LaneId) (s : State) : (reportFree l s).vehicle = s.vehicle := rfl
@[simp] theorem reportFree_supply (l : LaneId) (s : State) : (reportFree l s).supply = s.supply := rfl
@[simp] theorem reportFree_power (l : LaneId) (s : State) : (reportFree l s).power = s.power := rfl
@[simp] theorem reportFree_service (l : LaneId) (s : State) : (reportFree l s).service = s.service := rfl
@[simp] theorem reportFree_report (l : LaneId) (s : State) : (reportFree l s).report = s.report := rfl
@[simp] theorem reportFree_tx (l : LaneId) (s : State) : (reportFree l s).tx = s.tx := rfl

/-! `setReady` -/
@[simp] theorem setReady_pending (s : State) : (setReady s).pending = s.pending := rfl
@[simp] theorem setReady_now (s : State) : (setReady s).now = s.now := rfl
@[simp] theorem setReady_ram (s : State) : (setReady s).ram = s.ram := rfl
@[simp] theorem setReady_store (s : State) : (setReady s).store = s.store := rfl
@[simp] theorem setReady_checksums (s : State) : (setReady s).checksums = s.checksums := rfl
@[simp] theorem setReady_acts (s : State) : (setReady s).acts = s.acts := rfl
@[simp] theorem setReady_holders (s : State) : (setReady s).holders = s.holders := rfl
@[simp] theorem setReady_lanes (s : State) : (setReady s).lanes = s.lanes := rfl
@[simp] theorem setReady_waitList (s : State) : (setReady s).waitList = s.waitList := rfl
@[simp] theorem setReady_drives (s : State) : (setReady s).drives = s.drives := rfl
@[simp] theorem setReady_loads (s : State) : (setReady s).loads = s.loads := rfl
@[simp] theorem setReady_chans (s : State) : (setReady s).chans = s.chans := rfl
@[simp] theorem setReady_presence (s : State) : (setReady s).presence = s.presence := rfl
@[simp] theorem setReady_vehicle (s : State) : (setReady s).vehicle = s.vehicle := rfl
@[simp] theorem setReady_supply (s : State) : (setReady s).supply = s.supply := rfl
@[simp] theorem setReady_power (s : State) : (setReady s).power = s.power := rfl
@[simp] theorem setReady_service (s : State) : (setReady s).service = s.service := rfl
@[simp] theorem setReady_report (s : State) : (setReady s).report = s.report := rfl
@[simp] theorem setReady_tx (s : State) : (setReady s).tx = s.tx := rfl

/-! `endService` -/
@[simp] theorem endService_pending (s : State) : (endService s).pending = s.pending := rfl
@[simp] theorem endService_now (s : State) : (endService s).now = s.now := rfl
@[simp] theorem endService_startUp (s : State) : (endService s).startUp = s.startUp := rfl
@[simp] theorem endService_ram (s : State) : (endService s).ram = s.ram := rfl
@[simp] theorem endService_store (s : State) : (endService s).store = s.store := rfl
@[simp] theorem endService_checksums (s : State) : (endService s).checksums = s.checksums := rfl
@[simp] theorem endService_acts (s : State) : (endService s).acts = s.acts := rfl
@[simp] theorem endService_holders (s : State) : (endService s).holders = s.holders := rfl
@[simp] theorem endService_lanes (s : State) : (endService s).lanes = s.lanes := rfl
@[simp] theorem endService_waitList (s : State) : (endService s).waitList = s.waitList := rfl
@[simp] theorem endService_drives (s : State) : (endService s).drives = s.drives := rfl
@[simp] theorem endService_loads (s : State) : (endService s).loads = s.loads := rfl
@[simp] theorem endService_chans (s : State) : (endService s).chans = s.chans := rfl
@[simp] theorem endService_presence (s : State) : (endService s).presence = s.presence := rfl
@[simp] theorem endService_vehicle (s : State) : (endService s).vehicle = s.vehicle := rfl
@[simp] theorem endService_supply (s : State) : (endService s).supply = s.supply := rfl
@[simp] theorem endService_power (s : State) : (endService s).power = s.power := rfl
@[simp] theorem endService_request (s : State) : (endService s).request = s.request := rfl
@[simp] theorem endService_report (s : State) : (endService s).report = s.report := rfl
@[simp] theorem endService_tx (s : State) : (endService s).tx = s.tx := rfl

/-! `beginService` -/
@[simp] theorem beginService_pending (op : SvcOp) (s : State) : (beginService op s).pending = s.pending := rfl
@[simp] theorem beginService_now (op : SvcOp) (s : State) : (beginService op s).now = s.now := rfl
@[simp] theorem beginService_startUp (op : SvcOp) (s : State) : (beginService op s).startUp = s.startUp := rfl
@[simp] theorem beginService_ram (op : SvcOp) (s : State) : (beginService op s).ram = s.ram := rfl
@[simp] theorem beginService_store (op : SvcOp) (s : State) : (beginService op s).store = s.store := rfl
@[simp] theorem beginService_checksums (op : SvcOp) (s : State) : (beginService op s).checksums = s.checksums := rfl
@[simp] theorem beginService_acts (op : SvcOp) (s : State) : (beginService op s).acts = s.acts := rfl
@[simp] theorem beginService_holders (op : SvcOp) (s : State) : (beginService op s).holders = s.holders := rfl
@[simp] theorem beginService_lanes (op : SvcOp) (s : State) : (beginService op s).lanes = s.lanes := rfl
@[simp] theorem beginService_waitList (op : SvcOp) (s : State) : (beginService op s).waitList = s.waitList := rfl
@[simp] theorem beginService_drives (op : SvcOp) (s : State) : (beginService op s).drives = s.drives := rfl
@[simp] theorem beginService_loads (op : SvcOp) (s : State) : (beginService op s).loads = s.loads := rfl
@[simp] theorem beginService_chans (op : SvcOp) (s : State) : (beginService op s).chans = s.chans := rfl
@[simp] theorem beginService_presence (op : SvcOp) (s : State) : (beginService op s).presence = s.presence := rfl
@[simp] theorem beginService_vehicle (op : SvcOp) (s : State) : (beginService op s).vehicle = s.vehicle := rfl
@[simp] theorem beginService_supply (op : SvcOp) (s : State) : (beginService op s).supply = s.supply := rfl
@[simp] theorem beginService_power (op : SvcOp) (s : State) : (beginService op s).power = s.power := rfl
@[simp] theorem beginService_request (op : SvcOp) (s : State) : (beginService op s).request = s.request := rfl
@[simp] theorem beginService_report (op : SvcOp) (s : State) : (beginService op s).report = s.report := rfl
@[simp] theorem beginService_tx (op : SvcOp) (s : State) : (beginService op s).tx = s.tx := rfl

/-! `busTraffic` -/
@[simp] theorem busTraffic_pending (s : State) : (busTraffic s).pending = s.pending := rfl
@[simp] theorem busTraffic_now (s : State) : (busTraffic s).now = s.now := rfl
@[simp] theorem busTraffic_startUp (s : State) : (busTraffic s).startUp = s.startUp := rfl
@[simp] theorem busTraffic_ram (s : State) : (busTraffic s).ram = s.ram := rfl
@[simp] theorem busTraffic_store (s : State) : (busTraffic s).store = s.store := rfl
@[simp] theorem busTraffic_checksums (s : State) : (busTraffic s).checksums = s.checksums := rfl
@[simp] theorem busTraffic_acts (s : State) : (busTraffic s).acts = s.acts := rfl
@[simp] theorem busTraffic_holders (s : State) : (busTraffic s).holders = s.holders := rfl
@[simp] theorem busTraffic_lanes (s : State) : (busTraffic s).lanes = s.lanes := rfl
@[simp] theorem busTraffic_waitList (s : State) : (busTraffic s).waitList = s.waitList := rfl
@[simp] theorem busTraffic_drives (s : State) : (busTraffic s).drives = s.drives := rfl
@[simp] theorem busTraffic_loads (s : State) : (busTraffic s).loads = s.loads := rfl
@[simp] theorem busTraffic_chans (s : State) : (busTraffic s).chans = s.chans := rfl
@[simp] theorem busTraffic_presence (s : State) : (busTraffic s).presence = s.presence := rfl
@[simp] theorem busTraffic_vehicle (s : State) : (busTraffic s).vehicle = s.vehicle := rfl
@[simp] theorem busTraffic_supply (s : State) : (busTraffic s).supply = s.supply := rfl
@[simp] theorem busTraffic_request (s : State) : (busTraffic s).request = s.request := rfl
@[simp] theorem busTraffic_service (s : State) : (busTraffic s).service = s.service := rfl
@[simp] theorem busTraffic_report (s : State) : (busTraffic s).report = s.report := rfl
@[simp] theorem busTraffic_tx (s : State) : (busTraffic s).tx = s.tx := rfl

/-! `serviceReply` -/
@[simp] theorem serviceReply_pending (op tag : Byte) (v : Verdict) (absent : Bool) (value : BitVec 16) (s : State) : (serviceReply op tag v absent value s).pending = s.pending := rfl
@[simp] theorem serviceReply_now (op tag : Byte) (v : Verdict) (absent : Bool) (value : BitVec 16) (s : State) : (serviceReply op tag v absent value s).now = s.now := rfl
@[simp] theorem serviceReply_startUp (op tag : Byte) (v : Verdict) (absent : Bool) (value : BitVec 16) (s : State) : (serviceReply op tag v absent value s).startUp = s.startUp := rfl
@[simp] theorem serviceReply_ram (op tag : Byte) (v : Verdict) (absent : Bool) (value : BitVec 16) (s : State) : (serviceReply op tag v absent value s).ram = s.ram := rfl
@[simp] theorem serviceReply_store (op tag : Byte) (v : Verdict) (absent : Bool) (value : BitVec 16) (s : State) : (serviceReply op tag v absent value s).store = s.store := rfl
@[simp] theorem serviceReply_checksums (op tag : Byte) (v : Verdict) (absent : Bool) (value : BitVec 16) (s : State) : (serviceReply op tag v absent value s).checksums = s.checksums := rfl
@[simp] theorem serviceReply_acts (op tag : Byte) (v : Verdict) (absent : Bool) (value : BitVec 16) (s : State) : (serviceReply op tag v absent value s).acts = s.acts := rfl
@[simp] theorem serviceReply_holders (op tag : Byte) (v : Verdict) (absent : Bool) (value : BitVec 16) (s : State) : (serviceReply op tag v absent value s).holders = s.holders := rfl
@[simp] theorem serviceReply_lanes (op tag : Byte) (v : Verdict) (absent : Bool) (value : BitVec 16) (s : State) : (serviceReply op tag v absent value s).lanes = s.lanes := rfl
@[simp] theorem serviceReply_waitList (op tag : Byte) (v : Verdict) (absent : Bool) (value : BitVec 16) (s : State) : (serviceReply op tag v absent value s).waitList = s.waitList := rfl
@[simp] theorem serviceReply_drives (op tag : Byte) (v : Verdict) (absent : Bool) (value : BitVec 16) (s : State) : (serviceReply op tag v absent value s).drives = s.drives := rfl
@[simp] theorem serviceReply_loads (op tag : Byte) (v : Verdict) (absent : Bool) (value : BitVec 16) (s : State) : (serviceReply op tag v absent value s).loads = s.loads := rfl
@[simp] theorem serviceReply_chans (op tag : Byte) (v : Verdict) (absent : Bool) (value : BitVec 16) (s : State) : (serviceReply op tag v absent value s).chans = s.chans := rfl
@[simp] theorem serviceReply_presence (op tag : Byte) (v : Verdict) (absent : Bool) (value : BitVec 16) (s : State) : (serviceReply op tag v absent value s).presence = s.presence := rfl
@[simp] theorem serviceReply_vehicle (op tag : Byte) (v : Verdict) (absent : Bool) (value : BitVec 16) (s : State) : (serviceReply op tag v absent value s).vehicle = s.vehicle := rfl
@[simp] theorem serviceReply_supply (op tag : Byte) (v : Verdict) (absent : Bool) (value : BitVec 16) (s : State) : (serviceReply op tag v absent value s).supply = s.supply := rfl
@[simp] theorem serviceReply_power (op tag : Byte) (v : Verdict) (absent : Bool) (value : BitVec 16) (s : State) : (serviceReply op tag v absent value s).power = s.power := rfl
@[simp] theorem serviceReply_request (op tag : Byte) (v : Verdict) (absent : Bool) (value : BitVec 16) (s : State) : (serviceReply op tag v absent value s).request = s.request := rfl
@[simp] theorem serviceReply_service (op tag : Byte) (v : Verdict) (absent : Bool) (value : BitVec 16) (s : State) : (serviceReply op tag v absent value s).service = s.service := rfl
@[simp] theorem serviceReply_report (op tag : Byte) (v : Verdict) (absent : Bool) (value : BitVec 16) (s : State) : (serviceReply op tag v absent value s).report = s.report := rfl

/-! `serviceAnswer` -/
@[simp] theorem serviceAnswer_pending (op tag : Byte) (v : Verdict) (s : State) : (serviceAnswer op tag v s).pending = s.pending := rfl
@[simp] theorem serviceAnswer_now (op tag : Byte) (v : Verdict) (s : State) : (serviceAnswer op tag v s).now = s.now := rfl
@[simp] theorem serviceAnswer_startUp (op tag : Byte) (v : Verdict) (s : State) : (serviceAnswer op tag v s).startUp = s.startUp := rfl
@[simp] theorem serviceAnswer_ram (op tag : Byte) (v : Verdict) (s : State) : (serviceAnswer op tag v s).ram = s.ram := rfl
@[simp] theorem serviceAnswer_store (op tag : Byte) (v : Verdict) (s : State) : (serviceAnswer op tag v s).store = s.store := rfl
@[simp] theorem serviceAnswer_checksums (op tag : Byte) (v : Verdict) (s : State) : (serviceAnswer op tag v s).checksums = s.checksums := rfl
@[simp] theorem serviceAnswer_acts (op tag : Byte) (v : Verdict) (s : State) : (serviceAnswer op tag v s).acts = s.acts := rfl
@[simp] theorem serviceAnswer_holders (op tag : Byte) (v : Verdict) (s : State) : (serviceAnswer op tag v s).holders = s.holders := rfl
@[simp] theorem serviceAnswer_lanes (op tag : Byte) (v : Verdict) (s : State) : (serviceAnswer op tag v s).lanes = s.lanes := rfl
@[simp] theorem serviceAnswer_waitList (op tag : Byte) (v : Verdict) (s : State) : (serviceAnswer op tag v s).waitList = s.waitList := rfl
@[simp] theorem serviceAnswer_drives (op tag : Byte) (v : Verdict) (s : State) : (serviceAnswer op tag v s).drives = s.drives := rfl
@[simp] theorem serviceAnswer_loads (op tag : Byte) (v : Verdict) (s : State) : (serviceAnswer op tag v s).loads = s.loads := rfl
@[simp] theorem serviceAnswer_chans (op tag : Byte) (v : Verdict) (s : State) : (serviceAnswer op tag v s).chans = s.chans := rfl
@[simp] theorem serviceAnswer_presence (op tag : Byte) (v : Verdict) (s : State) : (serviceAnswer op tag v s).presence = s.presence := rfl
@[simp] theorem serviceAnswer_vehicle (op tag : Byte) (v : Verdict) (s : State) : (serviceAnswer op tag v s).vehicle = s.vehicle := rfl
@[simp] theorem serviceAnswer_supply (op tag : Byte) (v : Verdict) (s : State) : (serviceAnswer op tag v s).supply = s.supply := rfl
@[simp] theorem serviceAnswer_power (op tag : Byte) (v : Verdict) (s : State) : (serviceAnswer op tag v s).power = s.power := rfl
@[simp] theorem serviceAnswer_request (op tag : Byte) (v : Verdict) (s : State) : (serviceAnswer op tag v s).request = s.request := rfl
@[simp] theorem serviceAnswer_service (op tag : Byte) (v : Verdict) (s : State) : (serviceAnswer op tag v s).service = s.service := rfl
@[simp] theorem serviceAnswer_report (op tag : Byte) (v : Verdict) (s : State) : (serviceAnswer op tag v s).report = s.report := rfl

/-! `sendFrame` -/
@[simp] theorem sendFrame_pending (p : Place) (f : Frame) (s : State) : (sendFrame p f s).pending = s.pending := rfl
@[simp] theorem sendFrame_now (p : Place) (f : Frame) (s : State) : (sendFrame p f s).now = s.now := rfl
@[simp] theorem sendFrame_startUp (p : Place) (f : Frame) (s : State) : (sendFrame p f s).startUp = s.startUp := rfl
@[simp] theorem sendFrame_ram (p : Place) (f : Frame) (s : State) : (sendFrame p f s).ram = s.ram := rfl
@[simp] theorem sendFrame_store (p : Place) (f : Frame) (s : State) : (sendFrame p f s).store = s.store := rfl
@[simp] theorem sendFrame_checksums (p : Place) (f : Frame) (s : State) : (sendFrame p f s).checksums = s.checksums := rfl
@[simp] theorem sendFrame_acts (p : Place) (f : Frame) (s : State) : (sendFrame p f s).acts = s.acts := rfl
@[simp] theorem sendFrame_holders (p : Place) (f : Frame) (s : State) : (sendFrame p f s).holders = s.holders := rfl
@[simp] theorem sendFrame_lanes (p : Place) (f : Frame) (s : State) : (sendFrame p f s).lanes = s.lanes := rfl
@[simp] theorem sendFrame_waitList (p : Place) (f : Frame) (s : State) : (sendFrame p f s).waitList = s.waitList := rfl
@[simp] theorem sendFrame_drives (p : Place) (f : Frame) (s : State) : (sendFrame p f s).drives = s.drives := rfl
@[simp] theorem sendFrame_loads (p : Place) (f : Frame) (s : State) : (sendFrame p f s).loads = s.loads := rfl
@[simp] theorem sendFrame_chans (p : Place) (f : Frame) (s : State) : (sendFrame p f s).chans = s.chans := rfl
@[simp] theorem sendFrame_presence (p : Place) (f : Frame) (s : State) : (sendFrame p f s).presence = s.presence := rfl
@[simp] theorem sendFrame_vehicle (p : Place) (f : Frame) (s : State) : (sendFrame p f s).vehicle = s.vehicle := rfl
@[simp] theorem sendFrame_supply (p : Place) (f : Frame) (s : State) : (sendFrame p f s).supply = s.supply := rfl
@[simp] theorem sendFrame_power (p : Place) (f : Frame) (s : State) : (sendFrame p f s).power = s.power := rfl
@[simp] theorem sendFrame_request (p : Place) (f : Frame) (s : State) : (sendFrame p f s).request = s.request := rfl
@[simp] theorem sendFrame_service (p : Place) (f : Frame) (s : State) : (sendFrame p f s).service = s.service := rfl
@[simp] theorem sendFrame_report (p : Place) (f : Frame) (s : State) : (sendFrame p f s).report = s.report := rfl

/-! `sendLane` -/
@[simp] theorem sendLane_pending (l : LaneId) (s : State) : (sendLane s l).pending = s.pending := rfl
@[simp] theorem sendLane_now (l : LaneId) (s : State) : (sendLane s l).now = s.now := rfl
@[simp] theorem sendLane_startUp (l : LaneId) (s : State) : (sendLane s l).startUp = s.startUp := rfl
@[simp] theorem sendLane_ram (l : LaneId) (s : State) : (sendLane s l).ram = s.ram := rfl
@[simp] theorem sendLane_store (l : LaneId) (s : State) : (sendLane s l).store = s.store := rfl
@[simp] theorem sendLane_checksums (l : LaneId) (s : State) : (sendLane s l).checksums = s.checksums := rfl
@[simp] theorem sendLane_acts (l : LaneId) (s : State) : (sendLane s l).acts = s.acts := rfl
@[simp] theorem sendLane_holders (l : LaneId) (s : State) : (sendLane s l).holders = s.holders := rfl
@[simp] theorem sendLane_lanes (l : LaneId) (s : State) : (sendLane s l).lanes = s.lanes := rfl
@[simp] theorem sendLane_waitList (l : LaneId) (s : State) : (sendLane s l).waitList = s.waitList := rfl
@[simp] theorem sendLane_drives (l : LaneId) (s : State) : (sendLane s l).drives = s.drives := rfl
@[simp] theorem sendLane_loads (l : LaneId) (s : State) : (sendLane s l).loads = s.loads := rfl
@[simp] theorem sendLane_chans (l : LaneId) (s : State) : (sendLane s l).chans = s.chans := rfl
@[simp] theorem sendLane_presence (l : LaneId) (s : State) : (sendLane s l).presence = s.presence := rfl
@[simp] theorem sendLane_vehicle (l : LaneId) (s : State) : (sendLane s l).vehicle = s.vehicle := rfl
@[simp] theorem sendLane_supply (l : LaneId) (s : State) : (sendLane s l).supply = s.supply := rfl
@[simp] theorem sendLane_power (l : LaneId) (s : State) : (sendLane s l).power = s.power := rfl
@[simp] theorem sendLane_request (l : LaneId) (s : State) : (sendLane s l).request = s.request := rfl
@[simp] theorem sendLane_service (l : LaneId) (s : State) : (sendLane s l).service = s.service := rfl
@[simp] theorem sendLane_report (l : LaneId) (s : State) : (sendLane s l).report = s.report := rfl

/-! `sleepEntry` -/
@[simp] theorem sleepEntry_pending (s : State) : (sleepEntry s).pending = s.pending := rfl
@[simp] theorem sleepEntry_now (s : State) : (sleepEntry s).now = s.now := rfl
@[simp] theorem sleepEntry_startUp (s : State) : (sleepEntry s).startUp = s.startUp := rfl
@[simp] theorem sleepEntry_ram (s : State) : (sleepEntry s).ram = s.ram := rfl
@[simp] theorem sleepEntry_store (s : State) : (sleepEntry s).store = s.store := rfl
@[simp] theorem sleepEntry_checksums (s : State) : (sleepEntry s).checksums = s.checksums := rfl
@[simp] theorem sleepEntry_acts (s : State) : (sleepEntry s).acts = s.acts := rfl
@[simp] theorem sleepEntry_holders (s : State) : (sleepEntry s).holders = s.holders := rfl
@[simp] theorem sleepEntry_lanes (s : State) : (sleepEntry s).lanes = s.lanes := rfl
@[simp] theorem sleepEntry_waitList (s : State) : (sleepEntry s).waitList = s.waitList := rfl
@[simp] theorem sleepEntry_drives (s : State) : (sleepEntry s).drives = s.drives := rfl
@[simp] theorem sleepEntry_loads (s : State) : (sleepEntry s).loads = s.loads := rfl
@[simp] theorem sleepEntry_request (s : State) : (sleepEntry s).request = s.request := rfl
@[simp] theorem sleepEntry_service (s : State) : (sleepEntry s).service = s.service := rfl

/-! `restartValues` -/
@[simp] theorem restartValues_pending (s : State) : (restartValues s).pending = s.pending := rfl
@[simp] theorem restartValues_startUp (s : State) : (restartValues s).startUp = s.startUp := rfl
@[simp] theorem restartValues_ram (s : State) : (restartValues s).ram = s.ram := rfl
@[simp] theorem restartValues_store (s : State) : (restartValues s).store = s.store := rfl
@[simp] theorem restartValues_checksums (s : State) : (restartValues s).checksums = s.checksums := rfl

/-! `passTime` -/
@[simp] theorem passTime_pending (ms : Nat) (s : State) : (passTime ms s).pending = s.pending := rfl
@[simp] theorem passTime_startUp (ms : Nat) (s : State) : (passTime ms s).startUp = s.startUp := rfl
@[simp] theorem passTime_ram (ms : Nat) (s : State) : (passTime ms s).ram = s.ram := rfl
@[simp] theorem passTime_store (ms : Nat) (s : State) : (passTime ms s).store = s.store := rfl
@[simp] theorem passTime_checksums (ms : Nat) (s : State) : (passTime ms s).checksums = s.checksums := rfl
@[simp] theorem passTime_holders (ms : Nat) (s : State) : (passTime ms s).holders = s.holders := rfl
@[simp] theorem passTime_loads (ms : Nat) (s : State) : (passTime ms s).loads = s.loads := rfl
@[simp] theorem passTime_request (ms : Nat) (s : State) : (passTime ms s).request = s.request := rfl
@[simp] theorem passTime_tx (ms : Nat) (s : State) : (passTime ms s).tx = s.tx := rfl

/-! `markIf` -/
@[simp] theorem markIf_pending (b : Bool) (f : Flag) (s : State) : (markIf b f s).pending = s.pending :=
  by unfold markIf; split <;> rfl
@[simp] theorem markIf_now (b : Bool) (f : Flag) (s : State) : (markIf b f s).now = s.now :=
  by unfold markIf; split <;> rfl
@[simp] theorem markIf_startUp (b : Bool) (f : Flag) (s : State) : (markIf b f s).startUp = s.startUp :=
  by unfold markIf; split <;> rfl
@[simp] theorem markIf_ram (b : Bool) (f : Flag) (s : State) : (markIf b f s).ram = s.ram :=
  by unfold markIf; split <;> rfl
@[simp] theorem markIf_store (b : Bool) (f : Flag) (s : State) : (markIf b f s).store = s.store :=
  by unfold markIf; split <;> rfl
@[simp] theorem markIf_checksums (b : Bool) (f : Flag) (s : State) : (markIf b f s).checksums = s.checksums :=
  by unfold markIf; split <;> rfl
@[simp] theorem markIf_acts (b : Bool) (f : Flag) (s : State) : (markIf b f s).acts = s.acts :=
  by unfold markIf; split <;> rfl
@[simp] theorem markIf_holders (b : Bool) (f : Flag) (s : State) : (markIf b f s).holders = s.holders :=
  by unfold markIf; split <;> rfl
@[simp] theorem markIf_lanes (b : Bool) (f : Flag) (s : State) : (markIf b f s).lanes = s.lanes :=
  by unfold markIf; split <;> rfl
@[simp] theorem markIf_waitList (b : Bool) (f : Flag) (s : State) : (markIf b f s).waitList = s.waitList :=
  by unfold markIf; split <;> rfl
@[simp] theorem markIf_drives (b : Bool) (f : Flag) (s : State) : (markIf b f s).drives = s.drives :=
  by unfold markIf; split <;> rfl
@[simp] theorem markIf_loads (b : Bool) (f : Flag) (s : State) : (markIf b f s).loads = s.loads :=
  by unfold markIf; split <;> rfl
@[simp] theorem markIf_chans (b : Bool) (f : Flag) (s : State) : (markIf b f s).chans = s.chans :=
  by unfold markIf; split <;> rfl
@[simp] theorem markIf_presence (b : Bool) (f : Flag) (s : State) : (markIf b f s).presence = s.presence :=
  by unfold markIf; split <;> rfl
@[simp] theorem markIf_vehicle (b : Bool) (f : Flag) (s : State) : (markIf b f s).vehicle = s.vehicle :=
  by unfold markIf; split <;> rfl
@[simp] theorem markIf_supply (b : Bool) (f : Flag) (s : State) : (markIf b f s).supply = s.supply :=
  by unfold markIf; split <;> rfl
@[simp] theorem markIf_power (b : Bool) (f : Flag) (s : State) : (markIf b f s).power = s.power :=
  by unfold markIf; split <;> rfl
@[simp] theorem markIf_request (b : Bool) (f : Flag) (s : State) : (markIf b f s).request = s.request :=
  by unfold markIf; split <;> rfl
@[simp] theorem markIf_service (b : Bool) (f : Flag) (s : State) : (markIf b f s).service = s.service :=
  by unfold markIf; split <;> rfl
@[simp] theorem markIf_tx (b : Bool) (f : Flag) (s : State) : (markIf b f s).tx = s.tx :=
  by unfold markIf; split <;> rfl

/-! `followIdle` -/
@[simp] theorem followIdle_pending (b : Bool) (s : State) : (followIdle b s).pending = s.pending :=
  by unfold followIdle; split; rfl; split <;> rfl
@[simp] theorem followIdle_now (b : Bool) (s : State) : (followIdle b s).now = s.now :=
  by unfold followIdle; split; rfl; split <;> rfl
@[simp] theorem followIdle_startUp (b : Bool) (s : State) : (followIdle b s).startUp = s.startUp :=
  by unfold followIdle; split; rfl; split <;> rfl
@[simp] theorem followIdle_ram (b : Bool) (s : State) : (followIdle b s).ram = s.ram :=
  by unfold followIdle; split; rfl; split <;> rfl
@[simp] theorem followIdle_store (b : Bool) (s : State) : (followIdle b s).store = s.store :=
  by unfold followIdle; split; rfl; split <;> rfl
@[simp] theorem followIdle_checksums (b : Bool) (s : State) : (followIdle b s).checksums = s.checksums :=
  by unfold followIdle; split; rfl; split <;> rfl
@[simp] theorem followIdle_acts (b : Bool) (s : State) : (followIdle b s).acts = s.acts :=
  by unfold followIdle; split; rfl; split <;> rfl
@[simp] theorem followIdle_holders (b : Bool) (s : State) : (followIdle b s).holders = s.holders :=
  by unfold followIdle; split; rfl; split <;> rfl
@[simp] theorem followIdle_lanes (b : Bool) (s : State) : (followIdle b s).lanes = s.lanes :=
  by unfold followIdle; split; rfl; split <;> rfl
@[simp] theorem followIdle_waitList (b : Bool) (s : State) : (followIdle b s).waitList = s.waitList :=
  by unfold followIdle; split; rfl; split <;> rfl
@[simp] theorem followIdle_drives (b : Bool) (s : State) : (followIdle b s).drives = s.drives :=
  by unfold followIdle; split; rfl; split <;> rfl
@[simp] theorem followIdle_loads (b : Bool) (s : State) : (followIdle b s).loads = s.loads :=
  by unfold followIdle; split; rfl; split <;> rfl
@[simp] theorem followIdle_chans (b : Bool) (s : State) : (followIdle b s).chans = s.chans :=
  by unfold followIdle; split; rfl; split <;> rfl
@[simp] theorem followIdle_presence (b : Bool) (s : State) : (followIdle b s).presence = s.presence :=
  by unfold followIdle; split; rfl; split <;> rfl
@[simp] theorem followIdle_vehicle (b : Bool) (s : State) : (followIdle b s).vehicle = s.vehicle :=
  by unfold followIdle; split; rfl; split <;> rfl
@[simp] theorem followIdle_supply (b : Bool) (s : State) : (followIdle b s).supply = s.supply :=
  by unfold followIdle; split; rfl; split <;> rfl
@[simp] theorem followIdle_request (b : Bool) (s : State) : (followIdle b s).request = s.request :=
  by unfold followIdle; split; rfl; split <;> rfl
@[simp] theorem followIdle_service (b : Bool) (s : State) : (followIdle b s).service = s.service :=
  by unfold followIdle; split; rfl; split <;> rfl
@[simp] theorem followIdle_report (b : Bool) (s : State) : (followIdle b s).report = s.report :=
  by unfold followIdle; split; rfl; split <;> rfl
@[simp] theorem followIdle_tx (b : Bool) (s : State) : (followIdle b s).tx = s.tx :=
  by unfold followIdle; split; rfl; split <;> rfl

/-! `updAct` -/
@[simp] theorem updAct_pending (a : ActId) (f : ActRun → ActRun) (s : State) : (updAct a f s).pending = s.pending :=
  by simp [updAct]
@[simp] theorem updAct_now (a : ActId) (f : ActRun → ActRun) (s : State) : (updAct a f s).now = s.now :=
  by simp [updAct]
@[simp] theorem updAct_startUp (a : ActId) (f : ActRun → ActRun) (s : State) : (updAct a f s).startUp = s.startUp :=
  by simp [updAct]
@[simp] theorem updAct_ram (a : ActId) (f : ActRun → ActRun) (s : State) : (updAct a f s).ram = s.ram :=
  by simp [updAct]
@[simp] theorem updAct_store (a : ActId) (f : ActRun → ActRun) (s : State) : (updAct a f s).store = s.store :=
  by simp [updAct]
@[simp] theorem updAct_checksums (a : ActId) (f : ActRun → ActRun) (s : State) :
    (updAct a f s).checksums = s.checksums :=
  by simp [updAct]
@[simp] theorem updAct_holders (a : ActId) (f : ActRun → ActRun) (s : State) : (updAct a f s).holders = s.holders :=
  by simp [updAct]
@[simp] theorem updAct_lanes (a : ActId) (f : ActRun → ActRun) (s : State) : (updAct a f s).lanes = s.lanes :=
  by simp [updAct]
@[simp] theorem updAct_waitList (a : ActId) (f : ActRun → ActRun) (s : State) :
    (updAct a f s).waitList = s.waitList :=
  by simp [updAct]
@[simp] theorem updAct_drives (a : ActId) (f : ActRun → ActRun) (s : State) : (updAct a f s).drives = s.drives :=
  by simp [updAct]
@[simp] theorem updAct_loads (a : ActId) (f : ActRun → ActRun) (s : State) : (updAct a f s).loads = s.loads :=
  by simp [updAct]
@[simp] theorem updAct_chans (a : ActId) (f : ActRun → ActRun) (s : State) : (updAct a f s).chans = s.chans :=
  by simp [updAct]
@[simp] theorem updAct_presence (a : ActId) (f : ActRun → ActRun) (s : State) :
    (updAct a f s).presence = s.presence :=
  by simp [updAct]
@[simp] theorem updAct_vehicle (a : ActId) (f : ActRun → ActRun) (s : State) : (updAct a f s).vehicle = s.vehicle :=
  by simp [updAct]
@[simp] theorem updAct_supply (a : ActId) (f : ActRun → ActRun) (s : State) : (updAct a f s).supply = s.supply :=
  by simp [updAct]
@[simp] theorem updAct_power (a : ActId) (f : ActRun → ActRun) (s : State) : (updAct a f s).power = s.power :=
  by simp [updAct]
@[simp] theorem updAct_request (a : ActId) (f : ActRun → ActRun) (s : State) : (updAct a f s).request = s.request :=
  by simp [updAct]
@[simp] theorem updAct_service (a : ActId) (f : ActRun → ActRun) (s : State) : (updAct a f s).service = s.service :=
  by simp [updAct]
@[simp] theorem updAct_tx (a : ActId) (f : ActRun → ActRun) (s : State) : (updAct a f s).tx = s.tx := by simp [updAct]

/-! `driveStop` -/
@[simp] theorem driveStop_pending (a : ActId) (s : State) : (driveStop a s).pending = s.pending := by simp [driveStop]
@[simp] theorem driveStop_now (a : ActId) (s : State) : (driveStop a s).now = s.now := by simp [driveStop]
@[simp] theorem driveStop_startUp (a : ActId) (s : State) : (driveStop a s).startUp = s.startUp := by simp [driveStop]
@[simp] theorem driveStop_ram (a : ActId) (s : State) : (driveStop a s).ram = s.ram := by simp [driveStop]
@[simp] theorem driveStop_store (a : ActId) (s : State) : (driveStop a s).store = s.store := by simp [driveStop]
@[simp] theorem driveStop_checksums (a : ActId) (s : State) : (driveStop a s).checksums = s.checksums :=
  by simp [driveStop]
@[simp] theorem driveStop_holders (a : ActId) (s : State) : (driveStop a s).holders = s.holders := by simp [driveStop]
@[simp] theorem driveStop_lanes (a : ActId) (s : State) : (driveStop a s).lanes = s.lanes := by simp [driveStop]
@[simp] theorem driveStop_waitList (a : ActId) (s : State) : (driveStop a s).waitList = s.waitList :=
  by simp [driveStop]
@[simp] theorem driveStop_drives (a : ActId) (s : State) : (driveStop a s).drives = s.drives := by simp [driveStop]
@[simp] theorem driveStop_loads (a : ActId) (s : State) : (driveStop a s).loads = s.loads := by simp [driveStop]
@[simp] theorem driveStop_chans (a : ActId) (s : State) : (driveStop a s).chans = s.chans := by simp [driveStop]
@[simp] theorem driveStop_presence (a : ActId) (s : State) : (driveStop a s).presence = s.presence :=
  by simp [driveStop]
@[simp] theorem driveStop_vehicle (a : ActId) (s : State) : (driveStop a s).vehicle = s.vehicle := by simp [driveStop]
@[simp] theorem driveStop_supply (a : ActId) (s : State) : (driveStop a s).supply = s.supply := by simp [driveStop]
@[simp] theorem driveStop_power (a : ActId) (s : State) : (driveStop a s).power = s.power := by simp [driveStop]
@[simp] theorem driveStop_request (a : ActId) (s : State) : (driveStop a s).request = s.request := by simp [driveStop]
@[simp] theorem driveStop_service (a : ActId) (s : State) : (driveStop a s).service = s.service := by simp [driveStop]
@[simp] theorem driveStop_tx (a : ActId) (s : State) : (driveStop a s).tx = s.tx := by simp [driveStop]

/-! `updLane` -/
@[simp] theorem updLane_pending (l : LaneId) (f : Lane → Lane) (s : State) : (updLane l f s).pending = s.pending :=
  by simp [updLane]
@[simp] theorem updLane_now (l : LaneId) (f : Lane → Lane) (s : State) : (updLane l f s).now = s.now :=
  by simp [updLane]
@[simp] theorem updLane_startUp (l : LaneId) (f : Lane → Lane) (s : State) : (updLane l f s).startUp = s.startUp :=
  by simp [updLane]
@[simp] theorem updLane_ram (l : LaneId) (f : Lane → Lane) (s : State) : (updLane l f s).ram = s.ram :=
  by simp [updLane]
@[simp] theorem updLane_store (l : LaneId) (f : Lane → Lane) (s : State) : (updLane l f s).store = s.store :=
  by simp [updLane]
@[simp] theorem updLane_checksums (l : LaneId) (f : Lane → Lane) (s : State) :
    (updLane l f s).checksums = s.checksums :=
  by simp [updLane]
@[simp] theorem updLane_acts (l : LaneId) (f : Lane → Lane) (s : State) : (updLane l f s).acts = s.acts :=
  by simp [updLane]
@[simp] theorem updLane_holders (l : LaneId) (f : Lane → Lane) (s : State) : (updLane l f s).holders = s.holders :=
  by simp [updLane]
@[simp] theorem updLane_waitList (l : LaneId) (f : Lane → Lane) (s : State) : (updLane l f s).waitList = s.waitList :=
  by simp [updLane]
@[simp] theorem updLane_drives (l : LaneId) (f : Lane → Lane) (s : State) : (updLane l f s).drives = s.drives :=
  by simp [updLane]
@[simp] theorem updLane_loads (l : LaneId) (f : Lane → Lane) (s : State) : (updLane l f s).loads = s.loads :=
  by simp [updLane]
@[simp] theorem updLane_chans (l : LaneId) (f : Lane → Lane) (s : State) : (updLane l f s).chans = s.chans :=
  by simp [updLane]
@[simp] theorem updLane_presence (l : LaneId) (f : Lane → Lane) (s : State) : (updLane l f s).presence = s.presence :=
  by simp [updLane]
@[simp] theorem updLane_vehicle (l : LaneId) (f : Lane → Lane) (s : State) : (updLane l f s).vehicle = s.vehicle :=
  by simp [updLane]
@[simp] theorem updLane_supply (l : LaneId) (f : Lane → Lane) (s : State) : (updLane l f s).supply = s.supply :=
  by simp [updLane]
@[simp] theorem updLane_request (l : LaneId) (f : Lane → Lane) (s : State) : (updLane l f s).request = s.request :=
  by simp [updLane]
@[simp] theorem updLane_service (l : LaneId) (f : Lane → Lane) (s : State) : (updLane l f s).service = s.service :=
  by simp [updLane]
@[simp] theorem updLane_tx (l : LaneId) (f : Lane → Lane) (s : State) : (updLane l f s).tx = s.tx := by simp [updLane]

/-! `note` -/
@[simp] theorem note_pending (l : LaneId) (i : BitVec 7) (s : State) : (note l i s).pending = s.pending :=
  by simp [note]
@[simp] theorem note_now (l : LaneId) (i : BitVec 7) (s : State) : (note l i s).now = s.now := by simp [note]
@[simp] theorem note_startUp (l : LaneId) (i : BitVec 7) (s : State) : (note l i s).startUp = s.startUp :=
  by simp [note]
@[simp] theorem note_ram (l : LaneId) (i : BitVec 7) (s : State) : (note l i s).ram = s.ram := by simp [note]
@[simp] theorem note_store (l : LaneId) (i : BitVec 7) (s : State) : (note l i s).store = s.store := by simp [note]
@[simp] theorem note_checksums (l : LaneId) (i : BitVec 7) (s : State) : (note l i s).checksums = s.checksums :=
  by simp [note]
@[simp] theorem note_acts (l : LaneId) (i : BitVec 7) (s : State) : (note l i s).acts = s.acts := by simp [note]
@[simp] theorem note_holders (l : LaneId) (i : BitVec 7) (s : State) : (note l i s).holders = s.holders :=
  by simp [note]
@[simp] theorem note_waitList (l : LaneId) (i : BitVec 7) (s : State) : (note l i s).waitList = s.waitList :=
  by simp [note]
@[simp] theorem note_drives (l : LaneId) (i : BitVec 7) (s : State) : (note l i s).drives = s.drives := by simp [note]
@[simp] theorem note_loads (l : LaneId) (i : BitVec 7) (s : State) : (note l i s).loads = s.loads := by simp [note]
@[simp] theorem note_chans (l : LaneId) (i : BitVec 7) (s : State) : (note l i s).chans = s.chans := by simp [note]
@[simp] theorem note_presence (l : LaneId) (i : BitVec 7) (s : State) : (note l i s).presence = s.presence :=
  by simp [note]
@[simp] theorem note_vehicle (l : LaneId) (i : BitVec 7) (s : State) : (note l i s).vehicle = s.vehicle :=
  by simp [note]
@[simp] theorem note_supply (l : LaneId) (i : BitVec 7) (s : State) : (note l i s).supply = s.supply := by simp [note]
@[simp] theorem note_request (l : LaneId) (i : BitVec 7) (s : State) : (note l i s).request = s.request :=
  by simp [note]
@[simp] theorem note_service (l : LaneId) (i : BitVec 7) (s : State) : (note l i s).service = s.service :=
  by simp [note]
@[simp] theorem note_tx (l : LaneId) (i : BitVec 7) (s : State) : (note l i s).tx = s.tx := by simp [note]

/-! `updCtx` -/
@[simp] theorem updCtx_pending (l : LaneId) (f : StepCtx → StepCtx) (s : State) :
    (updCtx l f s).pending = s.pending :=
  by simp [updCtx]
@[simp] theorem updCtx_now (l : LaneId) (f : StepCtx → StepCtx) (s : State) : (updCtx l f s).now = s.now :=
  by simp [updCtx]
@[simp] theorem updCtx_startUp (l : LaneId) (f : StepCtx → StepCtx) (s : State) :
    (updCtx l f s).startUp = s.startUp :=
  by simp [updCtx]
@[simp] theorem updCtx_ram (l : LaneId) (f : StepCtx → StepCtx) (s : State) : (updCtx l f s).ram = s.ram :=
  by simp [updCtx]
@[simp] theorem updCtx_store (l : LaneId) (f : StepCtx → StepCtx) (s : State) : (updCtx l f s).store = s.store :=
  by simp [updCtx]
@[simp] theorem updCtx_checksums (l : LaneId) (f : StepCtx → StepCtx) (s : State) :
    (updCtx l f s).checksums = s.checksums :=
  by simp [updCtx]
@[simp] theorem updCtx_acts (l : LaneId) (f : StepCtx → StepCtx) (s : State) : (updCtx l f s).acts = s.acts :=
  by simp [updCtx]
@[simp] theorem updCtx_holders (l : LaneId) (f : StepCtx → StepCtx) (s : State) :
    (updCtx l f s).holders = s.holders :=
  by simp [updCtx]
@[simp] theorem updCtx_waitList (l : LaneId) (f : StepCtx → StepCtx) (s : State) :
    (updCtx l f s).waitList = s.waitList :=
  by simp [updCtx]
@[simp] theorem updCtx_drives (l : LaneId) (f : StepCtx → StepCtx) (s : State) : (updCtx l f s).drives = s.drives :=
  by simp [updCtx]
@[simp] theorem updCtx_loads (l : LaneId) (f : StepCtx → StepCtx) (s : State) : (updCtx l f s).loads = s.loads :=
  by simp [updCtx]
@[simp] theorem updCtx_chans (l : LaneId) (f : StepCtx → StepCtx) (s : State) : (updCtx l f s).chans = s.chans :=
  by simp [updCtx]
@[simp] theorem updCtx_presence (l : LaneId) (f : StepCtx → StepCtx) (s : State) :
    (updCtx l f s).presence = s.presence :=
  by simp [updCtx]
@[simp] theorem updCtx_vehicle (l : LaneId) (f : StepCtx → StepCtx) (s : State) :
    (updCtx l f s).vehicle = s.vehicle :=
  by simp [updCtx]
@[simp] theorem updCtx_supply (l : LaneId) (f : StepCtx → StepCtx) (s : State) : (updCtx l f s).supply = s.supply :=
  by simp [updCtx]
@[simp] theorem updCtx_request (l : LaneId) (f : StepCtx → StepCtx) (s : State) :
    (updCtx l f s).request = s.request :=
  by simp [updCtx]
@[simp] theorem updCtx_service (l : LaneId) (f : StepCtx → StepCtx) (s : State) :
    (updCtx l f s).service = s.service :=
  by simp [updCtx]
@[simp] theorem updCtx_tx (l : LaneId) (f : StepCtx → StepCtx) (s : State) : (updCtx l f s).tx = s.tx :=
  by simp [updCtx]

/-! `enterPaused` -/
@[simp] theorem enterPaused_pending (l : LaneId) (r : PauseReason) (p : ResumePoint) (s : State) :
    (enterPaused l r p s).pending = s.pending :=
  by simp [enterPaused]
@[simp] theorem enterPaused_now (l : LaneId) (r : PauseReason) (p : ResumePoint) (s : State) :
    (enterPaused l r p s).now = s.now :=
  by simp [enterPaused]
@[simp] theorem enterPaused_startUp (l : LaneId) (r : PauseReason) (p : ResumePoint) (s : State) :
    (enterPaused l r p s).startUp = s.startUp :=
  by simp [enterPaused]
@[simp] theorem enterPaused_ram (l : LaneId) (r : PauseReason) (p : ResumePoint) (s : State) :
    (enterPaused l r p s).ram = s.ram :=
  by simp [enterPaused]
@[simp] theorem enterPaused_store (l : LaneId) (r : PauseReason) (p : ResumePoint) (s : State) :
    (enterPaused l r p s).store = s.store :=
  by simp [enterPaused]
@[simp] theorem enterPaused_checksums (l : LaneId) (r : PauseReason) (p : ResumePoint) (s : State) :
    (enterPaused l r p s).checksums = s.checksums :=
  by simp [enterPaused]
@[simp] theorem enterPaused_acts (l : LaneId) (r : PauseReason) (p : ResumePoint) (s : State) :
    (enterPaused l r p s).acts = s.acts :=
  by simp [enterPaused]
@[simp] theorem enterPaused_holders (l : LaneId) (r : PauseReason) (p : ResumePoint) (s : State) :
    (enterPaused l r p s).holders = s.holders :=
  by simp [enterPaused]
@[simp] theorem enterPaused_waitList (l : LaneId) (r : PauseReason) (p : ResumePoint) (s : State) :
    (enterPaused l r p s).waitList = s.waitList :=
  by simp [enterPaused]
@[simp] theorem enterPaused_drives (l : LaneId) (r : PauseReason) (p : ResumePoint) (s : State) :
    (enterPaused l r p s).drives = s.drives :=
  by simp [enterPaused]
@[simp] theorem enterPaused_loads (l : LaneId) (r : PauseReason) (p : ResumePoint) (s : State) :
    (enterPaused l r p s).loads = s.loads :=
  by simp [enterPaused]
@[simp] theorem enterPaused_chans (l : LaneId) (r : PauseReason) (p : ResumePoint) (s : State) :
    (enterPaused l r p s).chans = s.chans :=
  by simp [enterPaused]
@[simp] theorem enterPaused_presence (l : LaneId) (r : PauseReason) (p : ResumePoint) (s : State) :
    (enterPaused l r p s).presence = s.presence :=
  by simp [enterPaused]
@[simp] theorem enterPaused_vehicle (l : LaneId) (r : PauseReason) (p : ResumePoint) (s : State) :
    (enterPaused l r p s).vehicle = s.vehicle :=
  by simp [enterPaused]
@[simp] theorem enterPaused_supply (l : LaneId) (r : PauseReason) (p : ResumePoint) (s : State) :
    (enterPaused l r p s).supply = s.supply :=
  by simp [enterPaused]
@[simp] theorem enterPaused_request (l : LaneId) (r : PauseReason) (p : ResumePoint) (s : State) :
    (enterPaused l r p s).request = s.request :=
  by simp [enterPaused]
@[simp] theorem enterPaused_service (l : LaneId) (r : PauseReason) (p : ResumePoint) (s : State) :
    (enterPaused l r p s).service = s.service :=
  by simp [enterPaused]
@[simp] theorem enterPaused_tx (l : LaneId) (r : PauseReason) (p : ResumePoint) (s : State) :
    (enterPaused l r p s).tx = s.tx :=
  by simp [enterPaused]

/-! `enterFenced` -/
@[simp] theorem enterFenced_pending (l : LaneId) (s : State) : (enterFenced l s).pending = s.pending :=
  by simp [enterFenced]
@[simp] theorem enterFenced_now (l : LaneId) (s : State) : (enterFenced l s).now = s.now := by simp [enterFenced]
@[simp] theorem enterFenced_startUp (l : LaneId) (s : State) : (enterFenced l s).startUp = s.startUp :=
  by simp [enterFenced]
@[simp] theorem enterFenced_ram (l : LaneId) (s : State) : (enterFenced l s).ram = s.ram := by simp [enterFenced]
@[simp] theorem enterFenced_store (l : LaneId) (s : State) : (enterFenced l s).store = s.store :=
  by simp [enterFenced]
@[simp] theorem enterFenced_checksums (l : LaneId) (s : State) : (enterFenced l s).checksums = s.checksums :=
  by simp [enterFenced]
@[simp] theorem enterFenced_acts (l : LaneId) (s : State) : (enterFenced l s).acts = s.acts := by simp [enterFenced]
@[simp] theorem enterFenced_holders (l : LaneId) (s : State) : (enterFenced l s).holders = s.holders :=
  by simp [enterFenced]
@[simp] theorem enterFenced_waitList (l : LaneId) (s : State) : (enterFenced l s).waitList = s.waitList :=
  by simp [enterFenced]
@[simp] theorem enterFenced_drives (l : LaneId) (s : State) : (enterFenced l s).drives = s.drives :=
  by simp [enterFenced]
@[simp] theorem enterFenced_loads (l : LaneId) (s : State) : (enterFenced l s).loads = s.loads :=
  by simp [enterFenced]
@[simp] theorem enterFenced_chans (l : LaneId) (s : State) : (enterFenced l s).chans = s.chans :=
  by simp [enterFenced]
@[simp] theorem enterFenced_presence (l : LaneId) (s : State) : (enterFenced l s).presence = s.presence :=
  by simp [enterFenced]
@[simp] theorem enterFenced_vehicle (l : LaneId) (s : State) : (enterFenced l s).vehicle = s.vehicle :=
  by simp [enterFenced]
@[simp] theorem enterFenced_supply (l : LaneId) (s : State) : (enterFenced l s).supply = s.supply :=
  by simp [enterFenced]
@[simp] theorem enterFenced_request (l : LaneId) (s : State) : (enterFenced l s).request = s.request :=
  by simp [enterFenced]
@[simp] theorem enterFenced_service (l : LaneId) (s : State) : (enterFenced l s).service = s.service :=
  by simp [enterFenced]
@[simp] theorem enterFenced_tx (l : LaneId) (s : State) : (enterFenced l s).tx = s.tx := by simp [enterFenced]

/-! `enterWaitAdvance` -/
@[simp] theorem enterWaitAdvance_pending (l : LaneId) (s : State) : (enterWaitAdvance l s).pending = s.pending :=
  by simp [enterWaitAdvance]
@[simp] theorem enterWaitAdvance_now (l : LaneId) (s : State) : (enterWaitAdvance l s).now = s.now :=
  by simp [enterWaitAdvance]
@[simp] theorem enterWaitAdvance_startUp (l : LaneId) (s : State) : (enterWaitAdvance l s).startUp = s.startUp :=
  by simp [enterWaitAdvance]
@[simp] theorem enterWaitAdvance_ram (l : LaneId) (s : State) : (enterWaitAdvance l s).ram = s.ram :=
  by simp [enterWaitAdvance]
@[simp] theorem enterWaitAdvance_store (l : LaneId) (s : State) : (enterWaitAdvance l s).store = s.store :=
  by simp [enterWaitAdvance]
@[simp] theorem enterWaitAdvance_checksums (l : LaneId) (s : State) :
    (enterWaitAdvance l s).checksums = s.checksums :=
  by simp [enterWaitAdvance]
@[simp] theorem enterWaitAdvance_acts (l : LaneId) (s : State) : (enterWaitAdvance l s).acts = s.acts :=
  by simp [enterWaitAdvance]
@[simp] theorem enterWaitAdvance_holders (l : LaneId) (s : State) : (enterWaitAdvance l s).holders = s.holders :=
  by simp [enterWaitAdvance]
@[simp] theorem enterWaitAdvance_waitList (l : LaneId) (s : State) : (enterWaitAdvance l s).waitList = s.waitList :=
  by simp [enterWaitAdvance]
@[simp] theorem enterWaitAdvance_drives (l : LaneId) (s : State) : (enterWaitAdvance l s).drives = s.drives :=
  by simp [enterWaitAdvance]
@[simp] theorem enterWaitAdvance_loads (l : LaneId) (s : State) : (enterWaitAdvance l s).loads = s.loads :=
  by simp [enterWaitAdvance]
@[simp] theorem enterWaitAdvance_chans (l : LaneId) (s : State) : (enterWaitAdvance l s).chans = s.chans :=
  by simp [enterWaitAdvance]
@[simp] theorem enterWaitAdvance_presence (l : LaneId) (s : State) : (enterWaitAdvance l s).presence = s.presence :=
  by simp [enterWaitAdvance]
@[simp] theorem enterWaitAdvance_vehicle (l : LaneId) (s : State) : (enterWaitAdvance l s).vehicle = s.vehicle :=
  by simp [enterWaitAdvance]
@[simp] theorem enterWaitAdvance_supply (l : LaneId) (s : State) : (enterWaitAdvance l s).supply = s.supply :=
  by simp [enterWaitAdvance]
@[simp] theorem enterWaitAdvance_request (l : LaneId) (s : State) : (enterWaitAdvance l s).request = s.request :=
  by simp [enterWaitAdvance]
@[simp] theorem enterWaitAdvance_service (l : LaneId) (s : State) : (enterWaitAdvance l s).service = s.service :=
  by simp [enterWaitAdvance]
@[simp] theorem enterWaitAdvance_tx (l : LaneId) (s : State) : (enterWaitAdvance l s).tx = s.tx :=
  by simp [enterWaitAdvance]

/-! `setSweep` -/
@[simp] theorem setSweep_pending (l : LaneId) (zs : ZoneSet) (s : State) : (setSweep l zs s).pending = s.pending :=
  by simp [setSweep]
@[simp] theorem setSweep_now (l : LaneId) (zs : ZoneSet) (s : State) : (setSweep l zs s).now = s.now :=
  by simp [setSweep]
@[simp] theorem setSweep_startUp (l : LaneId) (zs : ZoneSet) (s : State) : (setSweep l zs s).startUp = s.startUp :=
  by simp [setSweep]
@[simp] theorem setSweep_ram (l : LaneId) (zs : ZoneSet) (s : State) : (setSweep l zs s).ram = s.ram :=
  by simp [setSweep]
@[simp] theorem setSweep_store (l : LaneId) (zs : ZoneSet) (s : State) : (setSweep l zs s).store = s.store :=
  by simp [setSweep]
@[simp] theorem setSweep_checksums (l : LaneId) (zs : ZoneSet) (s : State) :
    (setSweep l zs s).checksums = s.checksums :=
  by simp [setSweep]
@[simp] theorem setSweep_acts (l : LaneId) (zs : ZoneSet) (s : State) : (setSweep l zs s).acts = s.acts :=
  by simp [setSweep]
@[simp] theorem setSweep_holders (l : LaneId) (zs : ZoneSet) (s : State) : (setSweep l zs s).holders = s.holders :=
  by simp [setSweep]
@[simp] theorem setSweep_waitList (l : LaneId) (zs : ZoneSet) (s : State) : (setSweep l zs s).waitList = s.waitList :=
  by simp [setSweep]
@[simp] theorem setSweep_drives (l : LaneId) (zs : ZoneSet) (s : State) : (setSweep l zs s).drives = s.drives :=
  by simp [setSweep]
@[simp] theorem setSweep_loads (l : LaneId) (zs : ZoneSet) (s : State) : (setSweep l zs s).loads = s.loads :=
  by simp [setSweep]
@[simp] theorem setSweep_chans (l : LaneId) (zs : ZoneSet) (s : State) : (setSweep l zs s).chans = s.chans :=
  by simp [setSweep]
@[simp] theorem setSweep_presence (l : LaneId) (zs : ZoneSet) (s : State) : (setSweep l zs s).presence = s.presence :=
  by simp [setSweep]
@[simp] theorem setSweep_vehicle (l : LaneId) (zs : ZoneSet) (s : State) : (setSweep l zs s).vehicle = s.vehicle :=
  by simp [setSweep]
@[simp] theorem setSweep_supply (l : LaneId) (zs : ZoneSet) (s : State) : (setSweep l zs s).supply = s.supply :=
  by simp [setSweep]
@[simp] theorem setSweep_request (l : LaneId) (zs : ZoneSet) (s : State) : (setSweep l zs s).request = s.request :=
  by simp [setSweep]
@[simp] theorem setSweep_service (l : LaneId) (zs : ZoneSet) (s : State) : (setSweep l zs s).service = s.service :=
  by simp [setSweep]
@[simp] theorem setSweep_tx (l : LaneId) (zs : ZoneSet) (s : State) : (setSweep l zs s).tx = s.tx :=
  by simp [setSweep]

/-! `computeSweep` -/
@[simp] theorem computeSweep_pending (l : LaneId) (s : State) : (computeSweep l s).pending = s.pending :=
  by unfold computeSweep; split <;> simp
@[simp] theorem computeSweep_now (l : LaneId) (s : State) : (computeSweep l s).now = s.now :=
  by unfold computeSweep; split <;> simp
@[simp] theorem computeSweep_startUp (l : LaneId) (s : State) : (computeSweep l s).startUp = s.startUp :=
  by unfold computeSweep; split <;> simp
@[simp] theorem computeSweep_ram (l : LaneId) (s : State) : (computeSweep l s).ram = s.ram :=
  by unfold computeSweep; split <;> simp
@[simp] theorem computeSweep_store (l : LaneId) (s : State) : (computeSweep l s).store = s.store :=
  by unfold computeSweep; split <;> simp
@[simp] theorem computeSweep_checksums (l : LaneId) (s : State) : (computeSweep l s).checksums = s.checksums :=
  by unfold computeSweep; split <;> simp
@[simp] theorem computeSweep_acts (l : LaneId) (s : State) : (computeSweep l s).acts = s.acts :=
  by unfold computeSweep; split <;> simp
@[simp] theorem computeSweep_holders (l : LaneId) (s : State) : (computeSweep l s).holders = s.holders :=
  by unfold computeSweep; split <;> simp
@[simp] theorem computeSweep_waitList (l : LaneId) (s : State) : (computeSweep l s).waitList = s.waitList :=
  by unfold computeSweep; split <;> simp
@[simp] theorem computeSweep_drives (l : LaneId) (s : State) : (computeSweep l s).drives = s.drives :=
  by unfold computeSweep; split <;> simp
@[simp] theorem computeSweep_loads (l : LaneId) (s : State) : (computeSweep l s).loads = s.loads :=
  by unfold computeSweep; split <;> simp
@[simp] theorem computeSweep_chans (l : LaneId) (s : State) : (computeSweep l s).chans = s.chans :=
  by unfold computeSweep; split <;> simp
@[simp] theorem computeSweep_presence (l : LaneId) (s : State) : (computeSweep l s).presence = s.presence :=
  by unfold computeSweep; split <;> simp
@[simp] theorem computeSweep_vehicle (l : LaneId) (s : State) : (computeSweep l s).vehicle = s.vehicle :=
  by unfold computeSweep; split <;> simp
@[simp] theorem computeSweep_supply (l : LaneId) (s : State) : (computeSweep l s).supply = s.supply :=
  by unfold computeSweep; split <;> simp
@[simp] theorem computeSweep_request (l : LaneId) (s : State) : (computeSweep l s).request = s.request :=
  by unfold computeSweep; split <;> simp
@[simp] theorem computeSweep_service (l : LaneId) (s : State) : (computeSweep l s).service = s.service :=
  by unfold computeSweep; split <;> simp
@[simp] theorem computeSweep_tx (l : LaneId) (s : State) : (computeSweep l s).tx = s.tx :=
  by unfold computeSweep; split <;> simp

/-! `loadStep` -/
@[simp] theorem loadStep_pending (l : LaneId) (r : StepRec) (c : CurStep) (s : State) :
    (loadStep l r c s).pending = s.pending :=
  by unfold loadStep; split <;> simp
@[simp] theorem loadStep_now (l : LaneId) (r : StepRec) (c : CurStep) (s : State) : (loadStep l r c s).now = s.now :=
  by unfold loadStep; split <;> simp
@[simp] theorem loadStep_startUp (l : LaneId) (r : StepRec) (c : CurStep) (s : State) :
    (loadStep l r c s).startUp = s.startUp :=
  by unfold loadStep; split <;> simp
@[simp] theorem loadStep_ram (l : LaneId) (r : StepRec) (c : CurStep) (s : State) : (loadStep l r c s).ram = s.ram :=
  by unfold loadStep; split <;> simp
@[simp] theorem loadStep_store (l : LaneId) (r : StepRec) (c : CurStep) (s : State) :
    (loadStep l r c s).store = s.store :=
  by unfold loadStep; split <;> simp
@[simp] theorem loadStep_checksums (l : LaneId) (r : StepRec) (c : CurStep) (s : State) :
    (loadStep l r c s).checksums = s.checksums :=
  by unfold loadStep; split <;> simp
@[simp] theorem loadStep_acts (l : LaneId) (r : StepRec) (c : CurStep) (s : State) :
    (loadStep l r c s).acts = s.acts :=
  by unfold loadStep; split <;> simp
@[simp] theorem loadStep_holders (l : LaneId) (r : StepRec) (c : CurStep) (s : State) :
    (loadStep l r c s).holders = s.holders :=
  by unfold loadStep; split <;> simp
@[simp] theorem loadStep_waitList (l : LaneId) (r : StepRec) (c : CurStep) (s : State) :
    (loadStep l r c s).waitList = s.waitList :=
  by unfold loadStep; split <;> simp
@[simp] theorem loadStep_drives (l : LaneId) (r : StepRec) (c : CurStep) (s : State) :
    (loadStep l r c s).drives = s.drives :=
  by unfold loadStep; split <;> simp
@[simp] theorem loadStep_chans (l : LaneId) (r : StepRec) (c : CurStep) (s : State) :
    (loadStep l r c s).chans = s.chans :=
  by unfold loadStep; split <;> simp
@[simp] theorem loadStep_presence (l : LaneId) (r : StepRec) (c : CurStep) (s : State) :
    (loadStep l r c s).presence = s.presence :=
  by unfold loadStep; split <;> simp
@[simp] theorem loadStep_vehicle (l : LaneId) (r : StepRec) (c : CurStep) (s : State) :
    (loadStep l r c s).vehicle = s.vehicle :=
  by unfold loadStep; split <;> simp
@[simp] theorem loadStep_supply (l : LaneId) (r : StepRec) (c : CurStep) (s : State) :
    (loadStep l r c s).supply = s.supply :=
  by unfold loadStep; split <;> simp
@[simp] theorem loadStep_request (l : LaneId) (r : StepRec) (c : CurStep) (s : State) :
    (loadStep l r c s).request = s.request :=
  by unfold loadStep; split <;> simp
@[simp] theorem loadStep_service (l : LaneId) (r : StepRec) (c : CurStep) (s : State) :
    (loadStep l r c s).service = s.service :=
  by unfold loadStep; split <;> simp
@[simp] theorem loadStep_tx (l : LaneId) (r : StepRec) (c : CurStep) (s : State) : (loadStep l r c s).tx = s.tx :=
  by unfold loadStep; split <;> simp

/-! `resumeSupplyTimer` -/
@[simp] theorem resumeSupplyTimer_pending (s : State) : (resumeSupplyTimer s).pending = s.pending :=
  by unfold resumeSupplyTimer; split <;> rfl
@[simp] theorem resumeSupplyTimer_now (s : State) : (resumeSupplyTimer s).now = s.now :=
  by unfold resumeSupplyTimer; split <;> rfl
@[simp] theorem resumeSupplyTimer_startUp (s : State) : (resumeSupplyTimer s).startUp = s.startUp :=
  by unfold resumeSupplyTimer; split <;> rfl
@[simp] theorem resumeSupplyTimer_ram (s : State) : (resumeSupplyTimer s).ram = s.ram :=
  by unfold resumeSupplyTimer; split <;> rfl
@[simp] theorem resumeSupplyTimer_store (s : State) : (resumeSupplyTimer s).store = s.store :=
  by unfold resumeSupplyTimer; split <;> rfl
@[simp] theorem resumeSupplyTimer_checksums (s : State) : (resumeSupplyTimer s).checksums = s.checksums :=
  by unfold resumeSupplyTimer; split <;> rfl
@[simp] theorem resumeSupplyTimer_acts (s : State) : (resumeSupplyTimer s).acts = s.acts :=
  by unfold resumeSupplyTimer; split <;> rfl
@[simp] theorem resumeSupplyTimer_holders (s : State) : (resumeSupplyTimer s).holders = s.holders :=
  by unfold resumeSupplyTimer; split <;> rfl
@[simp] theorem resumeSupplyTimer_lanes (s : State) : (resumeSupplyTimer s).lanes = s.lanes :=
  by unfold resumeSupplyTimer; split <;> rfl
@[simp] theorem resumeSupplyTimer_waitList (s : State) : (resumeSupplyTimer s).waitList = s.waitList :=
  by unfold resumeSupplyTimer; split <;> rfl
@[simp] theorem resumeSupplyTimer_drives (s : State) : (resumeSupplyTimer s).drives = s.drives :=
  by unfold resumeSupplyTimer; split <;> rfl
@[simp] theorem resumeSupplyTimer_loads (s : State) : (resumeSupplyTimer s).loads = s.loads :=
  by unfold resumeSupplyTimer; split <;> rfl
@[simp] theorem resumeSupplyTimer_chans (s : State) : (resumeSupplyTimer s).chans = s.chans :=
  by unfold resumeSupplyTimer; split <;> rfl
@[simp] theorem resumeSupplyTimer_presence (s : State) : (resumeSupplyTimer s).presence = s.presence :=
  by unfold resumeSupplyTimer; split <;> rfl
@[simp] theorem resumeSupplyTimer_vehicle (s : State) : (resumeSupplyTimer s).vehicle = s.vehicle :=
  by unfold resumeSupplyTimer; split <;> rfl
@[simp] theorem resumeSupplyTimer_power (s : State) : (resumeSupplyTimer s).power = s.power :=
  by unfold resumeSupplyTimer; split <;> rfl
@[simp] theorem resumeSupplyTimer_request (s : State) : (resumeSupplyTimer s).request = s.request :=
  by unfold resumeSupplyTimer; split <;> rfl
@[simp] theorem resumeSupplyTimer_service (s : State) : (resumeSupplyTimer s).service = s.service :=
  by unfold resumeSupplyTimer; split <;> rfl
@[simp] theorem resumeSupplyTimer_report (s : State) : (resumeSupplyTimer s).report = s.report :=
  by unfold resumeSupplyTimer; split <;> rfl
@[simp] theorem resumeSupplyTimer_tx (s : State) : (resumeSupplyTimer s).tx = s.tx :=
  by unfold resumeSupplyTimer; split <;> rfl

/-! `brake` -/
@[simp] theorem brake_pending (l : LaneId) (ms : Nat) (b : Bool) (s : State) : (brake l ms b s).pending = s.pending :=
  by unfold brake; dsimp only; split; (split <;> simp); rfl
@[simp] theorem brake_now (l : LaneId) (ms : Nat) (b : Bool) (s : State) : (brake l ms b s).now = s.now :=
  by unfold brake; dsimp only; split; (split <;> simp); rfl
@[simp] theorem brake_startUp (l : LaneId) (ms : Nat) (b : Bool) (s : State) : (brake l ms b s).startUp = s.startUp :=
  by unfold brake; dsimp only; split; (split <;> simp); rfl
@[simp] theorem brake_ram (l : LaneId) (ms : Nat) (b : Bool) (s : State) : (brake l ms b s).ram = s.ram :=
  by unfold brake; dsimp only; split; (split <;> simp); rfl
@[simp] theorem brake_store (l : LaneId) (ms : Nat) (b : Bool) (s : State) : (brake l ms b s).store = s.store :=
  by unfold brake; dsimp only; split; (split <;> simp); rfl
@[simp] theorem brake_checksums (l : LaneId) (ms : Nat) (b : Bool) (s : State) :
    (brake l ms b s).checksums = s.checksums :=
  by unfold brake; dsimp only; split; (split <;> simp); rfl
@[simp] theorem brake_holders (l : LaneId) (ms : Nat) (b : Bool) (s : State) : (brake l ms b s).holders = s.holders :=
  by unfold brake; dsimp only; split; (split <;> simp); rfl
@[simp] theorem brake_lanes (l : LaneId) (ms : Nat) (b : Bool) (s : State) : (brake l ms b s).lanes = s.lanes :=
  by unfold brake; dsimp only; split; (split <;> simp); rfl
@[simp] theorem brake_waitList (l : LaneId) (ms : Nat) (b : Bool) (s : State) :
    (brake l ms b s).waitList = s.waitList :=
  by unfold brake; dsimp only; split; (split <;> simp); rfl
@[simp] theorem brake_loads (l : LaneId) (ms : Nat) (b : Bool) (s : State) : (brake l ms b s).loads = s.loads :=
  by unfold brake; dsimp only; split; (split <;> simp); rfl
@[simp] theorem brake_chans (l : LaneId) (ms : Nat) (b : Bool) (s : State) : (brake l ms b s).chans = s.chans :=
  by unfold brake; dsimp only; split; (split <;> simp); rfl
@[simp] theorem brake_presence (l : LaneId) (ms : Nat) (b : Bool) (s : State) :
    (brake l ms b s).presence = s.presence :=
  by unfold brake; dsimp only; split; (split <;> simp); rfl
@[simp] theorem brake_vehicle (l : LaneId) (ms : Nat) (b : Bool) (s : State) : (brake l ms b s).vehicle = s.vehicle :=
  by unfold brake; dsimp only; split; (split <;> simp); rfl
@[simp] theorem brake_power (l : LaneId) (ms : Nat) (b : Bool) (s : State) : (brake l ms b s).power = s.power :=
  by unfold brake; dsimp only; split; (split <;> simp); rfl
@[simp] theorem brake_request (l : LaneId) (ms : Nat) (b : Bool) (s : State) : (brake l ms b s).request = s.request :=
  by unfold brake; dsimp only; split; (split <;> simp); rfl
@[simp] theorem brake_service (l : LaneId) (ms : Nat) (b : Bool) (s : State) : (brake l ms b s).service = s.service :=
  by unfold brake; dsimp only; split; (split <;> simp); rfl
@[simp] theorem brake_tx (l : LaneId) (ms : Nat) (b : Bool) (s : State) : (brake l ms b s).tx = s.tx :=
  by unfold brake; dsimp only; split; (split <;> simp); rfl

/-! `enterStopping` -/
@[simp] theorem enterStopping_pending (l : LaneId) (d : StopDest) (s : State) :
    (enterStopping l d s).pending = s.pending :=
  by simp [enterStopping]
@[simp] theorem enterStopping_now (l : LaneId) (d : StopDest) (s : State) : (enterStopping l d s).now = s.now :=
  by simp [enterStopping]
@[simp] theorem enterStopping_startUp (l : LaneId) (d : StopDest) (s : State) :
    (enterStopping l d s).startUp = s.startUp :=
  by simp [enterStopping]
@[simp] theorem enterStopping_ram (l : LaneId) (d : StopDest) (s : State) : (enterStopping l d s).ram = s.ram :=
  by simp [enterStopping]
@[simp] theorem enterStopping_store (l : LaneId) (d : StopDest) (s : State) : (enterStopping l d s).store = s.store :=
  by simp [enterStopping]
@[simp] theorem enterStopping_checksums (l : LaneId) (d : StopDest) (s : State) :
    (enterStopping l d s).checksums = s.checksums :=
  by simp [enterStopping]
@[simp] theorem enterStopping_holders (l : LaneId) (d : StopDest) (s : State) :
    (enterStopping l d s).holders = s.holders :=
  by simp [enterStopping]
@[simp] theorem enterStopping_waitList (l : LaneId) (d : StopDest) (s : State) :
    (enterStopping l d s).waitList = s.waitList :=
  by simp [enterStopping]
@[simp] theorem enterStopping_loads (l : LaneId) (d : StopDest) (s : State) : (enterStopping l d s).loads = s.loads :=
  by simp [enterStopping]
@[simp] theorem enterStopping_chans (l : LaneId) (d : StopDest) (s : State) : (enterStopping l d s).chans = s.chans :=
  by simp [enterStopping]
@[simp] theorem enterStopping_presence (l : LaneId) (d : StopDest) (s : State) :
    (enterStopping l d s).presence = s.presence :=
  by simp [enterStopping]
@[simp] theorem enterStopping_vehicle (l : LaneId) (d : StopDest) (s : State) :
    (enterStopping l d s).vehicle = s.vehicle :=
  by simp [enterStopping]
@[simp] theorem enterStopping_request (l : LaneId) (d : StopDest) (s : State) :
    (enterStopping l d s).request = s.request :=
  by simp [enterStopping]
@[simp] theorem enterStopping_service (l : LaneId) (d : StopDest) (s : State) :
    (enterStopping l d s).service = s.service :=
  by simp [enterStopping]
@[simp] theorem enterStopping_tx (l : LaneId) (d : StopDest) (s : State) : (enterStopping l d s).tx = s.tx :=
  by simp [enterStopping]

/-! `endBackOff` -/
@[simp] theorem endBackOff_pending (l : LaneId) (d : StopDest) (s : State) :
    (endBackOff l d s).pending = s.pending := by simp [endBackOff]
@[simp] theorem endBackOff_now (l : LaneId) (d : StopDest) (s : State) :
    (endBackOff l d s).now = s.now := by simp [endBackOff]
@[simp] theorem endBackOff_startUp (l : LaneId) (d : StopDest) (s : State) :
    (endBackOff l d s).startUp = s.startUp := by simp [endBackOff]
@[simp] theorem endBackOff_ram (l : LaneId) (d : StopDest) (s : State) :
    (endBackOff l d s).ram = s.ram := by simp [endBackOff]
@[simp] theorem endBackOff_store (l : LaneId) (d : StopDest) (s : State) :
    (endBackOff l d s).store = s.store := by simp [endBackOff]
@[simp] theorem endBackOff_checksums (l : LaneId) (d : StopDest) (s : State) :
    (endBackOff l d s).checksums = s.checksums := by simp [endBackOff]
@[simp] theorem endBackOff_holders (l : LaneId) (d : StopDest) (s : State) :
    (endBackOff l d s).holders = s.holders := by simp [endBackOff]
@[simp] theorem endBackOff_waitList (l : LaneId) (d : StopDest) (s : State) :
    (endBackOff l d s).waitList = s.waitList := by simp [endBackOff]
@[simp] theorem endBackOff_loads (l : LaneId) (d : StopDest) (s : State) :
    (endBackOff l d s).loads = s.loads := by simp [endBackOff]
@[simp] theorem endBackOff_chans (l : LaneId) (d : StopDest) (s : State) :
    (endBackOff l d s).chans = s.chans := by simp [endBackOff]
@[simp] theorem endBackOff_presence (l : LaneId) (d : StopDest) (s : State) :
    (endBackOff l d s).presence = s.presence := by simp [endBackOff]
@[simp] theorem endBackOff_vehicle (l : LaneId) (d : StopDest) (s : State) :
    (endBackOff l d s).vehicle = s.vehicle := by simp [endBackOff]
@[simp] theorem endBackOff_request (l : LaneId) (d : StopDest) (s : State) :
    (endBackOff l d s).request = s.request := by simp [endBackOff]
@[simp] theorem endBackOff_service (l : LaneId) (d : StopDest) (s : State) :
    (endBackOff l d s).service = s.service := by simp [endBackOff]
@[simp] theorem endBackOff_tx (l : LaneId) (d : StopDest) (s : State) :
    (endBackOff l d s).tx = s.tx := by simp [endBackOff]

/-! `enterSettling` -/
@[simp] theorem enterSettling_pending (l : LaneId) (s : State) : (enterSettling l s).pending = s.pending :=
  by simp [enterSettling]
@[simp] theorem enterSettling_now (l : LaneId) (s : State) : (enterSettling l s).now = s.now :=
  by simp [enterSettling]
@[simp] theorem enterSettling_startUp (l : LaneId) (s : State) : (enterSettling l s).startUp = s.startUp :=
  by simp [enterSettling]
@[simp] theorem enterSettling_ram (l : LaneId) (s : State) : (enterSettling l s).ram = s.ram :=
  by simp [enterSettling]
@[simp] theorem enterSettling_store (l : LaneId) (s : State) : (enterSettling l s).store = s.store :=
  by simp [enterSettling]
@[simp] theorem enterSettling_checksums (l : LaneId) (s : State) : (enterSettling l s).checksums = s.checksums :=
  by simp [enterSettling]
@[simp] theorem enterSettling_holders (l : LaneId) (s : State) : (enterSettling l s).holders = s.holders :=
  by simp [enterSettling]
@[simp] theorem enterSettling_waitList (l : LaneId) (s : State) : (enterSettling l s).waitList = s.waitList :=
  by simp [enterSettling]
@[simp] theorem enterSettling_loads (l : LaneId) (s : State) : (enterSettling l s).loads = s.loads :=
  by simp [enterSettling]
@[simp] theorem enterSettling_chans (l : LaneId) (s : State) : (enterSettling l s).chans = s.chans :=
  by simp [enterSettling]
@[simp] theorem enterSettling_presence (l : LaneId) (s : State) : (enterSettling l s).presence = s.presence :=
  by simp [enterSettling]
@[simp] theorem enterSettling_vehicle (l : LaneId) (s : State) : (enterSettling l s).vehicle = s.vehicle :=
  by simp [enterSettling]
@[simp] theorem enterSettling_request (l : LaneId) (s : State) : (enterSettling l s).request = s.request :=
  by simp [enterSettling]
@[simp] theorem enterSettling_service (l : LaneId) (s : State) : (enterSettling l s).service = s.service :=
  by simp [enterSettling]
@[simp] theorem enterSettling_tx (l : LaneId) (s : State) : (enterSettling l s).tx = s.tx := by simp [enterSettling]

/-! `activate` -/
@[simp] theorem activate_pending (s : State) : (activate s).pending = s.pending := by simp [activate]
@[simp] theorem activate_now (s : State) : (activate s).now = s.now := by simp [activate]
@[simp] theorem activate_startUp (s : State) : (activate s).startUp = s.startUp := by simp [activate]
@[simp] theorem activate_ram (s : State) : (activate s).ram = s.ram := by simp [activate]
@[simp] theorem activate_store (s : State) : (activate s).store = s.store := by simp [activate]
@[simp] theorem activate_checksums (s : State) : (activate s).checksums = s.checksums := by simp [activate]
@[simp] theorem activate_acts (s : State) : (activate s).acts = s.acts := by simp [activate]
@[simp] theorem activate_holders (s : State) : (activate s).holders = s.holders := by simp [activate]
@[simp] theorem activate_lanes (s : State) : (activate s).lanes = s.lanes := by simp [activate]
@[simp] theorem activate_waitList (s : State) : (activate s).waitList = s.waitList := by simp [activate]
@[simp] theorem activate_drives (s : State) : (activate s).drives = s.drives := by simp [activate]
@[simp] theorem activate_loads (s : State) : (activate s).loads = s.loads := by simp [activate]
@[simp] theorem activate_chans (s : State) : (activate s).chans = s.chans := by simp [activate]
@[simp] theorem activate_presence (s : State) : (activate s).presence = s.presence := by simp [activate]
@[simp] theorem activate_vehicle (s : State) : (activate s).vehicle = s.vehicle := by simp [activate]
@[simp] theorem activate_supply (s : State) : (activate s).supply = s.supply := by simp [activate]
@[simp] theorem activate_request (s : State) : (activate s).request = s.request := by simp [activate]
@[simp] theorem activate_service (s : State) : (activate s).service = s.service := by simp [activate]
@[simp] theorem activate_tx (s : State) : (activate s).tx = s.tx := by simp [activate]

/-! `setGuardLost` -/
@[simp] theorem setGuardLost_pending (c : ChanId) (b : Bool) (s : State) : (setGuardLost c b s).pending = s.pending :=
  by simp [setGuardLost]
@[simp] theorem setGuardLost_now (c : ChanId) (b : Bool) (s : State) : (setGuardLost c b s).now = s.now :=
  by simp [setGuardLost]
@[simp] theorem setGuardLost_startUp (c : ChanId) (b : Bool) (s : State) : (setGuardLost c b s).startUp = s.startUp :=
  by simp [setGuardLost]
@[simp] theorem setGuardLost_ram (c : ChanId) (b : Bool) (s : State) : (setGuardLost c b s).ram = s.ram :=
  by simp [setGuardLost]
@[simp] theorem setGuardLost_store (c : ChanId) (b : Bool) (s : State) : (setGuardLost c b s).store = s.store :=
  by simp [setGuardLost]
@[simp] theorem setGuardLost_checksums (c : ChanId) (b : Bool) (s : State) :
    (setGuardLost c b s).checksums = s.checksums :=
  by simp [setGuardLost]
@[simp] theorem setGuardLost_acts (c : ChanId) (b : Bool) (s : State) : (setGuardLost c b s).acts = s.acts :=
  by simp [setGuardLost]
@[simp] theorem setGuardLost_holders (c : ChanId) (b : Bool) (s : State) : (setGuardLost c b s).holders = s.holders :=
  by simp [setGuardLost]
@[simp] theorem setGuardLost_lanes (c : ChanId) (b : Bool) (s : State) : (setGuardLost c b s).lanes = s.lanes :=
  by simp [setGuardLost]
@[simp] theorem setGuardLost_waitList (c : ChanId) (b : Bool) (s : State) :
    (setGuardLost c b s).waitList = s.waitList :=
  by simp [setGuardLost]
@[simp] theorem setGuardLost_drives (c : ChanId) (b : Bool) (s : State) : (setGuardLost c b s).drives = s.drives :=
  by simp [setGuardLost]
@[simp] theorem setGuardLost_loads (c : ChanId) (b : Bool) (s : State) : (setGuardLost c b s).loads = s.loads :=
  by simp [setGuardLost]
@[simp] theorem setGuardLost_presence (c : ChanId) (b : Bool) (s : State) :
    (setGuardLost c b s).presence = s.presence :=
  by simp [setGuardLost]
@[simp] theorem setGuardLost_vehicle (c : ChanId) (b : Bool) (s : State) : (setGuardLost c b s).vehicle = s.vehicle :=
  by simp [setGuardLost]
@[simp] theorem setGuardLost_supply (c : ChanId) (b : Bool) (s : State) : (setGuardLost c b s).supply = s.supply :=
  by simp [setGuardLost]
@[simp] theorem setGuardLost_power (c : ChanId) (b : Bool) (s : State) : (setGuardLost c b s).power = s.power :=
  by simp [setGuardLost]
@[simp] theorem setGuardLost_request (c : ChanId) (b : Bool) (s : State) : (setGuardLost c b s).request = s.request :=
  by simp [setGuardLost]
@[simp] theorem setGuardLost_service (c : ChanId) (b : Bool) (s : State) : (setGuardLost c b s).service = s.service :=
  by simp [setGuardLost]
@[simp] theorem setGuardLost_tx (c : ChanId) (b : Bool) (s : State) : (setGuardLost c b s).tx = s.tx :=
  by simp [setGuardLost]

/-! `logWith` -/
@[simp] theorem logWith_pending (cs : List HistEntry) (k : LogKind) (l : Option LaneId) (a : Option ActId) (p : Option Nat) (d : Option Int) (r : Option (Station × Byte)) (g : Option Group) (s : State) :
    (logWith cs k l a p d r g s).pending = s.pending :=
  by simp [logWith]
@[simp] theorem logWith_now (cs : List HistEntry) (k : LogKind) (l : Option LaneId) (a : Option ActId) (p : Option Nat) (d : Option Int) (r : Option (Station × Byte)) (g : Option Group) (s : State) :
    (logWith cs k l a p d r g s).now = s.now :=
  by simp [logWith]
@[simp] theorem logWith_startUp (cs : List HistEntry) (k : LogKind) (l : Option LaneId) (a : Option ActId) (p : Option Nat) (d : Option Int) (r : Option (Station × Byte)) (g : Option Group) (s : State) :
    (logWith cs k l a p d r g s).startUp = s.startUp :=
  by simp [logWith]
@[simp] theorem logWith_acts (cs : List HistEntry) (k : LogKind) (l : Option LaneId) (a : Option ActId) (p : Option Nat) (d : Option Int) (r : Option (Station × Byte)) (g : Option Group) (s : State) :
    (logWith cs k l a p d r g s).acts = s.acts :=
  by simp [logWith]
@[simp] theorem logWith_holders (cs : List HistEntry) (k : LogKind) (l : Option LaneId) (a : Option ActId) (p : Option Nat) (d : Option Int) (r : Option (Station × Byte)) (g : Option Group) (s : State) :
    (logWith cs k l a p d r g s).holders = s.holders :=
  by simp [logWith]
@[simp] theorem logWith_lanes (cs : List HistEntry) (k : LogKind) (l : Option LaneId) (a : Option ActId) (p : Option Nat) (d : Option Int) (r : Option (Station × Byte)) (g : Option Group) (s : State) :
    (logWith cs k l a p d r g s).lanes = s.lanes :=
  by simp [logWith]
@[simp] theorem logWith_waitList (cs : List HistEntry) (k : LogKind) (l : Option LaneId) (a : Option ActId) (p : Option Nat) (d : Option Int) (r : Option (Station × Byte)) (g : Option Group) (s : State) :
    (logWith cs k l a p d r g s).waitList = s.waitList :=
  by simp [logWith]
@[simp] theorem logWith_drives (cs : List HistEntry) (k : LogKind) (l : Option LaneId) (a : Option ActId) (p : Option Nat) (d : Option Int) (r : Option (Station × Byte)) (g : Option Group) (s : State) :
    (logWith cs k l a p d r g s).drives = s.drives :=
  by simp [logWith]
@[simp] theorem logWith_loads (cs : List HistEntry) (k : LogKind) (l : Option LaneId) (a : Option ActId) (p : Option Nat) (d : Option Int) (r : Option (Station × Byte)) (g : Option Group) (s : State) :
    (logWith cs k l a p d r g s).loads = s.loads :=
  by simp [logWith]
@[simp] theorem logWith_chans (cs : List HistEntry) (k : LogKind) (l : Option LaneId) (a : Option ActId) (p : Option Nat) (d : Option Int) (r : Option (Station × Byte)) (g : Option Group) (s : State) :
    (logWith cs k l a p d r g s).chans = s.chans :=
  by simp [logWith]
@[simp] theorem logWith_presence (cs : List HistEntry) (k : LogKind) (l : Option LaneId) (a : Option ActId) (p : Option Nat) (d : Option Int) (r : Option (Station × Byte)) (g : Option Group) (s : State) :
    (logWith cs k l a p d r g s).presence = s.presence :=
  by simp [logWith]
@[simp] theorem logWith_vehicle (cs : List HistEntry) (k : LogKind) (l : Option LaneId) (a : Option ActId) (p : Option Nat) (d : Option Int) (r : Option (Station × Byte)) (g : Option Group) (s : State) :
    (logWith cs k l a p d r g s).vehicle = s.vehicle :=
  by simp [logWith]
@[simp] theorem logWith_supply (cs : List HistEntry) (k : LogKind) (l : Option LaneId) (a : Option ActId) (p : Option Nat) (d : Option Int) (r : Option (Station × Byte)) (g : Option Group) (s : State) :
    (logWith cs k l a p d r g s).supply = s.supply :=
  by simp [logWith]
@[simp] theorem logWith_power (cs : List HistEntry) (k : LogKind) (l : Option LaneId) (a : Option ActId) (p : Option Nat) (d : Option Int) (r : Option (Station × Byte)) (g : Option Group) (s : State) :
    (logWith cs k l a p d r g s).power = s.power :=
  by simp [logWith]
@[simp] theorem logWith_request (cs : List HistEntry) (k : LogKind) (l : Option LaneId) (a : Option ActId) (p : Option Nat) (d : Option Int) (r : Option (Station × Byte)) (g : Option Group) (s : State) :
    (logWith cs k l a p d r g s).request = s.request :=
  by simp [logWith]
@[simp] theorem logWith_service (cs : List HistEntry) (k : LogKind) (l : Option LaneId) (a : Option ActId) (p : Option Nat) (d : Option Int) (r : Option (Station × Byte)) (g : Option Group) (s : State) :
    (logWith cs k l a p d r g s).service = s.service :=
  by simp [logWith]
@[simp] theorem logWith_tx (cs : List HistEntry) (k : LogKind) (l : Option LaneId) (a : Option ActId) (p : Option Nat) (d : Option Int) (r : Option (Station × Byte)) (g : Option Group) (s : State) :
    (logWith cs k l a p d r g s).tx = s.tx :=
  by simp [logWith]

/-! `logEntry` -/
@[simp] theorem logEntry_pending (k : LogKind) (l : Option LaneId) (a : Option ActId) (p : Option Nat) (d : Option Int) (r : Option (Station × Byte)) (g : Option Group) (s : State) :
    (logEntry k l a p d r g s).pending = s.pending :=
  by simp [logEntry]
@[simp] theorem logEntry_now (k : LogKind) (l : Option LaneId) (a : Option ActId) (p : Option Nat) (d : Option Int) (r : Option (Station × Byte)) (g : Option Group) (s : State) :
    (logEntry k l a p d r g s).now = s.now :=
  by simp [logEntry]
@[simp] theorem logEntry_startUp (k : LogKind) (l : Option LaneId) (a : Option ActId) (p : Option Nat) (d : Option Int) (r : Option (Station × Byte)) (g : Option Group) (s : State) :
    (logEntry k l a p d r g s).startUp = s.startUp :=
  by simp [logEntry]
@[simp] theorem logEntry_acts (k : LogKind) (l : Option LaneId) (a : Option ActId) (p : Option Nat) (d : Option Int) (r : Option (Station × Byte)) (g : Option Group) (s : State) :
    (logEntry k l a p d r g s).acts = s.acts :=
  by simp [logEntry]
@[simp] theorem logEntry_holders (k : LogKind) (l : Option LaneId) (a : Option ActId) (p : Option Nat) (d : Option Int) (r : Option (Station × Byte)) (g : Option Group) (s : State) :
    (logEntry k l a p d r g s).holders = s.holders :=
  by simp [logEntry]
@[simp] theorem logEntry_lanes (k : LogKind) (l : Option LaneId) (a : Option ActId) (p : Option Nat) (d : Option Int) (r : Option (Station × Byte)) (g : Option Group) (s : State) :
    (logEntry k l a p d r g s).lanes = s.lanes :=
  by simp [logEntry]
@[simp] theorem logEntry_waitList (k : LogKind) (l : Option LaneId) (a : Option ActId) (p : Option Nat) (d : Option Int) (r : Option (Station × Byte)) (g : Option Group) (s : State) :
    (logEntry k l a p d r g s).waitList = s.waitList :=
  by simp [logEntry]
@[simp] theorem logEntry_drives (k : LogKind) (l : Option LaneId) (a : Option ActId) (p : Option Nat) (d : Option Int) (r : Option (Station × Byte)) (g : Option Group) (s : State) :
    (logEntry k l a p d r g s).drives = s.drives :=
  by simp [logEntry]
@[simp] theorem logEntry_loads (k : LogKind) (l : Option LaneId) (a : Option ActId) (p : Option Nat) (d : Option Int) (r : Option (Station × Byte)) (g : Option Group) (s : State) :
    (logEntry k l a p d r g s).loads = s.loads :=
  by simp [logEntry]
@[simp] theorem logEntry_chans (k : LogKind) (l : Option LaneId) (a : Option ActId) (p : Option Nat) (d : Option Int) (r : Option (Station × Byte)) (g : Option Group) (s : State) :
    (logEntry k l a p d r g s).chans = s.chans :=
  by simp [logEntry]
@[simp] theorem logEntry_presence (k : LogKind) (l : Option LaneId) (a : Option ActId) (p : Option Nat) (d : Option Int) (r : Option (Station × Byte)) (g : Option Group) (s : State) :
    (logEntry k l a p d r g s).presence = s.presence :=
  by simp [logEntry]
@[simp] theorem logEntry_vehicle (k : LogKind) (l : Option LaneId) (a : Option ActId) (p : Option Nat) (d : Option Int) (r : Option (Station × Byte)) (g : Option Group) (s : State) :
    (logEntry k l a p d r g s).vehicle = s.vehicle :=
  by simp [logEntry]
@[simp] theorem logEntry_supply (k : LogKind) (l : Option LaneId) (a : Option ActId) (p : Option Nat) (d : Option Int) (r : Option (Station × Byte)) (g : Option Group) (s : State) :
    (logEntry k l a p d r g s).supply = s.supply :=
  by simp [logEntry]
@[simp] theorem logEntry_power (k : LogKind) (l : Option LaneId) (a : Option ActId) (p : Option Nat) (d : Option Int) (r : Option (Station × Byte)) (g : Option Group) (s : State) :
    (logEntry k l a p d r g s).power = s.power :=
  by simp [logEntry]
@[simp] theorem logEntry_request (k : LogKind) (l : Option LaneId) (a : Option ActId) (p : Option Nat) (d : Option Int) (r : Option (Station × Byte)) (g : Option Group) (s : State) :
    (logEntry k l a p d r g s).request = s.request :=
  by simp [logEntry]
@[simp] theorem logEntry_service (k : LogKind) (l : Option LaneId) (a : Option ActId) (p : Option Nat) (d : Option Int) (r : Option (Station × Byte)) (g : Option Group) (s : State) :
    (logEntry k l a p d r g s).service = s.service :=
  by simp [logEntry]
@[simp] theorem logEntry_tx (k : LogKind) (l : Option LaneId) (a : Option ActId) (p : Option Nat) (d : Option Int) (r : Option (Station × Byte)) (g : Option Group) (s : State) :
    (logEntry k l a p d r g s).tx = s.tx :=
  by simp [logEntry]

/-! `reply` -/
@[simp] theorem reply_pending (st : Station) (tag kind : Byte) (o : Option ReqObject) (v : Verdict) (ls : LaneSet) (h c : Bool) (s : State) :
    (reply st tag kind o v ls h c s).pending = s.pending :=
  by unfold reply; split <;> simp
@[simp] theorem reply_now (st : Station) (tag kind : Byte) (o : Option ReqObject) (v : Verdict) (ls : LaneSet) (h c : Bool) (s : State) :
    (reply st tag kind o v ls h c s).now = s.now :=
  by unfold reply; split <;> simp
@[simp] theorem reply_startUp (st : Station) (tag kind : Byte) (o : Option ReqObject) (v : Verdict) (ls : LaneSet) (h c : Bool) (s : State) :
    (reply st tag kind o v ls h c s).startUp = s.startUp :=
  by unfold reply; split <;> simp
@[simp] theorem reply_ram (st : Station) (tag kind : Byte) (o : Option ReqObject) (v : Verdict) (ls : LaneSet) (h c : Bool) (s : State) :
    (reply st tag kind o v ls h c s).ram = s.ram :=
  by unfold reply; split <;> simp
@[simp] theorem reply_store (st : Station) (tag kind : Byte) (o : Option ReqObject) (v : Verdict) (ls : LaneSet) (h c : Bool) (s : State) :
    (reply st tag kind o v ls h c s).store = s.store :=
  by unfold reply; split <;> simp
@[simp] theorem reply_checksums (st : Station) (tag kind : Byte) (o : Option ReqObject) (v : Verdict) (ls : LaneSet) (h c : Bool) (s : State) :
    (reply st tag kind o v ls h c s).checksums = s.checksums :=
  by unfold reply; split <;> simp
@[simp] theorem reply_acts (st : Station) (tag kind : Byte) (o : Option ReqObject) (v : Verdict) (ls : LaneSet) (h c : Bool) (s : State) :
    (reply st tag kind o v ls h c s).acts = s.acts :=
  by unfold reply; split <;> simp
@[simp] theorem reply_holders (st : Station) (tag kind : Byte) (o : Option ReqObject) (v : Verdict) (ls : LaneSet) (h c : Bool) (s : State) :
    (reply st tag kind o v ls h c s).holders = s.holders :=
  by unfold reply; split <;> simp
@[simp] theorem reply_lanes (st : Station) (tag kind : Byte) (o : Option ReqObject) (v : Verdict) (ls : LaneSet) (h c : Bool) (s : State) :
    (reply st tag kind o v ls h c s).lanes = s.lanes :=
  by unfold reply; split <;> simp
@[simp] theorem reply_waitList (st : Station) (tag kind : Byte) (o : Option ReqObject) (v : Verdict) (ls : LaneSet) (h c : Bool) (s : State) :
    (reply st tag kind o v ls h c s).waitList = s.waitList :=
  by unfold reply; split <;> simp
@[simp] theorem reply_drives (st : Station) (tag kind : Byte) (o : Option ReqObject) (v : Verdict) (ls : LaneSet) (h c : Bool) (s : State) :
    (reply st tag kind o v ls h c s).drives = s.drives :=
  by unfold reply; split <;> simp
@[simp] theorem reply_loads (st : Station) (tag kind : Byte) (o : Option ReqObject) (v : Verdict) (ls : LaneSet) (h c : Bool) (s : State) :
    (reply st tag kind o v ls h c s).loads = s.loads :=
  by unfold reply; split <;> simp
@[simp] theorem reply_chans (st : Station) (tag kind : Byte) (o : Option ReqObject) (v : Verdict) (ls : LaneSet) (h c : Bool) (s : State) :
    (reply st tag kind o v ls h c s).chans = s.chans :=
  by unfold reply; split <;> simp
@[simp] theorem reply_presence (st : Station) (tag kind : Byte) (o : Option ReqObject) (v : Verdict) (ls : LaneSet) (h c : Bool) (s : State) :
    (reply st tag kind o v ls h c s).presence = s.presence :=
  by unfold reply; split <;> simp
@[simp] theorem reply_vehicle (st : Station) (tag kind : Byte) (o : Option ReqObject) (v : Verdict) (ls : LaneSet) (h c : Bool) (s : State) :
    (reply st tag kind o v ls h c s).vehicle = s.vehicle :=
  by unfold reply; split <;> simp
@[simp] theorem reply_supply (st : Station) (tag kind : Byte) (o : Option ReqObject) (v : Verdict) (ls : LaneSet) (h c : Bool) (s : State) :
    (reply st tag kind o v ls h c s).supply = s.supply :=
  by unfold reply; split <;> simp
@[simp] theorem reply_service (st : Station) (tag kind : Byte) (o : Option ReqObject) (v : Verdict) (ls : LaneSet) (h c : Bool) (s : State) :
    (reply st tag kind o v ls h c s).service = s.service :=
  by unfold reply; split <;> simp

/-! `refuse` -/
@[simp] theorem refuse_pending (st : Station) (tag kind : Byte) (o : Option ReqObject) (v : Verdict) (s : State) :
    (refuse st tag kind o v s).pending = s.pending :=
  by simp [refuse]
@[simp] theorem refuse_now (st : Station) (tag kind : Byte) (o : Option ReqObject) (v : Verdict) (s : State) :
    (refuse st tag kind o v s).now = s.now :=
  by simp [refuse]
@[simp] theorem refuse_startUp (st : Station) (tag kind : Byte) (o : Option ReqObject) (v : Verdict) (s : State) :
    (refuse st tag kind o v s).startUp = s.startUp :=
  by simp [refuse]
@[simp] theorem refuse_ram (st : Station) (tag kind : Byte) (o : Option ReqObject) (v : Verdict) (s : State) :
    (refuse st tag kind o v s).ram = s.ram :=
  by simp [refuse]
@[simp] theorem refuse_store (st : Station) (tag kind : Byte) (o : Option ReqObject) (v : Verdict) (s : State) :
    (refuse st tag kind o v s).store = s.store :=
  by simp [refuse]
@[simp] theorem refuse_checksums (st : Station) (tag kind : Byte) (o : Option ReqObject) (v : Verdict) (s : State) :
    (refuse st tag kind o v s).checksums = s.checksums :=
  by simp [refuse]
@[simp] theorem refuse_acts (st : Station) (tag kind : Byte) (o : Option ReqObject) (v : Verdict) (s : State) :
    (refuse st tag kind o v s).acts = s.acts :=
  by simp [refuse]
@[simp] theorem refuse_holders (st : Station) (tag kind : Byte) (o : Option ReqObject) (v : Verdict) (s : State) :
    (refuse st tag kind o v s).holders = s.holders :=
  by simp [refuse]
@[simp] theorem refuse_lanes (st : Station) (tag kind : Byte) (o : Option ReqObject) (v : Verdict) (s : State) :
    (refuse st tag kind o v s).lanes = s.lanes :=
  by simp [refuse]
@[simp] theorem refuse_waitList (st : Station) (tag kind : Byte) (o : Option ReqObject) (v : Verdict) (s : State) :
    (refuse st tag kind o v s).waitList = s.waitList :=
  by simp [refuse]
@[simp] theorem refuse_drives (st : Station) (tag kind : Byte) (o : Option ReqObject) (v : Verdict) (s : State) :
    (refuse st tag kind o v s).drives = s.drives :=
  by simp [refuse]
@[simp] theorem refuse_loads (st : Station) (tag kind : Byte) (o : Option ReqObject) (v : Verdict) (s : State) :
    (refuse st tag kind o v s).loads = s.loads :=
  by simp [refuse]
@[simp] theorem refuse_chans (st : Station) (tag kind : Byte) (o : Option ReqObject) (v : Verdict) (s : State) :
    (refuse st tag kind o v s).chans = s.chans :=
  by simp [refuse]
@[simp] theorem refuse_presence (st : Station) (tag kind : Byte) (o : Option ReqObject) (v : Verdict) (s : State) :
    (refuse st tag kind o v s).presence = s.presence :=
  by simp [refuse]
@[simp] theorem refuse_vehicle (st : Station) (tag kind : Byte) (o : Option ReqObject) (v : Verdict) (s : State) :
    (refuse st tag kind o v s).vehicle = s.vehicle :=
  by simp [refuse]
@[simp] theorem refuse_supply (st : Station) (tag kind : Byte) (o : Option ReqObject) (v : Verdict) (s : State) :
    (refuse st tag kind o v s).supply = s.supply :=
  by simp [refuse]
@[simp] theorem refuse_service (st : Station) (tag kind : Byte) (o : Option ReqObject) (v : Verdict) (s : State) :
    (refuse st tag kind o v s).service = s.service :=
  by simp [refuse]

/-! `quickenPeriod` -/
@[simp] theorem quickenPeriod_pending (s : State) : (quickenPeriod s).pending = s.pending :=
  by unfold quickenPeriod; split; (split <;> rfl); rfl
@[simp] theorem quickenPeriod_now (s : State) : (quickenPeriod s).now = s.now :=
  by unfold quickenPeriod; split; (split <;> rfl); rfl
@[simp] theorem quickenPeriod_startUp (s : State) : (quickenPeriod s).startUp = s.startUp :=
  by unfold quickenPeriod; split; (split <;> rfl); rfl
@[simp] theorem quickenPeriod_ram (s : State) : (quickenPeriod s).ram = s.ram :=
  by unfold quickenPeriod; split; (split <;> rfl); rfl
@[simp] theorem quickenPeriod_store (s : State) : (quickenPeriod s).store = s.store :=
  by unfold quickenPeriod; split; (split <;> rfl); rfl
@[simp] theorem quickenPeriod_checksums (s : State) : (quickenPeriod s).checksums = s.checksums :=
  by unfold quickenPeriod; split; (split <;> rfl); rfl
@[simp] theorem quickenPeriod_acts (s : State) : (quickenPeriod s).acts = s.acts :=
  by unfold quickenPeriod; split; (split <;> rfl); rfl
@[simp] theorem quickenPeriod_holders (s : State) : (quickenPeriod s).holders = s.holders :=
  by unfold quickenPeriod; split; (split <;> rfl); rfl
@[simp] theorem quickenPeriod_lanes (s : State) : (quickenPeriod s).lanes = s.lanes :=
  by unfold quickenPeriod; split; (split <;> rfl); rfl
@[simp] theorem quickenPeriod_waitList (s : State) : (quickenPeriod s).waitList = s.waitList :=
  by unfold quickenPeriod; split; (split <;> rfl); rfl
@[simp] theorem quickenPeriod_drives (s : State) : (quickenPeriod s).drives = s.drives :=
  by unfold quickenPeriod; split; (split <;> rfl); rfl
@[simp] theorem quickenPeriod_loads (s : State) : (quickenPeriod s).loads = s.loads :=
  by unfold quickenPeriod; split; (split <;> rfl); rfl
@[simp] theorem quickenPeriod_chans (s : State) : (quickenPeriod s).chans = s.chans :=
  by unfold quickenPeriod; split; (split <;> rfl); rfl
@[simp] theorem quickenPeriod_presence (s : State) : (quickenPeriod s).presence = s.presence :=
  by unfold quickenPeriod; split; (split <;> rfl); rfl
@[simp] theorem quickenPeriod_vehicle (s : State) : (quickenPeriod s).vehicle = s.vehicle :=
  by unfold quickenPeriod; split; (split <;> rfl); rfl
@[simp] theorem quickenPeriod_supply (s : State) : (quickenPeriod s).supply = s.supply :=
  by unfold quickenPeriod; split; (split <;> rfl); rfl
@[simp] theorem quickenPeriod_power (s : State) : (quickenPeriod s).power = s.power :=
  by unfold quickenPeriod; split; (split <;> rfl); rfl
@[simp] theorem quickenPeriod_request (s : State) : (quickenPeriod s).request = s.request :=
  by unfold quickenPeriod; split; (split <;> rfl); rfl
@[simp] theorem quickenPeriod_service (s : State) : (quickenPeriod s).service = s.service :=
  by unfold quickenPeriod; split; (split <;> rfl); rfl
@[simp] theorem quickenPeriod_tx (s : State) : (quickenPeriod s).tx = s.tx :=
  by unfold quickenPeriod; split; (split <;> rfl); rfl

/-! `beginSeeding` -/
@[simp] theorem beginSeeding_pending (c : ChanId) (s : State) : (beginSeeding c s).pending = s.pending :=
  by unfold beginSeeding; dsimp only; split; (split <;> rfl); rfl
@[simp] theorem beginSeeding_now (c : ChanId) (s : State) : (beginSeeding c s).now = s.now :=
  by unfold beginSeeding; dsimp only; split; (split <;> rfl); rfl
@[simp] theorem beginSeeding_startUp (c : ChanId) (s : State) : (beginSeeding c s).startUp = s.startUp :=
  by unfold beginSeeding; dsimp only; split; (split <;> rfl); rfl
@[simp] theorem beginSeeding_ram (c : ChanId) (s : State) : (beginSeeding c s).ram = s.ram :=
  by unfold beginSeeding; dsimp only; split; (split <;> rfl); rfl
@[simp] theorem beginSeeding_store (c : ChanId) (s : State) : (beginSeeding c s).store = s.store :=
  by unfold beginSeeding; dsimp only; split; (split <;> rfl); rfl
@[simp] theorem beginSeeding_checksums (c : ChanId) (s : State) : (beginSeeding c s).checksums = s.checksums :=
  by unfold beginSeeding; dsimp only; split; (split <;> rfl); rfl
@[simp] theorem beginSeeding_acts (c : ChanId) (s : State) : (beginSeeding c s).acts = s.acts :=
  by unfold beginSeeding; dsimp only; split; (split <;> rfl); rfl
@[simp] theorem beginSeeding_holders (c : ChanId) (s : State) : (beginSeeding c s).holders = s.holders :=
  by unfold beginSeeding; dsimp only; split; (split <;> rfl); rfl
@[simp] theorem beginSeeding_lanes (c : ChanId) (s : State) : (beginSeeding c s).lanes = s.lanes :=
  by unfold beginSeeding; dsimp only; split; (split <;> rfl); rfl
@[simp] theorem beginSeeding_waitList (c : ChanId) (s : State) : (beginSeeding c s).waitList = s.waitList :=
  by unfold beginSeeding; dsimp only; split; (split <;> rfl); rfl
@[simp] theorem beginSeeding_drives (c : ChanId) (s : State) : (beginSeeding c s).drives = s.drives :=
  by unfold beginSeeding; dsimp only; split; (split <;> rfl); rfl
@[simp] theorem beginSeeding_loads (c : ChanId) (s : State) : (beginSeeding c s).loads = s.loads :=
  by unfold beginSeeding; dsimp only; split; (split <;> rfl); rfl
@[simp] theorem beginSeeding_vehicle (c : ChanId) (s : State) : (beginSeeding c s).vehicle = s.vehicle :=
  by unfold beginSeeding; dsimp only; split; (split <;> rfl); rfl
@[simp] theorem beginSeeding_supply (c : ChanId) (s : State) : (beginSeeding c s).supply = s.supply :=
  by unfold beginSeeding; dsimp only; split; (split <;> rfl); rfl
@[simp] theorem beginSeeding_power (c : ChanId) (s : State) : (beginSeeding c s).power = s.power :=
  by unfold beginSeeding; dsimp only; split; (split <;> rfl); rfl
@[simp] theorem beginSeeding_request (c : ChanId) (s : State) : (beginSeeding c s).request = s.request :=
  by unfold beginSeeding; dsimp only; split; (split <;> rfl); rfl
@[simp] theorem beginSeeding_service (c : ChanId) (s : State) : (beginSeeding c s).service = s.service :=
  by unfold beginSeeding; dsimp only; split; (split <;> rfl); rfl
@[simp] theorem beginSeeding_report (c : ChanId) (s : State) : (beginSeeding c s).report = s.report :=
  by unfold beginSeeding; dsimp only; split; (split <;> rfl); rfl
@[simp] theorem beginSeeding_tx (c : ChanId) (s : State) : (beginSeeding c s).tx = s.tx :=
  by unfold beginSeeding; dsimp only; split; (split <;> rfl); rfl

/-! `driftTest` -/
@[simp] theorem driftTest_pending (c : ChanId) (s : State) : (driftTest c s).pending = s.pending :=
  by unfold driftTest; dsimp only; (repeat' split) <;> rfl
@[simp] theorem driftTest_now (c : ChanId) (s : State) : (driftTest c s).now = s.now :=
  by unfold driftTest; dsimp only; (repeat' split) <;> rfl
@[simp] theorem driftTest_startUp (c : ChanId) (s : State) : (driftTest c s).startUp = s.startUp :=
  by unfold driftTest; dsimp only; (repeat' split) <;> rfl
@[simp] theorem driftTest_ram (c : ChanId) (s : State) : (driftTest c s).ram = s.ram :=
  by unfold driftTest; dsimp only; (repeat' split) <;> rfl
@[simp] theorem driftTest_store (c : ChanId) (s : State) : (driftTest c s).store = s.store :=
  by unfold driftTest; dsimp only; (repeat' split) <;> rfl
@[simp] theorem driftTest_checksums (c : ChanId) (s : State) : (driftTest c s).checksums = s.checksums :=
  by unfold driftTest; dsimp only; (repeat' split) <;> rfl
@[simp] theorem driftTest_acts (c : ChanId) (s : State) : (driftTest c s).acts = s.acts :=
  by unfold driftTest; dsimp only; (repeat' split) <;> rfl
@[simp] theorem driftTest_holders (c : ChanId) (s : State) : (driftTest c s).holders = s.holders :=
  by unfold driftTest; dsimp only; (repeat' split) <;> rfl
@[simp] theorem driftTest_lanes (c : ChanId) (s : State) : (driftTest c s).lanes = s.lanes :=
  by unfold driftTest; dsimp only; (repeat' split) <;> rfl
@[simp] theorem driftTest_waitList (c : ChanId) (s : State) : (driftTest c s).waitList = s.waitList :=
  by unfold driftTest; dsimp only; (repeat' split) <;> rfl
@[simp] theorem driftTest_drives (c : ChanId) (s : State) : (driftTest c s).drives = s.drives :=
  by unfold driftTest; dsimp only; (repeat' split) <;> rfl
@[simp] theorem driftTest_loads (c : ChanId) (s : State) : (driftTest c s).loads = s.loads :=
  by unfold driftTest; dsimp only; (repeat' split) <;> rfl
@[simp] theorem driftTest_vehicle (c : ChanId) (s : State) : (driftTest c s).vehicle = s.vehicle :=
  by unfold driftTest; dsimp only; (repeat' split) <;> rfl
@[simp] theorem driftTest_supply (c : ChanId) (s : State) : (driftTest c s).supply = s.supply :=
  by unfold driftTest; dsimp only; (repeat' split) <;> rfl
@[simp] theorem driftTest_power (c : ChanId) (s : State) : (driftTest c s).power = s.power :=
  by unfold driftTest; dsimp only; (repeat' split) <;> rfl
@[simp] theorem driftTest_request (c : ChanId) (s : State) : (driftTest c s).request = s.request :=
  by unfold driftTest; dsimp only; (repeat' split) <;> rfl
@[simp] theorem driftTest_service (c : ChanId) (s : State) : (driftTest c s).service = s.service :=
  by unfold driftTest; dsimp only; (repeat' split) <;> rfl
@[simp] theorem driftTest_report (c : ChanId) (s : State) : (driftTest c s).report = s.report :=
  by unfold driftTest; dsimp only; (repeat' split) <;> rfl
@[simp] theorem driftTest_tx (c : ChanId) (s : State) : (driftTest c s).tx = s.tx :=
  by unfold driftTest; dsimp only; (repeat' split) <;> rfl

/-! ### The records that the plain updates write -/

@[simp] theorem updLane_lanes (l : LaneId) (f : Lane → Lane) (s : State) :
    (updLane l f s).lanes = put s.lanes l (f s.lanes[l]) := by simp [updLane]
@[simp] theorem updLoad_loads (l : LaneId) (f : Load → Load) (s : State) :
    (updLoad l f s).loads = put s.loads l (f s.loads[l]) := rfl
@[simp] theorem updDrive_drives (l : LaneId) (f : Drive → Drive) (s : State) :
    (updDrive l f s).drives = put s.drives l (f s.drives[l]) := rfl
@[simp] theorem openRelay_drives (l : LaneId) (s : State) :
    (openRelay l s).drives = put s.drives l s.drives[l].opened := rfl
@[simp] theorem updChan_chans (c : ChanId) (f : ChanRun → ChanRun) (s : State) :
    (updChan c f s).chans = put s.chans c (f s.chans[c]) := rfl
@[simp] theorem updAct_acts (a : ActId) (f : ActRun → ActRun) (s : State) :
    (updAct a f s).acts = put s.acts a (f s.acts[a]) := by simp [updAct]
@[simp] theorem driveStop_acts (a : ActId) (s : State) :
    (driveStop a s).acts = put s.acts a { s.acts[a] with cond := .inRunOn, runOn := some runOnTime } := by
  simp [driveStop]
@[simp] theorem note_lanes (l : LaneId) (i : BitVec 7) (s : State) :
    (note l i s).lanes = put s.lanes l { s.lanes[l] with incidents := s.lanes[l].incidents ||| i } := by simp [note]
@[simp] theorem updCtx_lanes (l : LaneId) (f : StepCtx → StepCtx) (s : State) :
    (updCtx l f s).lanes = put s.lanes l { s.lanes[l] with ctx := s.lanes[l].ctx.map f } := by simp [updCtx]
@[simp] theorem enterPaused_lanes (l : LaneId) (r : PauseReason) (p : ResumePoint) (s : State) :
    (enterPaused l r p s).lanes = put s.lanes l { s.lanes[l].leaving with
      state := .paused, pauseReason := some r, resumePoint := some p, pauseTimer := some pauseTime } := by
  simp [enterPaused]
@[simp] theorem enterFenced_lanes (l : LaneId) (s : State) :
    (enterFenced l s).lanes = put s.lanes l { s.lanes[l].leaving with
      state := .fenced, incidents := s.lanes[l].incidents ||| incFencedSeen, totalTimer := some totalTime
      clearTimer := if !meets (heldBy s l) (fenced s) then some clearTime else none } := by
  simp [enterFenced]
@[simp] theorem enterWaitAdvance_lanes (l : LaneId) (s : State) :
    (enterWaitAdvance l s).lanes = put s.lanes l { s.lanes[l].leaving with
      state := .waitAdvance, pauseTimer := some pauseTime } := by
  simp [enterWaitAdvance]
@[simp] theorem enterStopping_lanes (l : LaneId) (d : StopDest) (s : State) :
    (enterStopping l d s).lanes = put s.lanes l { s.lanes[l].leaving with
      state := .stopping, stopDest := some d } := by
  simp [enterStopping]
/-- The end of a back-off leaves the lane in STOPPING with the interrupted motion, and no other lane's record changes. -/
@[simp] theorem endBackOff_lanes (l : LaneId) (d : StopDest) (s : State) :
    (endBackOff l d s).lanes = put s.lanes l { s.lanes[l].leaving with
      state := .stopping, stopDest := some d
      ctx := s.lanes[l].ctx.map fun c => { c with motion := interruptedMotion c s.loads[l].learn } } := by
  simp [endBackOff, put, Lane.leaving]
/-- No motion that a back-off interrupted is itself a back-off. -/
theorem interruptedMotion_ne_backOff (c : StepCtx) (r : Option LearnRec) : interruptedMotion c r ≠ .backOff := by
  unfold interruptedMotion; (repeat' split) <;> simp
/-- A FIRM in MOVING makes BACK_OFF the motion of the lane's step context and leaves the rest of it as it is. -/
theorem firmContact_ctx (l : LaneId) (s : State) {a : ActId} {d : Direction} (ha : s.drives[l].connected = some a)
    (hd : s.drives[l].direction = some d) :
    (firmContact l s).lanes[l].ctx = s.lanes[l].ctx.map fun c => { c with motion := .backOff } := by
  unfold firmContact; simp only [ha, hd]; simp [-Fin.getElem_fin, logEntry, logWith, Lane.leaving]
@[simp] theorem enterSettling_lanes (l : LaneId) (s : State) :
    (enterSettling l s).lanes = put s.lanes l { s.lanes[l].leaving with state := .settling } := by
  simp [enterSettling]

/-- A stop order brakes a DRIVING channel and leaves any other as it is. -/
theorem brake_drives (l : LaneId) (ms : Nat) (rev : Bool) (s : State) :
    (brake l ms rev s).drives =
      if s.drives[l].phase = .driving then
        put s.drives l { s.drives[l] with
          phase := .braking, duty := 0, brakeTimer := some ms, reversal := rev, blanking := false
          stallTime := none }
      else s.drives := by
  unfold brake; dsimp only; split
  · split <;> simp
  · rfl
@[simp] theorem enterStopping_drives (l : LaneId) (d : StopDest) (s : State) :
    (enterStopping l d s).drives = (brake l brakeTime false s).drives := by simp [enterStopping]
@[simp] theorem endBackOff_drives (l : LaneId) (d : StopDest) (s : State) :
    (endBackOff l d s).drives = (brake l brakeTime false s).drives := by simp [endBackOff, brake_drives]
@[simp] theorem enterSettling_drives (l : LaneId) (s : State) :
    (enterSettling l s).drives = (brake l brakeTime false s).drives := by simp [enterSettling]

/-- A drive stop opens the run-on window of the connected actuator and changes no other record of an actuator. -/
theorem brake_acts (l : LaneId) (ms : Nat) (rev : Bool) (s : State) :
    (brake l ms rev s).acts =
      match s.drives[l].phase, s.drives[l].connected with
      | .driving, some a => put s.acts a { s.acts[a] with cond := .inRunOn, runOn := some runOnTime }
      | _, _ => s.acts := by
  unfold brake; dsimp only; split
  · rename_i h; rw [h]; split <;> rename_i h <;> simp [-Fin.getElem_fin, h]
  · rename_i h
    split
    · contradiction
    · rfl
@[simp] theorem enterStopping_acts (l : LaneId) (d : StopDest) (s : State) :
    (enterStopping l d s).acts = (brake l brakeTime false s).acts := by simp [enterStopping]
@[simp] theorem endBackOff_acts (l : LaneId) (d : StopDest) (s : State) :
    (endBackOff l d s).acts = (brake l brakeTime false s).acts := by simp [endBackOff, brake_acts]
@[simp] theorem enterSettling_acts (l : LaneId) (s : State) :
    (enterSettling l s).acts = (brake l brakeTime false s).acts := by simp [enterSettling]

/-! ### The power mode and its timers after an update of a lane -/

@[simp] theorem followIdle_mode (b : Bool) (s : State) : (followIdle b s).power.mode = s.power.mode := by
  unfold followIdle; split; rfl; split <;> rfl
@[simp] theorem followIdle_notice (b : Bool) (s : State) : (followIdle b s).power.notice = s.power.notice := by
  unfold followIdle; split; rfl; split <;> rfl
@[simp] theorem followIdle_silenceTimer (b : Bool) (s : State) :
    (followIdle b s).power.silenceTimer = s.power.silenceTimer := by
  unfold followIdle; split; rfl; split <;> rfl
@[simp] theorem followIdle_silenceExpired (b : Bool) (s : State) :
    (followIdle b s).power.silenceExpired = s.power.silenceExpired := by
  unfold followIdle; split; rfl; split <;> rfl
@[simp] theorem followIdle_sleepWaiting (b : Bool) (s : State) :
    (followIdle b s).power.sleepWaiting = s.power.sleepWaiting := by
  unfold followIdle; split; rfl; split <;> rfl
@[simp] theorem updLane_mode (l : LaneId) (f : Lane → Lane) (s : State) :
    (updLane l f s).power.mode = s.power.mode := by simp [updLane]
@[simp] theorem updLane_notice (l : LaneId) (f : Lane → Lane) (s : State) :
    (updLane l f s).power.notice = s.power.notice := by simp [updLane]
@[simp] theorem updLane_silenceTimer (l : LaneId) (f : Lane → Lane) (s : State) :
    (updLane l f s).power.silenceTimer = s.power.silenceTimer := by simp [updLane]
@[simp] theorem updLane_silenceExpired (l : LaneId) (f : Lane → Lane) (s : State) :
    (updLane l f s).power.silenceExpired = s.power.silenceExpired := by simp [updLane]
@[simp] theorem activate_mode (s : State) : (activate s).power.mode = .active := by simp [activate]
@[simp] theorem activate_notice (s : State) : (activate s).power.notice = s.power.notice := by simp [activate]
@[simp] theorem activate_silenceTimer (s : State) :
    (activate s).power.silenceTimer = s.power.silenceTimer := by simp [activate]
@[simp] theorem activate_silenceExpired (s : State) :
    (activate s).power.silenceExpired = s.power.silenceExpired := by simp [activate]
@[simp] theorem resumeSupplyTimer_measured (s : State) :
    (resumeSupplyTimer s).supply.measured = s.supply.measured := by unfold resumeSupplyTimer; split <;> rfl
@[simp] theorem resumeSupplyTimer_pin (s : State) :
    (resumeSupplyTimer s).supply.pin = s.supply.pin := by unfold resumeSupplyTimer; split <;> rfl
@[simp] theorem resumeSupplyTimer_low (s : State) :
    (resumeSupplyTimer s).supply.low = s.supply.low := by unfold resumeSupplyTimer; split <;> rfl
@[simp] theorem resumeSupplyTimer_lowRun (s : State) :
    (resumeSupplyTimer s).supply.lowRun = s.supply.lowRun := by unfold resumeSupplyTimer; split <;> rfl

end Sys2Proof.Machine
end

