-- ==== Sys2Proof/Laws/Apart.lean ====
section
/-! SUPPORT. What the operations on other lanes leave of a lane, said once: `Apart l s t` says that from s to t the lane
record of l (but its fence clear timer, which unfences start), its channel, its load context and its zones are the
same, and that l, off the wait list before, is off it after. Each operation has the lemma `apart_<op>`. -/

namespace Sys2Proof.Machine

open Sys2Proof Sys2Proof.Safety

/-- The parts of a lane that other lanes' operations leave alone. -/
structure Own where
  lane : Lane
  drive : Drive
  load : Load
  zones : ZoneSet

/-- A lane record but for its fence clear timer. -/
def Lane.stem (r : Lane) : Lane := { r with clearTimer := none }

def own (l : LaneId) (s : State) : Own := ⟨s.lanes[l].stem, s.drives[l], s.loads[l], heldBy s l⟩

structure Apart (l : LaneId) (s t : State) : Prop where
  own : own l t = own l s
  list : Unlisted s l → Unlisted t l

section
variable {l k : LaneId} {s t u : State}

theorem Apart.refl : Apart l s s := ⟨rfl, id⟩
theorem Apart.trans (h : Apart l s t) (g : Apart l t u) : Apart l s u := ⟨g.own.trans h.own, fun x => g.list (h.list x)⟩

/-- Reading a field off. -/
theorem Apart.record (h : Apart l s t) : t.lanes[l].stem = s.lanes[l].stem := congrArg Own.lane h.own
theorem Apart.state (h : Apart l s t) : t.lanes[l].state = s.lanes[l].state := by
  have := congrArg Lane.state h.record; exact this
theorem Apart.mode (h : Apart l s t) : t.lanes[l].mode = s.lanes[l].mode := by
  have := congrArg Lane.mode h.record; exact this
theorem Apart.ctx (h : Apart l s t) : t.lanes[l].ctx = s.lanes[l].ctx := by
  have := congrArg Lane.ctx h.record; exact this
theorem Apart.stopDest (h : Apart l s t) : t.lanes[l].stopDest = s.lanes[l].stopDest := by
  have := congrArg Lane.stopDest h.record; exact this
theorem Apart.pendingOrder (h : Apart l s t) : t.lanes[l].pendingOrder = s.lanes[l].pendingOrder := by
  have := congrArg Lane.pendingOrder h.record; exact this
theorem Apart.lastResult (h : Apart l s t) : t.lanes[l].lastResult = s.lanes[l].lastResult := by
  have := congrArg Lane.lastResult h.record; exact this
theorem Apart.drive (h : Apart l s t) : t.drives[l] = s.drives[l] := congrArg Own.drive h.own
theorem Apart.load (h : Apart l s t) : t.loads[l] = s.loads[l] := congrArg Own.load h.own
theorem Apart.zones (h : Apart l s t) : heldBy t l = heldBy s l := congrArg Own.zones h.own
theorem Apart.holder (h : Apart l s t) (z : ZoneId) : t.holders[z] = some l ↔ s.holders[z] = some l := by
  have := congrArg (fun x => has x z) h.zones
  simpa only [has_heldBy, decide_eq_decide] using this

/-- The same lane record, channel, load context, holders and wait list are enough. -/
theorem Apart.of (h1 : t.lanes[l] = s.lanes[l]) (h2 : t.drives[l] = s.drives[l]) (h3 : t.loads[l] = s.loads[l])
    (h4 : t.holders = s.holders) (h5 : t.waitList = s.waitList) : Apart l s t := by
  refine ⟨?_, fun h => by rw [Unlisted, h5]; exact h⟩
  simp only [Machine.own, heldBy, h1, h2, h3, h4]

/-- A lane in the motion states or FENCED keeps its clear timer too where the operation does not touch lanes. -/
theorem Apart.foldl {α : Type} (f : State → α → State) (h : ∀ s x, Apart l s (f s x)) (xs : List α) :
    Apart l s (xs.foldl f s) := by
  induction xs generalizing s with
  | nil => exact .refl
  | cons x xs ih => exact (h s x).trans ih

end

section
variable {l k : LaneId} (s : State)

theorem apart_mark (f : Flag) : Apart l s (mark f s) := .of rfl rfl rfl rfl rfl
theorem apart_markIf (b : Bool) (f : Flag) : Apart l s (markIf b f s) := by
  unfold markIf; split
  · exact apart_mark s f
  · exact .refl
theorem apart_activate : Apart l s (activate s) := by
  refine .of ?_ ?_ ?_ ?_ ?_ <;> simp
theorem apart_updChan (c : ChanId) (f : ChanRun → ChanRun) : Apart l s (updChan c f s) := .of rfl rfl rfl rfl rfl
theorem apart_dequeue (c : ChanId) : Apart l s (dequeue c s) := .of rfl rfl rfl rfl rfl

theorem apart_updLane (h : k ≠ l) (f : Lane → Lane) : Apart l s (updLane k f s) := by
  refine .of ?_ ?_ ?_ ?_ ?_ <;> simp [-Fin.getElem_fin, put_other _ (Ne.symm h)]
theorem apart_updDrive (h : k ≠ l) (f : Drive → Drive) : Apart l s (updDrive k f s) := by
  refine .of ?_ ?_ ?_ ?_ ?_ <;> simp [-Fin.getElem_fin, put_other _ (Ne.symm h)]
theorem apart_updLoad (h : k ≠ l) (f : Load → Load) : Apart l s (updLoad k f s) := by
  refine .of ?_ ?_ ?_ ?_ ?_ <;> simp [-Fin.getElem_fin, put_other _ (Ne.symm h)]

theorem apart_clearTimer (x : Option Nat) : Apart l s (updLane k (fun r => { r with clearTimer := x }) s) := by
  by_cases h : k = l
  · subst h
    refine ⟨?_, ?_⟩
    · simp [-Fin.getElem_fin, own, Lane.stem, heldBy]
    · simp [Unlisted]
  · exact apart_updLane s h _

theorem apart_leaveList : Apart l s (leaveList k s) :=
  ⟨rfl, fun h e he => h e (List.mem_filter.1 he).1⟩

theorem apart_openRelay (h : k ≠ l) : Apart l s (openRelay k s) := apart_updDrive s h _
theorem apart_armOrder (h : k ≠ l) (a : ActId) : Apart l s (armOrder k a s) := apart_updDrive s h _
theorem apart_note (h : k ≠ l) (i : BitVec 7) : Apart l s (note k i s) := apart_updLane s h _
theorem apart_updCtx (h : k ≠ l) (f : StepCtx → StepCtx) : Apart l s (updCtx k f s) := apart_updLane s h _
theorem apart_enterPaused (h : k ≠ l) (r : PauseReason) (p : ResumePoint) : Apart l s (enterPaused k r p s) :=
  apart_updLane s h _
theorem apart_enterFenced (h : k ≠ l) : Apart l s (enterFenced k s) := by
  unfold enterFenced; exact apart_updLane s h _
theorem apart_enterWaitAdvance (h : k ≠ l) : Apart l s (enterWaitAdvance k s) := apart_updLane s h _

theorem apart_updAct (a : ActId) (f : ActRun → ActRun) : Apart l s (updAct a f s) := by
  refine .of ?_ ?_ ?_ ?_ ?_ <;> simp

theorem apart_resumeSupplyTimer : Apart l s (resumeSupplyTimer s) := by
  unfold resumeSupplyTimer; split
  · exact .refl
  · exact .of rfl rfl rfl rfl rfl

theorem apart_brake (h : k ≠ l) (ms : Nat) (rev : Bool) : Apart l s (brake k ms rev s) := by
  unfold brake; dsimp only; split
  · refine .trans ?_ (apart_resumeSupplyTimer _)
    split
    · exact (apart_updDrive s h _).trans (apart_updAct _ _ _)
    · exact apart_updDrive s h _
  · exact .refl

theorem apart_enterStopping (h : k ≠ l) (d : StopDest) : Apart l s (enterStopping k d s) :=
  (apart_brake s h _ _).trans (apart_updLane _ h _)
theorem apart_endBackOff (h : k ≠ l) (d : StopDest) : Apart l s (endBackOff k d s) :=
  (apart_updCtx s h _).trans (apart_enterStopping _ h d)
/-- The end of a back-off changes nothing of the lane's step context but its motion, which is the interrupted one. -/
theorem endBackOff_backedOff (d : StopDest) : BackedOff s (endBackOff l d s) l := by
  simp only [BackedOff, endBackOff_lanes, put_self]
  congr 1; funext c
  unfold interruptedMotion
  cases s.loads[l].learn with
  | none => rfl
  | some r => cases hp : r.phase <;> simp [hp]
theorem apart_enterSettling (h : k ≠ l) : Apart l s (enterSettling k s) :=
  (apart_brake s h _ _).trans (apart_updLane _ h _)

theorem apart_deliverUnfence (z : ZoneSet) : Apart l s (deliverUnfence z s) := by
  unfold deliverUnfence
  refine .foldl _ (fun s k => ?_) _
  split
  · exact apart_clearTimer s _
  · exact .refl

theorem apart_suspendTune : Apart l s (suspendTune s) := by
  unfold suspendTune; split
  · exact .refl
  · dsimp only
    refine .trans (.trans (.trans ?_ (apart_markIf _ _ _)) (apart_deliverUnfence _ _)) (apart_activate _)
    exact .of rfl rfl rfl rfl rfl

theorem apart_enterArming (h : k ≠ l) : Apart l s (enterArming k s) := by
  unfold enterArming; split
  · exact .refl
  · exact (apart_armOrder s h _).trans ((apart_updLane _ h _).trans (apart_suspendTune _))

/-- Zones given to another lane: none of them had this lane as holder. -/
theorem apart_setHolders (zs : ZoneSet) (x : Option LaneId) (hx : x ≠ some l)
    (hz : ∀ z : ZoneId, has zs z = true → s.holders[z] ≠ some l) : Apart l s (setHolders zs x s) := by
  refine ⟨?_, id⟩
  have : heldBy (setHolders zs x s) l = heldBy s l := by
    refine set_ext fun z => ?_
    rw [has_heldBy, has_heldBy]
    simp only [setHolders, tab_get]
    split
    · next e => simp [-Fin.getElem_fin, hx, hz z e]
    · rfl
  simp only [own, this]
  rfl

theorem apart_grant (e : WaitEntry) (h : e.lane ≠ l) (g : grantable s e.wanted = true) : Apart l s (grant e s) := by
  have a : Apart l s (leaveList e.lane (setHolders e.wanted (some e.lane) s)) := by
    refine .trans (apart_setHolders s e.wanted (some e.lane) (fun x => h (Option.some.inj x)) fun z hz => ?_)
      (apart_leaveList _)
    rw [((grantable_iff s _).1 g z hz).1]; simp
  unfold grant; dsimp only
  refine .trans ?_ (apart_enterArming _ h)
  split
  · exact a
  · exact a.trans ((apart_mark _ _).trans (apart_mark _ _))

theorem apart_yieldTest (e : WaitEntry) : Apart l s (yieldTest e s) := by
  unfold yieldTest; split
  · refine .trans ?_ (apart_suspendTune _)
    refine ⟨rfl, fun h x hx => ?_⟩
    obtain ⟨y, hy, rfl⟩ := List.mem_map.1 hx
    split <;> exact h y hy
  · exact .refl

/-- The entry found for a lane is that lane's. -/
theorem entryOf_some {e : WaitEntry} (h : entryOf s k = some e) : e ∈ s.waitList ∧ e.lane = k :=
  ⟨List.mem_of_find?_eq_some h, by simpa using List.find?_some h⟩

theorem apart_visit (u : Unlisted s l) : Apart l s (visit s k) := by
  unfold visit; split
  · exact .refl
  · next e he =>
    split
    · next g => exact apart_grant s e (u e (entryOf_some s he).1) g
    · exact apart_yieldTest s e

theorem Apart.foldl_of {α : Type} {f : State → α → State} (h : ∀ s x, Unlisted s l → Apart l s (f s x)) (xs : List α)
    {s : State} (u : Unlisted s l) : Apart l s (xs.foldl f s) := by
  induction xs generalizing s with
  | nil => exact .refl
  | cons x xs ih => exact (h s x u).trans (ih ((h s x u).list u))

theorem apart_scanOnce (u : Unlisted s l) : Apart l s (scanOnce s) :=
  .foldl_of (fun s _ u => apart_visit s u) _ u

theorem apart_rescanned {t : State} (h : Apart l s t) (u : Unlisted s l) (r : State) : Apart l s (rescanned r t) := by
  unfold rescanned; split
  · exact h.trans (apart_scanOnce t (h.list u))
  · exact h

theorem apart_scan (u : Unlisted s l) : Apart l s (scan s) := apart_rescanned s (apart_scanOnce s u) u s

theorem Apart.scan {s t : State} (h : Apart l s t) (u : Unlisted s l) : Apart l s (scan t) :=
  h.trans (apart_scan t (h.list u))

theorem apart_yieldTests (u : Unlisted s l) : Apart l s (yieldTests s) := by
  refine apart_rescanned s (.foldl_of (fun s k u => ?_) _ u) u s
  split
  · exact .refl
  · exact apart_yieldTest s _

theorem apart_release (h : k ≠ l) (u : Unlisted s l) (zs : ZoneSet) : Apart l s (release k zs s) := by
  unfold release; dsimp only; split
  · exact .refl
  · refine .scan (.trans (.trans ?_ (apart_mark _ _)) (apart_mark _ _)) u
    refine apart_setHolders s _ _ (by simp) fun z hz => ?_
    simp only [has_and, has_heldBy, Bool.and_eq_true, decide_eq_true_eq] at hz
    rw [hz.2]; exact fun x => h (Option.some.inj x)

theorem apart_releaseAll (h : k ≠ l) (u : Unlisted s l) : Apart l s (releaseAll k s) := apart_release s h u _

theorem apart_arm (h : k ≠ l) (u : Unlisted s l) : Apart l s (arm k s) :=
  apart_rescanned s (apart_enterArming s h) u s

theorem apart_join (h : k ≠ l) (u : Unlisted s l) : Apart l s (join k s) := by
  unfold join; split
  · exact .refl
  · refine .scan (.trans (.trans (apart_releaseAll s h u) ?_) (apart_updLane _ h _)) u
    refine ⟨rfl, fun v e he => ?_⟩
    rcases List.mem_append.1 he with he | he
    · exact v e he
    · rw [List.mem_singleton.1 he]; exact h

/-! ### What another lane does -/

theorem apart_unbindLane : Apart l s (unbindLane k s) := by
  unfold unbindLane
  refine .foldl _ (fun s a => ?_) _
  split
  · exact .of rfl rfl rfl rfl rfl
  · exact .refl

theorem apart_bindAll (as : List ActId) : Apart l s (bindAll k as s) := by
  unfold bindAll
  refine .foldl _ (fun s a => ?_) _
  exact .of rfl rfl rfl rfl rfl

theorem apart_reportFree : Apart l s (reportFree k s) := .of rfl rfl rfl rfl rfl

theorem apart_loadStep (h : k ≠ l) (r : StepRec) (c : CurStep) : Apart l s (loadStep k r c s) := by
  unfold loadStep; split
  · exact .refl
  · exact (apart_updLane s h _).trans (apart_updLoad _ h _)

theorem apart_computeSweep (h : k ≠ l) : Apart l s (computeSweep k s) := by
  unfold computeSweep; split
  · exact .refl
  · unfold setSweep; exact apart_updLane s h _

theorem apart_claim (h : k ≠ l) (u : Unlisted s l) : Apart l s (claim k s) := by
  have a := apart_computeSweep s h
  exact a.trans (apart_join _ h (a.list u))

theorem apart_enterWaitGate (h : k ≠ l) (u : Unlisted s l) : Apart l s (enterWaitGate k s) :=
  (apart_releaseAll s h u).trans (apart_updLane _ h _)

theorem apart_takeFirstStep (h : k ≠ l) (u : Unlisted s l) (r : StepRec) (c : CurStep) :
    Apart l s (takeFirstStep k r c s) := by
  have a := apart_loadStep s h r c
  unfold takeFirstStep; dsimp only; split
  · exact a.trans (apart_claim _ h (a.list u))
  · exact a.trans (apart_enterWaitGate _ h (a.list u))

theorem apart_testGate (h : k ≠ l) (u : Unlisted s l) : Apart l s (testGate s k) := by
  unfold testGate; split
  · split
    · exact .refl
    · split
      · exact apart_claim s h u
      · exact .refl
  · exact .refl

/-- A gate re-evaluation event moves only lanes in WAIT_GATE (R73). -/
theorem apart_gateEvent (g : s.lanes[l].state ≠ .waitGate) (u : Unlisted s l) : Apart l s (gateEvent s) := by
  suffices H : ∀ (xs : List LaneId) (s : State), s.lanes[l].state ≠ .waitGate → Unlisted s l →
      Apart l s (xs.foldl testGate s) from H allLanes s g u
  intro xs
  induction xs with
  | nil => exact fun s _ _ => .refl
  | cons x xs ih =>
    intro s g u
    have a : Apart l s (testGate s x) := by
      by_cases h : x = l
      · subst h; unfold testGate; rw [if_neg g]; exact .refl
      · exact apart_testGate s h u
    exact a.trans (ih _ (by rw [a.state]; exact g) (a.list u))

theorem apart_armOrFence (h : k ≠ l) (u : Unlisted s l) : Apart l s (armOrFence k s) := by
  unfold armOrFence; split
  · exact .refl
  · next c _ =>
    have H : ∀ t, Apart l s t → Apart l s (if meets c.sweep (fenced t) then enterFenced k t else arm k t) := by
      intro t a; split
      · exact a.trans (apart_enterFenced _ h)
      · exact a.trans (apart_arm _ h (a.list u))
    refine H _ ?_
    split
    · exact apart_release s h u _
    · exact .refl

theorem apart_restartLearn (h : k ≠ l) : Apart l s (restartLearn k s) := by
  unfold restartLearn; exact (apart_updCtx s h _).trans (apart_updLoad _ h _)

theorem apart_armingDecision (h : k ≠ l) (u : Unlisted s l) : Apart l s (armingDecision k s) := by
  have b := apart_restartLearn s h
  unfold armingDecision; split
  · exact .refl
  · split
    · exact apart_armOrFence s h u
    · split
      · dsimp only; split
        · exact (apart_updCtx s h _).trans (apart_computeSweep _ h)
        · have a := (apart_updCtx s h fun c =>
            { c with homingPending := true, correctionUsed := false, motion := .homing }).trans
              (apart_computeSweep _ h)
          split
          · exact a.trans (apart_armOrFence _ h (a.list u))
          · exact a.trans (apart_join _ h (a.list u))
      · dsimp only; split
        · exact (apart_updCtx s h _).trans (apart_computeSweep _ h)
        · have a := (apart_updCtx s h fun c =>
            { c with homingPending := true, correctionUsed := false, motion := .homing }).trans
              (apart_computeSweep _ h)
          split
          · exact a.trans (apart_armOrFence _ h (a.list u))
          · exact a.trans (apart_join _ h (a.list u))
      · exact b.trans (apart_armOrFence _ h (b.list u))
      · exact b.trans (apart_armOrFence _ h (b.list u))
      all_goals exact apart_armOrFence s h u

theorem apart_claimAtNext (h : k ≠ l) (u : Unlisted s l) : Apart l s (claimAtNext k s) := by
  unfold claimAtNext; split
  · exact .refl
  · split
    · exact apart_enterWaitGate s h u
    · split
      · exact apart_armingDecision s h u
      · exact apart_claim s h u

theorem apart_enterIdle (h : k ≠ l) (u : Unlisted s l) (r : Result) : Apart l s (enterIdle k r s) := by
  unfold enterIdle; dsimp only
  refine .trans ?_ (apart_reportFree _)
  refine .trans ?_ (apart_updLane _ h _)
  refine .trans ?_ (apart_unbindLane _)
  have a := (apart_leaveList s (l := l) (k := k)).trans (apart_updLane _ h fun x =>
    { x.leaving with state := .idle, lastResult := some r, ctx := none, inline := none })
  have b := a.trans (apart_updLoad _ h Load.stepEnded)
  exact b.trans (apart_releaseAll _ h (b.list u))

theorem apart_enterOffline (h : k ≠ l) (r : Result) : Apart l s (enterOffline k r s) := by
  unfold enterOffline; dsimp only
  refine .trans ?_ (apart_reportFree _)
  refine .trans ?_ (apart_updLoad _ h _)
  refine .trans ?_ (apart_unbindLane _)
  exact apart_updLane s h _

theorem apart_leaveFaulted (h : k ≠ l) (u : Unlisted s l) (r : Result) : Apart l s (leaveFaulted k r s) := by
  unfold leaveFaulted; split
  · exact apart_enterOffline s h r
  · exact apart_enterIdle s h u r

theorem apart_clearFaultLane (h : k ≠ l) (u : Unlisted s l) (r : Result) : Apart l s (clearFaultLane k r s) := by
  unfold clearFaultLane; dsimp only; split
  · exact .refl
  · split
    · split
      · exact .refl
      · exact apart_updLane s h _
    · exact apart_leaveFaulted s h u r

theorem apart_haltLane (h : k ≠ l) (r : PauseReason) : Apart l s (haltLane k r s) := by
  have a := apart_openRelay s h
  have b := apart_leaveList s (l := l) (k := k)
  have c := apart_enterStopping s h (.paused r)
  unfold haltLane; dsimp only
  split
  · exact c
  · exact a.trans (apart_enterPaused _ h _ _)
  · exact b.trans (apart_enterPaused _ h _ _)
  · exact apart_enterPaused s h _ _
  · exact apart_enterPaused s h _ _
  · exact apart_enterPaused s h _ _
  · exact apart_enterPaused s h _ _
  · exact apart_updLane s h _
  iterate 3
    · split
      · exact .refl
      · exact apart_updLane s h _
  all_goals exact .refl

theorem apart_cancelLane (h : k ≠ l) (u : Unlisted s l) (r : Result) : Apart l s (cancelLane k r s) := by
  have a := apart_openRelay s h
  unfold cancelLane; dsimp only
  split
  iterate 6
    · exact apart_enterIdle s h u _
  · exact a.trans (apart_enterIdle _ h (a.list u) _)
  · exact apart_enterStopping s h _
  iterate 3
    · split
      · exact .refl
      · exact apart_updLane s h _
  · exact apart_clearFaultLane s h u _
  all_goals exact .refl

theorem apart_afterDwell (h : k ≠ l) (u : Unlisted s l) : Apart l s (afterDwell k s) := by
  unfold afterDwell; split
  · exact .refl
  · split
    · exact apart_enterIdle s h u _
    · split
      · exact apart_enterWaitAdvance s h
      · exact apart_claimAtNext s h u

theorem apart_resumeLane (h : k ≠ l) (u : Unlisted s l) : Apart l s (resumeLane k s) := by
  unfold resumeLane; dsimp only; split
  · exact .refl
  · split
    · exact apart_armingDecision s h u
    · exact apart_claim s h u
    · have a := apart_enterWaitGate s h u
      exact a.trans (apart_testGate _ h (a.list u))
    · exact apart_afterDwell s h u
    · exact apart_enterWaitAdvance s h
    · exact .refl

theorem apart_holdLane (h : k ≠ l) (u : Unlisted s l) : Apart l s (holdLane k s) := by
  have a := apart_updLane s h fun r => { r with holdTime := some s.now, lapseTimer := some holdTime }
  unfold holdLane; dsimp only; split
  · exact .refl
  · split
    · split
      · exact a.trans (apart_armingDecision _ h (a.list u))
      · exact a
    · split
      · exact apart_claimAtNext s h u
      · exact .refl

/-- An order delivered to the lanes of a set that leaves this lane out (R46 to R48). -/
theorem apart_deliver (f : LaneId → State → State) (ls : LaneSet) (hl : has ls l = false)
    (hf : ∀ (k : LaneId) (s : State), k ≠ l → Unlisted s l → Apart l s (f k s)) (u : Unlisted s l) :
    Apart l s (deliver f ls s) := by
  refine .foldl_of (fun s k u => ?_) _ u
  split
  · next e => exact hf k s (fun x => by rw [x, hl] at e; cases e) u
  · exact .refl

end

end Sys2Proof.Machine
end

