-- ==== Sys2Proof/Laws/Kept.lean ====
section
/-! SUPPORT. What the shared operations of lanes, zones, channels and presence leave unchanged, said once: `calm` is the
part of the state that every such operation keeps while no lane ends its arrangement, `outer` the part that it
keeps when one does. Each operation has the lemma `calm_<op>`, or `outer_<op>` where it may end an arrangement; a
field follows by `surr_ram` and its like. -/

namespace Sys2Proof.Machine

open Sys2Proof (Byte LaneId ActId ZoneId ChanId StepId ZoneSet ActSet LaneSet ChanSet GroupSet Station Instr)

/-- What only the vehicle, the tester, the supply, a drive and time change. -/
structure Surr where
  pending : List Instr
  now : Nat
  startUp : StartUp
  ram : Settings
  store : Settings
  checksums : Vector Byte 7
  vehicle : Vehicle
  service : ServiceUnit
  pin : Nat
  measured : Nat
  lowRun : Nat
  low : Bool
  notice : Option Cause
  counted : Vector (Nat × Bool × Nat × Sense) 10

/-- What requests and frames change beside the lanes. -/
structure Reqs where
  tx : Tx
  ready : Bool
  held : Option (Station × List Byte)
  history : List HistEntry
  silenceTimer : Option Nat
  silenceExpired : Bool

/-- What an operation on lanes keeps even when a lane ends its arrangement. -/
structure Outer where
  surr : Surr
  reqs : Reqs

/-- What an operation on lanes keeps while no lane ends its arrangement. -/
structure Calm where
  outer : Outer
  binds : Vector (Option LaneId) 10
  slot : Option Preempt

/-- The counted part of an actuator's runtime record. -/
def ActRun.count (x : ActRun) : Nat × Bool × Nat × Sense := (x.position, x.referenced, x.manualPulses, x.lastPolarity)

def surr (s : State) : Surr :=
  { pending := s.pending, now := s.now, startUp := s.startUp, ram := s.ram, store := s.store, checksums := s.checksums
    vehicle := s.vehicle, service := s.service, pin := s.supply.pin, measured := s.supply.measured
    lowRun := s.supply.lowRun, low := s.supply.low, notice := s.power.notice
    counted := tab fun a => s.acts[a].count }

def reqs (s : State) : Reqs :=
  { tx := s.tx, ready := s.request.ready, held := s.request.held, history := s.request.history
    silenceTimer := s.power.silenceTimer, silenceExpired := s.power.silenceExpired }

def outer (s : State) : Outer := ⟨surr s, reqs s⟩

def calm (s : State) : Calm := ⟨outer s, tab fun a => s.acts[a].binding, s.request.slot⟩

/-! ### Reading a field off -/

section
variable {s t : State}

theorem outer_of_calm (h : calm t = calm s) : outer t = outer s := congrArg Calm.outer h
theorem slot_of_calm (h : calm t = calm s) : t.request.slot = s.request.slot := congrArg Calm.slot h
theorem binding_of_calm (h : calm t = calm s) (a : ActId) : t.acts[a].binding = s.acts[a].binding := by
  have := congrArg (fun c => c.binds[a]) h
  simpa [calm] using this
theorem surr_of_outer (h : outer t = outer s) : surr t = surr s := congrArg Outer.surr h
theorem tx_of_outer (h : outer t = outer s) : t.tx = s.tx := congrArg (fun o => o.reqs.tx) h
theorem ready_of_outer (h : outer t = outer s) : t.request.ready = s.request.ready := congrArg (fun o => o.reqs.ready) h
theorem held_of_outer (h : outer t = outer s) : t.request.held = s.request.held := congrArg (fun o => o.reqs.held) h
theorem history_of_outer (h : outer t = outer s) : t.request.history = s.request.history :=
  congrArg (fun o => o.reqs.history) h
theorem silenceTimer_of_outer (h : outer t = outer s) : t.power.silenceTimer = s.power.silenceTimer :=
  congrArg (fun o => o.reqs.silenceTimer) h
theorem silenceExpired_of_outer (h : outer t = outer s) : t.power.silenceExpired = s.power.silenceExpired :=
  congrArg (fun o => o.reqs.silenceExpired) h
theorem pending_of_surr (h : surr t = surr s) : t.pending = s.pending := congrArg Surr.pending h
theorem now_of_surr (h : surr t = surr s) : t.now = s.now := congrArg Surr.now h
theorem startUp_of_surr (h : surr t = surr s) : t.startUp = s.startUp := congrArg Surr.startUp h
theorem ram_of_surr (h : surr t = surr s) : t.ram = s.ram := congrArg Surr.ram h
theorem store_of_surr (h : surr t = surr s) : t.store = s.store := congrArg Surr.store h
theorem checksums_of_surr (h : surr t = surr s) : t.checksums = s.checksums := congrArg Surr.checksums h
theorem vehicle_of_surr (h : surr t = surr s) : t.vehicle = s.vehicle := congrArg Surr.vehicle h
theorem service_of_surr (h : surr t = surr s) : t.service = s.service := congrArg Surr.service h
theorem pin_of_surr (h : surr t = surr s) : t.supply.pin = s.supply.pin := congrArg Surr.pin h
theorem measured_of_surr (h : surr t = surr s) : t.supply.measured = s.supply.measured := congrArg Surr.measured h
theorem lowRun_of_surr (h : surr t = surr s) : t.supply.lowRun = s.supply.lowRun := congrArg Surr.lowRun h
theorem low_of_surr (h : surr t = surr s) : t.supply.low = s.supply.low := congrArg Surr.low h
theorem notice_of_surr (h : surr t = surr s) : t.power.notice = s.power.notice := congrArg Surr.notice h
theorem count_of_surr (h : surr t = surr s) (a : ActId) : t.acts[a].count = s.acts[a].count := by
  have := congrArg (fun c => c.counted[a]) h
  simpa [surr] using this
theorem position_of_surr (h : surr t = surr s) (a : ActId) : t.acts[a].position = s.acts[a].position :=
  congrArg (fun x => x.1) (count_of_surr h a)
theorem referenced_of_surr (h : surr t = surr s) (a : ActId) : t.acts[a].referenced = s.acts[a].referenced :=
  congrArg (fun x => x.2.1) (count_of_surr h a)
theorem manualPulses_of_surr (h : surr t = surr s) (a : ActId) : t.acts[a].manualPulses = s.acts[a].manualPulses :=
  congrArg (fun x => x.2.2.1) (count_of_surr h a)

/-- The interlock, gates and settings-derived values depend on what `surr` keeps. -/
theorem interlock_of_surr (h : surr t = surr s) : interlock t = interlock s := by
  unfold interlock; rw [vehicle_of_surr h]
theorem supplyOk_of_surr (h : surr t = surr s) : supplyOk t = supplyOk s := by
  unfold supplyOk; rw [measured_of_surr h]
theorem gateHolds_of_surr (h : surr t = surr s) (g : Option Gate) : gateHolds t g = gateHolds s g := by
  cases g with
  | none => rfl
  | some g => simp only [gateHolds, position_of_surr h, referenced_of_surr h]

end

/-! ### Folds -/

theorem calm_foldl {α : Type} {f : State → α → State} (h : ∀ s x, calm (f s x) = calm s) (xs : List α) (s : State) :
    calm (xs.foldl f s) = calm s := by
  induction xs generalizing s with
  | nil => rfl
  | cons x xs ih => rw [List.foldl_cons, ih, h]

theorem outer_foldl {α : Type} {f : State → α → State} (h : ∀ s x, outer (f s x) = outer s) (xs : List α)
    (s : State) : outer (xs.foldl f s) = outer s := by
  induction xs generalizing s with
  | nil => rfl
  | cons x xs ih => rw [List.foldl_cons, ih, h]

theorem surr_foldl {α : Type} {f : State → α → State} (h : ∀ s x, surr (f s x) = surr s) (xs : List α) (s : State) :
    surr (xs.foldl f s) = surr s := by
  induction xs generalizing s with
  | nil => rfl
  | cons x xs ih => rw [List.foldl_cons, ih, h]

/-! ### Records -/

section
variable (s : State) (l : LaneId)

@[simp] theorem calm_mark (f : Flag) : calm (mark f s) = calm s := rfl
@[simp] theorem calm_markIf (b : Bool) (f : Flag) : calm (markIf b f s) = calm s := by
  unfold markIf; split <;> rfl
@[simp] theorem calm_followIdle (b : Bool) : calm (followIdle b s) = calm s := by
  unfold followIdle; split; rfl; split <;> rfl
@[simp] theorem calm_updLane (f : Lane → Lane) : calm (updLane l f s) = calm s := by
  unfold updLane; simp only [calm_followIdle, calm_markIf]; rfl
@[simp] theorem calm_updLoad (f : Load → Load) : calm (updLoad l f s) = calm s := rfl
@[simp] theorem calm_updDrive (f : Drive → Drive) : calm (updDrive l f s) = calm s := rfl
@[simp] theorem calm_openRelay : calm (openRelay l s) = calm s := rfl
@[simp] theorem calm_armOrder (a : ActId) : calm (armOrder l a s) = calm s := rfl
@[simp] theorem calm_updChan (c : ChanId) (f : ChanRun → ChanRun) : calm (updChan c f s) = calm s := rfl
@[simp] theorem calm_dequeue (c : ChanId) : calm (dequeue c s) = calm s := rfl
@[simp] theorem calm_setHolders (zs : ZoneSet) (h : Option LaneId) : calm (setHolders zs h s) = calm s := rfl
@[simp] theorem calm_leaveList : calm (leaveList l s) = calm s := rfl
@[simp] theorem calm_expireYield : calm (expireYield l s) = calm s := rfl
@[simp] theorem calm_resumeSupplyTimer : calm (resumeSupplyTimer s) = calm s := by
  unfold resumeSupplyTimer; split <;> rfl

/-- Tables of what a record keeps are the same when the one written record keeps it. -/
theorem tab_put {α β : Type} {n : Nat} (k : α → β) (v : Vector α n) (i : Fin n) (x : α) (h : k x = k v[i]) :
    (tab fun j : Fin n => k (put v i x)[j]) = tab fun j : Fin n => k v[j] := by
  refine table_ext fun j => ?_
  rw [tab_get, tab_get, put_get]
  split
  · next e => subst e; exact h
  · rfl

theorem surr_acts (a : ActId) (x : ActRun) (h : x.count = s.acts[a].count) :
    surr { s with acts := put s.acts a x } = surr s := by
  simp only [surr, tab_put ActRun.count s.acts a x h]

theorem outer_acts (a : ActId) (x : ActRun) (h : x.count = s.acts[a].count) :
    outer { s with acts := put s.acts a x } = outer s := by
  have := surr_acts s a x h
  simp only [outer, this]; rfl

theorem calm_acts (a : ActId) (x : ActRun) (h : x.count = s.acts[a].count) (b : x.binding = s.acts[a].binding) :
    calm { s with acts := put s.acts a x } = calm s := by
  have := outer_acts s a x h
  simp only [calm, this, tab_put ActRun.binding s.acts a x b]

/-- An update of an actuator that keeps its count and its binding. -/
theorem calm_updAct (a : ActId) (f : ActRun → ActRun) (h : (f s.acts[a]).count = s.acts[a].count)
    (b : (f s.acts[a]).binding = s.acts[a].binding) : calm (updAct a f s) = calm s := by
  unfold updAct; simp only [calm_markIf]; exact calm_acts s a _ h b

@[simp] theorem calm_driveStop (a : ActId) : calm (driveStop a s) = calm s := calm_updAct s a _ rfl rfl
@[simp] theorem calm_brake (ms : Nat) (rev : Bool) : calm (brake l ms rev s) = calm s := by
  unfold brake; dsimp only; split
  · split <;> simp
  · rfl
@[simp] theorem calm_note (i : BitVec 7) : calm (note l i s) = calm s := by simp [note]
@[simp] theorem calm_updCtx (f : StepCtx → StepCtx) : calm (updCtx l f s) = calm s := by simp [updCtx]
@[simp] theorem calm_enterPaused (r : PauseReason) (p : ResumePoint) : calm (enterPaused l r p s) = calm s := by
  simp [enterPaused]
@[simp] theorem calm_enterFenced : calm (enterFenced l s) = calm s := by simp [enterFenced]
@[simp] theorem calm_enterWaitAdvance : calm (enterWaitAdvance l s) = calm s := by simp [enterWaitAdvance]
@[simp] theorem calm_enterStopping (d : StopDest) : calm (enterStopping l d s) = calm s := by simp [enterStopping]
@[simp] theorem calm_enterSettling : calm (enterSettling l s) = calm s := by simp [enterSettling]
@[simp] theorem calm_activate : calm (activate s) = calm s := by
  have : calm (activate s) = calm (markIf (decide (s.power.mode ≠ .active)) .general
    { s with power := { s.power with mode := .active, sleepWaiting := false } }) := rfl
  rw [this, calm_markIf]; rfl
@[simp] theorem calm_setGuardLost (c : ChanId) (b : Bool) : calm (setGuardLost c b s) = calm s := by
  simp [setGuardLost]
@[simp] theorem calm_beginSeeding (c : ChanId) : calm (beginSeeding c s) = calm s := by
  unfold beginSeeding; dsimp only; split
  · split <;> rfl
  · rfl
@[simp] theorem calm_driftTest (c : ChanId) : calm (driftTest c s) = calm s := by
  unfold driftTest; dsimp only; (repeat' split) <;> rfl

/-! ### Zones, fences and tunes -/

@[simp] theorem calm_deliverUnfence (left : ZoneSet) : calm (deliverUnfence left s) = calm s := by
  unfold deliverUnfence
  refine calm_foldl (fun s l => ?_) _ _
  split <;> simp

@[simp] theorem calm_suspendTune : calm (suspendTune s) = calm s := by
  unfold suspendTune
  split
  · rfl
  · simp only [calm_activate, calm_deliverUnfence, calm_markIf]; rfl

@[simp] theorem calm_enterArming : calm (enterArming l s) = calm s := by
  unfold enterArming; split <;> simp

@[simp] theorem calm_grant (e : WaitEntry) : calm (grant e s) = calm s := by
  unfold grant; simp only [calm_enterArming]; split <;> simp

@[simp] theorem calm_yieldTest (e : WaitEntry) : calm (yieldTest e s) = calm s := by
  unfold yieldTest; split
  · rw [calm_suspendTune]; rfl
  · rfl

@[simp] theorem calm_visit : calm (visit s l) = calm s := by
  unfold visit; split
  · rfl
  · split <;> simp

@[simp] theorem calm_scanOnce : calm (scanOnce s) = calm s := by
  unfold scanOnce; exact calm_foldl (fun s l => calm_visit s l) _ _

@[simp] theorem calm_rescanned (t : State) : calm (rescanned s t) = calm t := by
  unfold rescanned; split <;> simp

@[simp] theorem calm_scan : calm (scan s) = calm s := by simp [scan]

@[simp] theorem calm_yieldTests : calm (yieldTests s) = calm s := by
  unfold yieldTests; rw [calm_rescanned]
  refine calm_foldl (fun s l => ?_) _ _
  split <;> simp

@[simp] theorem calm_release (zs : ZoneSet) : calm (release l zs s) = calm s := by
  unfold release; dsimp only; split <;> simp

@[simp] theorem calm_releaseAll : calm (releaseAll l s) = calm s := by simp [releaseAll]

@[simp] theorem calm_arm : calm (arm l s) = calm s := by simp [arm]

@[simp] theorem calm_join : calm (join l s) = calm s := by
  unfold join; split
  · rfl
  · simp only [calm_scan, calm_updLane]
    exact (show calm _ = calm (releaseAll l s) from rfl).trans (calm_releaseAll s l)

@[simp] theorem calm_fenceLane (z : ZoneSet) : calm (fenceLane z s l) = calm s := by
  unfold fenceLane; split
  · split <;> simp
  · rfl

@[simp] theorem calm_fenceEvent (v w : FenceView) : calm (fenceEvent v w s) = calm s := by
  unfold fenceEvent; dsimp only; split
  · rfl
  · have h : ∀ z u, calm (List.foldl (fenceLane z) u allLanes) = calm u := fun z u =>
      calm_foldl (fun s l => calm_fenceLane s l z) _ _
    split <;> simp [h]

@[simp] theorem calm_handOn (v : FenceView) (c : ChanId) : calm (handOn v c s) = calm s := by
  unfold handOn; dsimp only; split <;> simp

@[simp] theorem calm_handOnAll (v : FenceView) (cs : List ChanId) : calm (handOnAll v cs s) = calm s := by
  unfold handOnAll
  suffices h : ∀ p : FenceView × State, calm (cs.foldl (fun (p : FenceView × State) c =>
      (p.1.refreshed (fenceView p.2) (p.2.ram.channels[c].guard), handOn p.1 c p.2)) p).2 = calm p.2 from h (v, s)
  induction cs with
  | nil => intro p; rfl
  | cons c cs ih => intro p; rw [List.foldl_cons, ih]; simp

@[simp] theorem calm_tryTune : calm (tryTune s) = calm s := by
  unfold tryTune; split
  · rfl
  · split
    · rfl
    · simp only [calm_handOn, calm_updChan]; rfl

/-! ### Steps and claims -/

@[simp] theorem calm_loadStep (r : StepRec) (c : CurStep) : calm (loadStep l r c s) = calm s := by
  unfold loadStep; split <;> simp
@[simp] theorem calm_setSweep (zs : ZoneSet) : calm (setSweep l zs s) = calm s := by simp [setSweep]
@[simp] theorem calm_computeSweep : calm (computeSweep l s) = calm s := by unfold computeSweep; split <;> simp
@[simp] theorem calm_claim : calm (claim l s) = calm s := by simp [claim]
@[simp] theorem calm_enterWaitGate : calm (enterWaitGate l s) = calm s := by simp [enterWaitGate]
@[simp] theorem calm_takeFirstStep (r : StepRec) (c : CurStep) : calm (takeFirstStep l r c s) = calm s := by
  unfold takeFirstStep; dsimp only; split <;> simp
@[simp] theorem calm_testGate : calm (testGate s l) = calm s := by
  unfold testGate; split
  · split
    · rfl
    · split <;> simp
  · rfl
@[simp] theorem calm_gateEvent : calm (gateEvent s) = calm s := calm_foldl (fun s l => calm_testGate s l) _ _
@[simp] theorem calm_armOrFence : calm (armOrFence l s) = calm s := by
  unfold armOrFence; split
  · rfl
  · dsimp only; split <;> split <;> simp
@[simp] theorem calm_restartLearn : calm (restartLearn l s) = calm s := by simp [restartLearn]
@[simp] theorem calm_armingDecision : calm (armingDecision l s) = calm s := by
  unfold armingDecision; split
  · rfl
  · split
    · simp
    · split
      all_goals (try dsimp only); (repeat' split) <;> simp_all
@[simp] theorem calm_claimAtNext : calm (claimAtNext l s) = calm s := by
  unfold claimAtNext; split
  · rfl
  · (repeat' split) <;> simp
@[simp] theorem calm_haltLane (r : PauseReason) : calm (haltLane l r s) = calm s := by
  unfold haltLane; dsimp only; split <;> (try split) <;> simp
@[simp] theorem calm_holdLane : calm (holdLane l s) = calm s := by
  unfold holdLane; dsimp only; (repeat' split) <;> simp
@[simp] theorem calm_takeLearn (a : ActId) : calm (takeLearn l a s) = calm s := by simp [takeLearn]
@[simp] theorem calm_takeFirst (k : Track) : calm (takeFirst l k s) = calm s := by unfold takeFirst; split <;> simp
@[simp] theorem calm_interlockLost : calm (interlockLost s l) = calm s := by unfold interlockLost; split <;> simp
@[simp] theorem calm_endBackOff (d : StopDest) : calm (endBackOff l d s) = calm s := by simp [endBackOff]
@[simp] theorem calm_supplyLowOnset : calm (supplyLowOnset s l) = calm s := by
  unfold supplyLowOnset; dsimp only; split <;> simp

/-! ### Ends of an arrangement -/

@[simp] theorem outer_reportFree : outer (reportFree l s) = outer s := rfl

@[simp] theorem outer_unbindLane : outer (unbindLane l s) = outer s := by
  unfold unbindLane
  refine outer_foldl (fun s a => ?_) _ _
  split
  · exact outer_acts s a _ rfl
  · rfl

@[simp] theorem outer_bindAll (as : List ActId) : outer (bindAll l as s) = outer s := by
  unfold bindAll
  refine outer_foldl (fun s a => ?_) _ _
  exact outer_acts s a _ rfl

/-- What keeps the calm part keeps the outer part. -/
theorem outer_eq {s t : State} (h : calm t = calm s) : outer t = outer s := outer_of_calm h

@[simp] theorem outer_updLane (f : Lane → Lane) : outer (updLane l f s) = outer s := outer_eq (calm_updLane s l f)
@[simp] theorem outer_updLoad (f : Load → Load) : outer (updLoad l f s) = outer s := rfl
@[simp] theorem outer_leaveList : outer (leaveList l s) = outer s := rfl
@[simp] theorem outer_openRelay : outer (openRelay l s) = outer s := rfl
@[simp] theorem outer_releaseAll : outer (releaseAll l s) = outer s := outer_eq (calm_releaseAll s l)
@[simp] theorem outer_haltLane (r : PauseReason) : outer (haltLane l r s) = outer s := outer_eq (calm_haltLane s l r)
@[simp] theorem outer_enterStopping (d : StopDest) : outer (enterStopping l d s) = outer s :=
  outer_eq (calm_enterStopping s l d)
@[simp] theorem outer_enterWaitAdvance : outer (enterWaitAdvance l s) = outer s := outer_eq (calm_enterWaitAdvance s l)
@[simp] theorem outer_claimAtNext : outer (claimAtNext l s) = outer s := outer_eq (calm_claimAtNext s l)
@[simp] theorem outer_claim : outer (claim l s) = outer s := outer_eq (calm_claim s l)
@[simp] theorem outer_armingDecision : outer (armingDecision l s) = outer s := outer_eq (calm_armingDecision s l)
@[simp] theorem outer_enterWaitGate : outer (enterWaitGate l s) = outer s := outer_eq (calm_enterWaitGate s l)
@[simp] theorem outer_testGate : outer (testGate s l) = outer s := outer_eq (calm_testGate s l)
@[simp] theorem outer_gateEvent : outer (gateEvent s) = outer s := outer_eq (calm_gateEvent s)
@[simp] theorem outer_tryTune : outer (tryTune s) = outer s := outer_eq (calm_tryTune s)
@[simp] theorem outer_holdLane : outer (holdLane l s) = outer s := outer_eq (calm_holdLane s l)
@[simp] theorem outer_takeFirst (k : Track) : outer (takeFirst l k s) = outer s := outer_eq (calm_takeFirst s l k)

@[simp] theorem outer_enterIdle (r : Result) : outer (enterIdle l r s) = outer s := by simp [enterIdle]
@[simp] theorem outer_enterOffline (r : Result) : outer (enterOffline l r s) = outer s := by simp [enterOffline]
@[simp] theorem outer_leaveFaulted (r : Result) : outer (leaveFaulted l r s) = outer s := by
  unfold leaveFaulted; split <;> simp
@[simp] theorem outer_clearFaultLane (r : Result) : outer (clearFaultLane l r s) = outer s := by
  unfold clearFaultLane; dsimp only; (repeat' split) <;> simp
@[simp] theorem outer_enterFaulted (r : FaultReason) : outer (enterFaulted l r s) = outer s := by
  unfold enterFaulted; dsimp only; (repeat' split) <;> simp
@[simp] theorem outer_cancelLane (r : Result) : outer (cancelLane l r s) = outer s := by
  unfold cancelLane; dsimp only; split <;> (try split) <;> simp
@[simp] theorem outer_afterDwell : outer (afterDwell l s) = outer s := by
  unfold afterDwell; split
  · rfl
  · (repeat' split) <;> simp
@[simp] theorem outer_resumeLane : outer (resumeLane l s) = outer s := by
  unfold resumeLane; dsimp only; split
  · rfl
  · split <;> simp
@[simp] theorem outer_deliver (f : LaneId → State → State) (h : ∀ l s, outer (f l s) = outer s) (ls : LaneSet) :
    outer (deliver f ls s) = outer s := by
  unfold deliver
  refine outer_foldl (fun s l => ?_) _ _
  split
  · exact h l s
  · rfl

/-! ### Requests: replies, acceptance, preempt -/

/-- A reply changes the transmission, the history and the power mode, and nothing that `surr` keeps. -/
@[simp] theorem surr_reply (st : Station) (tag kind : Byte) (o : Option ReqObject) (v : Verdict) (ls : LaneSet)
    (h c : Bool) : surr (reply st tag kind o v ls h c s) = surr s := by
  unfold reply; dsimp only; split
  · exact (show surr _ = surr (activate s) from rfl).trans (surr_of_outer (outer_of_calm (calm_activate s)))
  · rfl

@[simp] theorem surr_refuse (st : Station) (tag kind : Byte) (o : Option ReqObject) (v : Verdict) :
    surr (refuse st tag kind o v s) = surr s := by simp [refuse]

theorem surr_eq {s t : State} (h : outer t = outer s) : surr t = surr s := surr_of_outer h

@[simp] theorem surr_quickenPeriod : surr (quickenPeriod s) = surr s := by
  unfold quickenPeriod; split
  · split <;> rfl
  · rfl

@[simp] theorem surr_tryTune : surr (tryTune s) = surr s := surr_eq (outer_tryTune s)

@[simp] theorem surr_startRecord (st : Station) (tag : Byte) (m : AdvanceMode) (d : Bool) (p : Option LaneId)
    (k : Track) : surr (startRecord st tag m d p k l s) = surr s := by
  unfold startRecord
  exact (surr_eq (outer_updLane _ l _)).trans (surr_eq (outer_bindAll s l _))

@[simp] theorem surr_accept (st : Station) (tag : Byte) (run : RunReq) (ts : List Track) :
    surr (accept st tag run ts s) = surr s := by
  unfold accept
  simp only [surr_reply]
  refine (surr_foldl (fun s p => ?_) _ _).trans ?_
  · exact surr_eq (outer_takeFirst s p.2 p.1)
  · rw [surr_quickenPeriod]
    refine surr_foldl (fun s p => ?_) _ _
    exact surr_startRecord s p.2 _ _ _ _ _ p.1

@[simp] theorem surr_supersede : surr (supersede s) = surr s := by
  unfold supersede; split
  · rfl
  · simp only [surr_refuse]; rfl

@[simp] theorem surr_preempt (st : Station) (tag : Byte) (run : RunReq) (acts : ActSet) :
    surr (preempt st tag run acts s) = surr s := by
  unfold preempt
  simp only [surr_refuse]
  refine (show surr _ = surr (supersede _) from rfl).trans ?_
  rw [surr_supersede]
  exact surr_eq (outer_foldl (fun s l => by split <;> simp) _ _)

@[simp] theorem surr_settlePreempt : surr (settlePreempt s) = surr s := by
  unfold settlePreempt; split
  · rfl
  · split
    · dsimp only; split <;> simp only [surr_refuse, surr_accept, surr_tryTune] <;> rfl
    · rfl

@[simp] theorem surr_finish : surr (finish s) = surr s := by simp [finish]

@[simp] theorem surr_deliver (f : LaneId → State → State) (h : ∀ l s, outer (f l s) = outer s) (ls : LaneSet) :
    surr (deliver f ls s) = surr s := surr_eq (outer_deliver s f h ls)

@[simp] theorem surr_busTraffic : surr (busTraffic s) = surr s := rfl

@[simp] theorem surr_serveRun (st : Station) (kind : Byte) (body : List Byte) :
    surr (serveRun st kind body s) = surr s := by
  unfold serveRun; split
  · simp
  · dsimp only; split
    · simp
    · split <;> simp
    · simp

@[simp] theorem surr_serveHalt (st : Station) (body : List Byte) : surr (serveHalt st body s) = surr s := by
  have h := fun ls s => surr_deliver s (fun l => haltLane l .halted) (fun l s => outer_haltLane s l .halted) ls
  unfold serveHalt; dsimp only; (repeat' split) <;> simp [h]

@[simp] theorem surr_serveResume (st : Station) (body : List Byte) : surr (serveResume st body s) = surr s := by
  have h := fun ls s => surr_deliver s resumeLane (fun l s => outer_resumeLane s l) ls
  unfold serveResume; dsimp only; (repeat' split) <;> simp [h]

@[simp] theorem surr_serveCancel (st : Station) (body : List Byte) : surr (serveCancel st body s) = surr s := by
  have h := fun ls s => surr_deliver s (fun l => cancelLane l .cancelled) (fun l s => outer_cancelLane s l .cancelled) ls
  unfold serveCancel; dsimp only; (repeat' split) <;> simp [h]

@[simp] theorem surr_serveClearFault (st : Station) (body : List Byte) :
    surr (serveClearFault st body s) = surr s := by
  have h := fun ls s =>
    surr_deliver s (fun l => clearFaultLane l .faulted) (fun l s => outer_clearFaultLane s l .faulted) ls
  unfold serveClearFault; dsimp only; (repeat' split) <;> simp [h]

@[simp] theorem surr_serveHold (st : Station) (body : List Byte) : surr (serveHold st body s) = surr s := by
  have h := fun ls s => surr_deliver s holdLane (fun l s => outer_holdLane s l) ls
  unfold serveHold; (repeat' split) <;> (try dsimp only) <;> (repeat' split) <;> simp [h]

@[simp] theorem surr_serveUnknown (st : Station) (kind : Byte) (body : List Byte) :
    surr (serveUnknown st kind body s) = surr s := by simp [serveUnknown]

end

end Sys2Proof.Machine
end

