-- ==== Sys2Proof/Laws/Store.lean ====
section
/-! SUPPORT. The settings store: a computed checksum makes its group sum to 0, a write that changes the contents of its
own group alone leaves every group sound, and which groups each write leaves alone. -/

namespace Sys2Proof.Laws

open Sys2Proof Sys2Proof.Machine Sys2Proof.Safety

@[simp] theorem groupAt_groupNo (g : Group) : groupAt (groupNo g) = g := by cases g <;> rfl
@[simp] theorem groupNo_groupAt (i : Fin 7) : groupNo (groupAt i) = i := by revert i; decide

/-- R194: the contents and their checksum together sum to 0. -/
@[simp] theorem sumsToZero_checksum (t : Settings) (g : Group) : sumsToZero t g (t.checksum g) = true := by
  simp [sumsToZero, Settings.checksum]

/-- Whether a group sums to 0 depends on its own words alone. -/
theorem sumsToZero_congr {t u : Settings} {g : Group} (h : t.words g = u.words g) (c : Byte) :
    sumsToZero t g c = sumsToZero u g c := by
  simp only [sumsToZero, h]

/-- Settings whose checksums have all been computed are sound. -/
theorem storeSound_of_checksums {s : State} (h : s.checksums = s.store.checksums) : StoreSound s := by
  intro i
  rw [h]
  simp only [Settings.checksums, Fin.getElem_fin, tab_get_val, sumsToZero_checksum]

/-- What a write to a group does to the store (R194, R196): it leaves every group sound when it changes the words of its
own group alone. -/
theorem writeGroup_storeSound {s : State} {g : Group} {f : Settings → Settings} (hs : StoreSound s)
    (hf : ∀ k, k ≠ g → (f s.store).words k = s.store.words k) : StoreSound (writeGroup g f s) := by
  intro i
  simp only [writeGroup, Fin.getElem_fin, Vector.getElem_set]
  split
  · rename_i h
    have : g = groupAt i := by rw [← groupAt_groupNo g]; congr 1; exact Fin.ext h
    subst this
    exact sumsToZero_checksum _ _
  · rename_i h
    have hne : groupAt i ≠ g := fun e => h (by rw [← e, groupNo_groupAt])
    exact (sumsToZero_congr (hf _ hne) _).trans (hs i)

/-! ### The groups that each write leaves alone -/

@[simp] theorem words_onActuator (a : ActId) (f : ActuatorRec → ActuatorRec) (t : Settings) {k : Group}
    (h : k ≠ .actuators) : (t.onActuator a f).words k = t.words k := by cases k <;> first | contradiction | rfl

@[simp] theorem words_onChannel (c : ChanId) (f : ChannelCfg → ChannelCfg) (t : Settings) {k : Group}
    (h : k ≠ .channels) : (t.onChannel c f).words k = t.words k := by cases k <;> first | contradiction | rfl

@[simp] theorem words_withLog (log : List LogEntry) (t : Settings) {k : Group} (h : k ≠ .faultLog) :
    ({ t with log := log } : Settings).words k = t.words k := by cases k <;> first | contradiction | rfl

@[simp] theorem words_withLifetime (n : Nat) (t : Settings) {k : Group} (h : k ≠ .counters) :
    ({ t with lifetime := n } : Settings).words k = t.words k := by cases k <;> first | contradiction | rfl

@[simp] theorem words_withRestartCount (n : Nat) (t : Settings) {k : Group} (h : k ≠ .counters) :
    ({ t with restartCount := n } : Settings).words k = t.words k := by cases k <;> first | contradiction | rfl

/-- A write to an actuator's stored fields keeps the store sound. -/
theorem writeActuator_storeSound (a : ActId) (f : ActuatorRec → ActuatorRec) {s : State} (hs : StoreSound s) :
    StoreSound (writeActuator a f s) :=
  writeGroup_storeSound hs fun _ h => words_onActuator a f s.store h

/-- A fault log entry keeps the store sound. -/
theorem logWith_storeSound (copies : List HistEntry) (k : LogKind) (lane : Option LaneId) (act : Option ActId)
    (pos : Option Nat) (dev : Option Int) (arr : Option (Station × Byte)) (g : Option Group) {s : State}
    (hs : StoreSound s) : StoreSound (logWith copies k lane act pos dev arr g s) := by
  let e : LogEntry :=
    { sequence := min 65535 (s.ram.lifetime + 1), kind := k, restartCount := s.ram.restartCount, time := s.now
      mode := .active, lane := lane, actuator := act, position := pos, deviation := dev, arrangement := arr
      group := g, preceding := copies }
  have h1 := writeGroup_storeSound (f := fun t => { t with log := pushRing t.log e }) hs
    fun _ h => words_withLog _ s.store h
  exact writeGroup_storeSound (f := fun t => { t with lifetime := min 65535 (s.ram.lifetime + 1) }) h1
    fun _ h => words_withLifetime _ _ h

end Sys2Proof.Laws
end

