-- ==== Sys2Proof/Tests/Slice0.lean ====
section
/-! SUPPORT. Tests: the ill-formed terms that `Instr.wf` refuses, single steps and calculations whose expected results
stand in the spec's worked examples, and for every statement with hypotheses a concrete state and operands that
meet them. -/

namespace Sys2Proof.Tests

open Sys2Proof Sys2Proof.Machine Sys2Proof.Safety

set_option maxRecDepth 20000
set_option synthInstance.maxSize 400

/-! ### States -/

/-- A part that has started up, parked, with every channel CLEAR and every lane IDLE. -/
def awake : State :=
  { State.reset with
    startUp := .running
    chans := tab fun _ => { ChanRun.restart with state := .clear, filtered := 800, baseline := 800 }
    presence := { Presence.restart with roundTimer := some 10 }
    vehicle := { Vehicle.restart with
      held := { Vehicle.restart.held with speed := 0, park := true, ignition := .run }
      fresh := true, freshTimer := some 300 }
    request := { RequestUnit.restart with ready := true }
    report := { Reporter.restart with period := some 1000 } }

/-- The part in SLEEP, and in DOZE. -/
def asleep : State := { awake with power := { awake.power with mode := .sleep, dozeTimer := none } }
def dozing : State := { awake with power := { awake.power with mode := .doze, dozeTimer := none } }

/-- TIP-2L on its way from 100 to END_HIGH, at a factory step without a successor. -/
def someCtx : StepCtx :=
  { step := factoryStepRec 2 .endHigh .normal none 0 none, act := 2, p0 := 100, endKind := .high, pt := 900
    motion := .step, homingPending := false, correctionUsed := false, cls := .normal, slowDropped := false
    sweep := 0x005#12, guardLost := false, completed := false }

/-- BODY's lane with tag 7, in a given state. -/
def busy (x : LaneState) : Lane :=
  { Lane.restart with
    state := x, owner := some .body, tag := some 7#8, mode := some .continuous, plan := some .singleStep
    currentStep := some .inline, curAct := some 2, bound := [2], ctx := some someCtx }

def paused : Lane :=
  { busy .paused with pauseReason := some .halted, resumePoint := some .motion, pauseTimer := some 1 }

/-- The channel of TIP-2L driving, braking and making. -/
def driving : Drive :=
  { Drive.restart with
    connected := some 2, phase := .driving, direction := some .increasing, duty := 700, kind := some .step
    endKind := some .high, aim := 900, cls := some .normal, stallTime := some 0 }
def stalling : Drive := { driving with stallTime := some 80 }
def braking : Drive :=
  { driving with phase := .braking, duty := 0, brakeTimer := some 50, stallTime := none }
def making : Drive := { Drive.restart with connected := some 2, phase := .making, makeTimer := some 15 }

def withAct (a : ActId) (f : ActRun → ActRun) (s : State) : State := { s with acts := put s.acts a (f s.acts[a]) }
def withChan (c : ChanId) (f : ChanRun → ChanRun) (s : State) : State :=
  { s with chans := put s.chans c (f s.chans[c]) }

/-- `awake` with lane 0 and its channel as given, TIP-2L referenced at 100 and bound to lane 0. -/
def at0 (r : Lane) (d : Drive) : State :=
  withAct 2 (fun x =>
    { x with position := 100, referenced := true, binding := some 0
             cond := if d.phase = .driving then .driven else .atRest })
    { awake with lanes := put awake.lanes 0 r, drives := put awake.drives 0 d }

/-- The load context of lane 0, and the learn record of a learn that began at 100, referenced. -/
def withLoad (x : Load) (s : State) : State := { s with loads := put s.loads 0 x }
def learning : LearnRec :=
  { phase := .home, startPosition := 100, startReferenced := true, bins := tab fun _ => (0, 0), travel := none }

/-- Lane 0 holds FOOT-2L and SEAT-2L. -/
def holding (s : State) : State := { s with holders := put (put s.holders 0 (some 0)) 2 (some 0) }

/-- BODY's pending preempt of TIP-2L awaits lane 0. -/
def slotEntry : Preempt :=
  { station := .body, tag := 9#8, run := .step .continuous true 2 .endLow .normal .pause, awaited := 0b0001#4 }
def withSlot (s : State) : State := { s with request := { s.request with slot := some slotEntry } }

/-- A tune of P4 in its first trial, its 8 rounds taken. -/
def trial : Tune :=
  { channel := 4, savedBaseline := 1000, savedFiltered := 1001, savedState := .clear, bit := 32, trialGain := 32
    kept := none, sum := 8000, count := 8 }

/-- Lane 0 waits for FOOT-2L and SEAT-2L, blocked by the tuning of P4 alone. -/
def yielding : State :=
  withChan 4 (fun x => { x with state := .tuning })
    { at0 (busy .claiming) Drive.restart with
      waitList := [⟨0, 0x005#12, some 0, false⟩]
      presence := { awake.presence with queue := 0x010#12, tune := some trial } }

/-- A field of the state that an outcome answers. -/
def after {α : Type} (f : State → α) : Out → Option α
  | .next t => some (f t)
  | _ => none

/-! ### Ill-formed terms, one for each check of `Instr.wf` -/

theorem test_wf_request_too_long : (Instr.halt .body (List.replicate 8 0#8)).wf = false := by decide
theorem test_wf_service_too_long : (Instr.readField (List.replicate 8 0#8)).wf = false := by decide
theorem test_wf_unknown_kind_is_known : (Instr.unknownKindRequest .body 9#8 []).wf = false := by decide
theorem test_wf_unknown_kind_too_long : (Instr.unknownKindRequest .body 0#8 (List.replicate 8 0#8)).wf = false := by
  decide
theorem test_wf_discarded_is_a_request : (Instr.discardedFrame 0x3A5#11 [1#8]).wf = false := by decide
theorem test_wf_discarded_is_a_vehicle_state : (Instr.discardedFrame 0x3A8#11 []).wf = false := by decide
theorem test_wf_discarded_too_long : (Instr.discardedFrame 0x3A6#11 (List.replicate 9 0#8)).wf = false := by decide
theorem test_wf_vehicle_state_too_long : (Instr.vehicleState (List.replicate 9 0#8)).wf = false := by decide
theorem test_wf_unknown_service_is_known : (Instr.unknownServiceOperation [3#8, 7#8]).wf = false := by decide
theorem test_wf_unknown_service_without_data : (Instr.unknownServiceOperation []).wf = false := by decide
theorem test_wf_brownout_too_high : (Instr.brownout 6000).wf = false := by decide
theorem test_wf_recovery_too_low : (Instr.brownoutRecovery 6000).wf = false := by decide
theorem test_wf_power_on_too_low : (Instr.powerOn 5999).wf = false := by decide
theorem test_wf_discarded_without_data : (Instr.discardedFrame 0x3A5#11 []).wf = true := by decide

/-- A refused operand form of each of the rows whose operands may spell another row's command. -/
theorem test_refused_forms :
    exec (.unknownKindRequest .body 1#8 []) awake = .refused .notACommand ∧
    exec (.discardedFrame 0x3A8#11 [0#8]) awake = .refused .notACommand ∧
    exec (.unknownServiceOperation [2#8, 0#8, 0#8, 0#8, 0#8, 0#8, 0#8, 0#8]) awake = .refused .notACommand ∧
    exec (.powerOn 5999) awake = .refused .notACommand ∧
    exec (.brownout 6000) awake = .refused .notACommand ∧
    exec (.brownoutRecovery 6000) awake = .refused .notACommand := by
  refine ⟨?_, ?_, ?_, ?_, ?_, ?_⟩ <;> rfl

/-! ### Calculations of the worked examples -/

/-- 12.2: SLIDE-2L from 1600 to END_LOW claims FOOT-2L, SEAT-2L and KNEE-2L. -/
theorem test_sweep_walk_in : spanSweep (factoryActuator 0) 1600 0 = 0x015#12 := by decide
/-- 12.4: SLIDE-2L from 709, and SLIDE-2R from 950, to END_LOW. -/
theorem test_sweep_flat_floor :
    spanSweep (factoryActuator 0) 709 0 = 0x005#12 ∧ spanSweep (factoryActuator 3) 950 0 = 0x00A#12 := by decide
/-- 12.1: STOW-3L from 0 to END_HIGH claims SEAT-3L, WELL-L and CARGO-L. -/
theorem test_sweep_stow : spanSweep (factoryActuator 7) 0 2400 = 0x540#12 := by decide
/-- 12.3: the target 2800 of SLIDE-2L is INTERIOR. -/
theorem test_target_interior : resolve 3200 (.num 2800) = (.interior, 2800, false) := by decide
/-- 12.1 and 12.3: reported values. -/
theorem test_reported :
    reported 1800 1800 = 200 ∧ reported 1436 2400 = 119 ∧ reported 1396 2400 = 116 ∧ reported 2797 3200 = 174 := by
  decide
/-- 12.2: the stop point of the back-off from 671. -/
theorem test_stop_point : stopPointOf .decreasing 671 1600 3200 = 711 := by decide
/-- 2.6: the chains of recipe 4, THIRD-ROW-STOW. -/
theorem test_walk_third_row_stow :
    walk factorySteps 8 = some ⟨[6, 7], 2⟩ ∧ walk factorySteps 10 = some ⟨[8, 9], 2⟩ ∧
      walk factorySteps 24 = none := by
  decide
/-- 12.2, row 5: the third sample with F = 6840 against a flat profile is FIRM with deviation 4340. -/
theorem test_third_firm_sample :
    let x : Load := { Load.restart with
      filtered := some 6840, samples := 62, mode := .profile, marginSoft := 1500, marginFirm := 3000, firmRun := 2
      softHandled := true }
    (x.sample .step (factoryActuator 0) 671 6840).2 = .firm ∧
    (x.sample .step (factoryActuator 0) 671 6840).1.deviation = some 4340 := by decide
/-- R43 and section 11.1: the preempt flag is BODY's alone. -/
theorem test_decode_run_step :
    decodeRun .body 2#8 [7#8, 0x82#8, 0#8, 0x0A#8, 0xF0#8, 0x12#8] =
      some (.step .stepwise true 0 (.num 2800) .fast .slow) ∧
    decodeRun .tester 1#8 [7#8, 0x81#8, 15#8] = some (.recipe .hold false 15) ∧
    decodeRun .body 1#8 [7#8, 3#8, 0#8] = none ∧
    decodeRun .body 2#8 [7#8, 0#8, 0#8, 0x0F#8, 0xA1#8, 0#8] = none := by decide
/-- Section 11.1: Vehicle State bits, and ignition code 3. -/
theorem test_decode_vehicle :
    decodeVehicle [9#8, 0b01101101#8] = some
      { speed := 9, park := true, ignition := .run, rearLeftOpen := true, rearRightOpen := false
        tailgateOpen := true, sleepPermit := true } ∧
    decodeVehicle [9#8, 0b00000110#8] = none := by decide
/-- Section 11.1: field numbers of gates, times and preceding-request copies. -/
theorem test_field_numbers :
    decodeField 2#8 9#8 8#8 0#8 = some (.step 9 .gatePos) ∧ decodeField 2#8 9#8 9#8 0#8 = some (.step 9 .next) ∧
    decodeField 6#8 0#8 9#8 0#8 = some (.log 0 .deviation) ∧
    decodeField 6#8 1#8 12#8 0x35#8 = some (.log 1 (.preceding 3 .timeHigh)) ∧
    decodeField 0#8 0#8 8#8 32#8 = none ∧ decodeField 7#8 0#8 0#8 0#8 = none := by decide
/-- Section 11.2: the reply of 12.1, row 1. -/
theorem test_reply_layout :
    replyFrame .padCargo 5#8 1#8 .accepted 0b0011#4 false false = ⟨0x3B0#11, [4#8, 5#8, 1#8, 0#8, 3#8]⟩ := by decide
/-- Section 11.2: both pages of a driving lane. -/
theorem test_lane_frames :
    (lanePage0 (holding (at0 (busy .moving) driving)) 0).data = [0#8, 4#8, 0#8, 0#8, 7#8, 0xFE#8, 2#8, 0#8] ∧
    (lanePage1 (holding (at0 (busy .moving) driving)) 0).data = [4#8, 0#8, 0x20#8, 0#8, 0xFF#8, 0#8, 0#8, 5#8] := by
  decide
/-- Section 11.2: Z0 fenced by TUNING, A2 referenced, Z0 and Z2 held. -/
theorem test_sets_frame :
    (setsFrame (holding yielding)).data = [0#8, 0#8, 0#8, 0#8, 3#8, 0#8, 0x50#8, 4#8] := by decide

/-! ### Single steps of the worked examples -/

/-- 12.3, row 3: SLIDE-2L is cut at 2788, 12 counts before 2800 at NORMAL. -/
theorem test_cut_at_the_coast_allowance :
    after (fun t => (t.acts[(0 : ActId)].position, t.lanes[(0 : LaneId)].state, t.drives[(0 : LaneId)].phase))
      (exec (.hallPulse 0) (withAct 0 (fun x => { x with position := 2787, cond := .driven })
        (at0 (busy .moving) { driving with connected := some 0, endKind := some .interior, aim := 2800 }))) =
      some (2788, .settling, .braking) := by decide
/-- Chapter 9, the car creeps: speed 3 stops a MOVING lane toward PAUSED(INTERLOCK). -/
theorem test_creep_stops_the_lane :
    after (fun t => (t.lanes[(0 : LaneId)].state, t.lanes[(0 : LaneId)].stopDest))
      (exec (.vehicleState [3#8, 0#8]) (at0 (busy .moving) driving)) =
      some (.stopping, some (.paused .interlock)) := by decide
/-- Chapter 9, from DOZE to SLEEP: ignition OFF with sleep permit. -/
theorem test_doze_to_sleep :
    after (fun t => (t.power.mode, t.presence.roundTimer)) (exec (.vehicleState [0#8, 0x40#8]) dozing) =
      some (.sleep, none) := by decide
/-- Chapter 9, during the night: the 50th pulse of an actuator at rest. -/
theorem test_fiftieth_pulse_in_sleep :
    after (fun t => (t.acts[(7 : ActId)].referenced, t.power.mode))
      (exec (.hallPulse 7) (withAct 7 (fun x => { x with referenced := true, manualPulses := 49 }) asleep)) =
      some (false, .sleep) := by decide
/-- Chapter 10: a BROWNOUT restart whose recipes and fault log groups are damaged. -/
theorem test_two_damaged_groups :
    after (fun t => (t.ram.restartCount, t.ram.lifetime, t.ram.log.map LogEntry.sequence, t.power.notice))
      (exec (.storeCheckComplete 0x48#7) { State.reset with
        startUp := .loading .brownout
        store := { factorySettings with lifetime := 41, restartCount := 17 }
        checksums := ({ factorySettings with lifetime := 41, restartCount := 17 } : Settings).checksums }) =
      some (18, 43, [42, 43], some .brownout) := by decide
/-- Chapter 5, a tuning yield: the yield ends the tune and the waiting lane is granted. -/
theorem test_yield_grants_the_waiting_lane :
    after (fun t => (t.presence.tune, t.lanes[(0 : LaneId)].state, t.chans[(4 : ChanId)].baseline))
      (exec (.yieldTimerExpiry 0) yielding) = some (none, .arming, 1000) := by decide
/-- Chapter 5, a fence during a fold: P4 turning CONTACT stops the lane that holds FOOT-2L toward FENCED. -/
theorem test_fence_stops_its_holder :
    after (fun t => (t.chans[(4 : ChanId)].state, t.lanes[(0 : LaneId)].state, t.lanes[(0 : LaneId)].stopDest))
      (exec (.presenceSampleRound (tab fun c => if c = 4 then 0#16 else 800#16))
        (withChan 4 (fun x => { x with filtered := 700, contactRun := 1 }) (holding (at0 (busy .moving) driving)))) =
      some (.contact, .stopping, some .fenced) := by decide
/-- R87: an abandoned pause. -/
theorem test_pause_expiry :
    after (fun t => (t.lanes[(0 : LaneId)].state, t.lanes[(0 : LaneId)].lastResult, t.acts[(2 : ActId)].binding))
      (exec (.pauseTimerExpiry 0) (holding (at0 paused Drive.restart))) =
      some (.idle, some .abandoned, none) := by decide
/-- R76: 15 ms after the arm order the channel drives at 250 per mille and the motion mark is set. -/
theorem test_relay_made :
    after (fun t => (t.lanes[(0 : LaneId)].state, t.drives[(0 : LaneId)].duty,
        t.store.actuators[(2 : ActId)].motionMark))
      (exec (.relayMade 0) (at0 (busy .arming) making)) = some (.moving, 250, true) := by decide
/-- R172 and R208: the cancel of the only lane in ARMING starts the queued tune of P0, which protects TIP-2L, and the fresh
evaluation after PREEMPT_PENDING answers OCCUPIED. -/
theorem test_preempt_reads_the_tune_it_starts :
    after (fun t => t.tx.replies)
      (exec (.runStep .body [9#8, 0x80#8, 2#8, 0xFF#8, 0xF0#8, 0#8])
        { at0 (busy .arming) making with presence := { awake.presence with queue := 0x001#12 } }) =
      some [⟨0x3B0#11, [0#8, 9#8, 2#8, 16#8, 0#8]⟩, ⟨0x3B0#11, [0#8, 9#8, 2#8, 10#8, 0#8]⟩] := by decide
/-- R96: a stall in the back-off of lane 0 faults it and pauses its partner, which dwells in lane 1. -/
theorem test_partner_fault_pauses_the_dwelling_partner :
    after (fun t => (t.lanes[(0 : LaneId)].faultReason, t.lanes[(1 : LaneId)].pauseReason,
        t.lanes[(1 : LaneId)].resumePoint))
      (exec (.stall 0)
        (let s := at0 { busy .reversing with partner := some 1 } { stalling with kind := some .backOff }
         { s with lanes := put s.lanes 1 { busy .dwell with partner := some 0 } })) =
      some (some .reverseBlocked, some .partnerFault, some .afterStep) := by decide
/-- R63 and R90: a lane that a preempt awaits and that a drive fault stops is OFFLINE with PREEMPTED at once. -/
theorem test_drive_fault_of_the_awaited_lane :
    after (fun t => (t.lanes[(0 : LaneId)].state, t.lanes[(0 : LaneId)].lastResult, t.request.slot.isSome))
      (exec (.loadSample 0 20000 12000) (withSlot (at0 (busy .moving) { driving with saturation := 2 }))) =
      some (.offline, some .preempted, false) := by decide
/-- R68: the FIRM of a stall away from the end makes BACK_OFF the motion. -/
theorem test_contact_makes_back_off_the_motion :
    after (fun t => t.lanes[(0 : LaneId)].ctx.map fun c => c.motion) (exec (.stall 0) (at0 (busy .moving) stalling)) =
      some (some .backOff) := by decide
/-- R68 and R86: a back-off without distance leaves a correction as the motion that RESUME continues. -/
theorem test_back_off_end_returns_the_correction :
    after (fun t => t.lanes[(0 : LaneId)].ctx.map fun c => c.motion)
      (exec (.reversalBrakeEnd 0) (at0
        { busy .reversing with
          ctx := some { someCtx with motion := .backOff, correctionUsed := true }
          stopDest := some (.paused .firmContact) }
        { braking with reversal := true, stopPoint := 100 })) =
      some (some .correction) := by decide
/-- R187 and R201: the reseed that a completed write of a gain brings returns the part to ACTIVE, and the SLEEP condition
that waited for the write lapses (log entry 29). -/
theorem test_reseed_lapses_the_waiting_sleep :
    after (fun t => (t.power.mode, t.power.sleepWaiting))
      (exec .serviceWriteCompletion { dozing with
        power := { dozing.power with sleepWaiting := true }
        service := { dozing.service with busy := some (.write 5#8 (.channel 0 .gain) 20#16), timer := some 0 } }) =
      some (.active, false) := by decide
/-- R36, R40 and R90: a RUN_STEP lane that a CLEAR_FAULT takes to OFFLINE holds its inline step no more. -/
theorem test_offline_ends_the_inline_step :
    after (fun t => (t.lanes[(0 : LaneId)].state, t.lanes[(0 : LaneId)].inline))
      (exec (.clearFault .body [7#8, 0#8]) (at0
        { busy .faulted with ctx := none, faultReason := some .driveFault, inline := some someCtx.step }
        Drive.restart)) =
      some (.offline, none) := by decide
/-- A step on an empty queue lets one millisecond pass. -/
theorem test_idle_step :
    after (fun t => (t.now, t.power.dozeTimer)) (step awake) = some (1, some 29999) := by decide

/-! ### The hypotheses of the statements can be met: one clause of a theorem for each clause of a statement -/

theorem witness_RefusedRunChangesNothingElse :
    (∃ (s : State) (st : Station) (body : List Byte), ∃ run v, Serving s ∧ decodeRun st 1#8 body = some run ∧
      refusalOf s st run = some v) ∧
    (∃ (s : State) (st : Station) (body : List Byte), ∃ run v, Serving s ∧ decodeRun st 2#8 body = some run ∧
      refusalOf s st run = some v) ∧
    (∃ (s : State) (st : Station) (body : List Byte), ∃ run v, Serving s ∧ decodeRun st 3#8 body = some run ∧
      refusalOf s st run = some v) :=
  ⟨⟨awake, .body, [7#8, 0#8, 9#8], _, _, by decide, rfl, rfl⟩,
   ⟨awake, .pad2L, [7#8, 0#8, 3#8, 0xFF#8, 0xF0#8, 0#8], _, _, by decide, rfl, rfl⟩,
   ⟨awake, .pad3, [7#8, 0#8], _, _, by decide, rfl, rfl⟩⟩

theorem witness_AcceptedRunStartsItsLanes :
    (∃ (s : State) (st : Station) (body : List Byte), ∃ run ts, Serving s ∧ decodeRun st 1#8 body = some run ∧
      decideRun s st run = .start ts) ∧
    (∃ (s : State) (st : Station) (body : List Byte), ∃ run ts, Serving s ∧ decodeRun st 2#8 body = some run ∧
      decideRun s st run = .start ts) ∧
    (∃ (s : State) (st : Station) (body : List Byte), ∃ run ts, Serving s ∧ decodeRun st 3#8 body = some run ∧
      decideRun s st run = .start ts) :=
  ⟨⟨awake, .body, [7#8, 0#8, 0#8], _, _, by decide, rfl, rfl⟩,
   ⟨awake, .body, [7#8, 0#8, 3#8, 0xFF#8, 0xF0#8, 0#8], _, _, by decide, rfl, rfl⟩,
   ⟨awake, .tester, [7#8, 0#8], _, _, by decide, rfl, rfl⟩⟩

theorem witness_PreemptCancelsAndWaitsOrStarts :
    (∃ (s : State) (l : LaneId) (body : List Byte), ∃ run acts, decodeRun .body 1#8 body = some run ∧ decideRun s
      .body run = .conflict acts ∧ Serving s ∧ WaitListFits s ∧ s.lanes[l].state = .moving ∧ run.preempts = true ∧
      has (lanesBound s acts) l = true) ∧
    (∃ (s : State) (l : LaneId) (body : List Byte), ∃ run acts, decodeRun .body 2#8 body = some run ∧ decideRun s
      .body run = .conflict acts ∧ Serving s ∧ WaitListFits s ∧ s.lanes[l].state = .moving ∧ run.preempts = true ∧
      has (lanesBound s acts) l = true) ∧
    (∃ (s : State) (body : List Byte), ∃ run acts, decodeRun .body 1#8 body = some run ∧ decideRun s .body run =
      .conflict acts ∧ Serving s ∧ WaitListFits s ∧ run.preempts = true ∧ (∀ k : LaneId, has (lanesBound s acts) k
      = true → endsAtOnce s.lanes[k].state = true)) ∧
    (∃ (s : State) (body : List Byte), ∃ run acts, decodeRun .body 2#8 body = some run ∧ decideRun s .body run =
      .conflict acts ∧ Serving s ∧ WaitListFits s ∧ run.preempts = true ∧ (∀ k : LaneId, has (lanesBound s acts) k
      = true → endsAtOnce s.lanes[k].state = true)) :=
  ⟨⟨(at0 (busy .moving) driving), 0, [9#8, 0x80#8, 0#8], _, _, rfl, rfl, by decide, by decide, by decide,
    by decide, by decide⟩,
   ⟨(at0 (busy .moving) driving), 0, [9#8, 0x80#8, 2#8, 0xFF#8, 0xF0#8, 0#8], _, _, rfl, rfl, by decide,
    by decide, by decide, by decide, by decide⟩,
   ⟨(at0 paused Drive.restart), [9#8, 0x80#8, 0#8], _, _, rfl, rfl, by decide, by decide, by decide, by decide⟩,
   ⟨(at0 paused Drive.restart), [9#8, 0x80#8, 2#8, 0xFF#8, 0xF0#8, 0#8], _, _, rfl, rfl, by decide, by decide,
    by decide, by decide⟩⟩

theorem witness_HoldFramesRefreshAndAreNotAnswered :
    (∃ (s : State), s.power.mode ≠ .sleep) ∧
    (∃ (s : State) (st : Station) (body : List Byte), s.power.mode ≠ .sleep ∧ (s.request.ready = false ∨
      body.length < 2 ∨ (byteAt body 1).getLsbD 7 = true ∨ arrangement s st (byteAt body 0) = 0#4)) ∧
    (∃ (s : State) (st : Station) (body : List Byte) (l : LaneId), s.power.mode ≠ .sleep ∧ s.request.ready =
      true ∧ 2 ≤ body.length ∧ (byteAt body 1).getLsbD 7 = false ∧ has (arrangement s st (byteAt body 0)) l =
      true ∧ s.lanes[l].mode = some .hold ∧ s.lanes[l].state ≠ .faulted) ∧
    (∃ (s : State) (st : Station) (body : List Byte) (l : LaneId), s.power.mode ≠ .sleep ∧ s.request.ready =
      true ∧ 2 ≤ body.length ∧ (byteAt body 1).getLsbD 7 = false ∧ has (arrangement s st (byteAt body 0)) l =
      true ∧ s.lanes[l].mode = some .stepwise ∧ s.lanes[l].state = .waitAdvance ∧ s.lanes[l].ctx.isSome = true) :=
  ⟨⟨awake, by decide⟩,
   ⟨awake, .body, [7#8], by decide, by decide⟩,
   ⟨(at0 { busy .moving with mode := some .hold } driving), .body, [7#8, 0#8], 0, by decide, by decide,
    by decide, by decide, by decide, by decide, by decide⟩,
   ⟨(at0 { busy .waitAdvance with mode := some .stepwise } Drive.restart), .body, [7#8, 0#8], 0, by decide,
    by decide, by decide, by decide, by decide, by decide, by decide, by decide⟩⟩

theorem witness_HaltActsByState :
    (∃ (s : State) (st : Station) (body : List Byte) (l : LaneId), ∃ addr ls, Serving s ∧ WaitListFits s ∧ 2 ≤
      body.length ∧ decodeAddressing true body = some addr ∧ haltSet s st (byteAt body 0) addr = some ls ∧ has ls
      l = true) ∧
    (∃ (s : State) (st : Station) (body : List Byte) (l : LaneId), ∃ addr ls, Serving s ∧ WaitListFits s ∧ 2 ≤
      body.length ∧ decodeAddressing true body = some addr ∧ haltSet s st (byteAt body 0) addr = some ls ∧ has ls
      l = true ∧ haltAffects s.lanes[l] = true) ∧
    (∃ (s : State) (st : Station) (body : List Byte), ∃ addr ls, Serving s ∧ WaitListFits s ∧ 2 ≤ body.length ∧
      decodeAddressing true body = some addr ∧ haltSet s st (byteAt body 0) addr = some ls ∧ (∀ k : LaneId, has ls
      k = true → haltAffects s.lanes[k] = false) ∧ (addr ≠ .byMask 0#4 ∨ s.request.slot = none)) ∧
    (∃ (s : State) (st : Station) (body : List Byte), ∃ addr, Serving s ∧ WaitListFits s ∧ 2 ≤ body.length ∧
      decodeAddressing true body = some addr ∧ haltSet s st (byteAt body 0) addr = none) ∧
    (∃ (s : State) (body : List Byte), ∃ p, Serving s ∧ WaitListFits s ∧ 2 ≤ body.length ∧ s.request.slot = some
      p ∧ byteAt body 1 = 0x80#8) :=
  ⟨⟨(at0 (busy .moving) driving), .body, [7#8, 0#8], 0, _, _, by decide, by decide, by decide, rfl, rfl,
    by decide⟩,
   ⟨(at0 (busy .moving) driving), .body, [7#8, 0x81#8], 0, _, _, by decide, by decide, by decide, rfl, rfl,
    by decide, by decide⟩,
   ⟨(at0 { busy .stopping with stopDest := some (.idle .cancelled) } braking), .body, [7#8, 0x81#8], _, _,
    by decide, by decide, by decide, rfl, rfl, by decide, by decide⟩,
   ⟨(at0 (busy .moving) driving), .pad3, [7#8, 0x81#8], _, by decide, by decide, by decide, rfl, by decide⟩,
   ⟨(withSlot (at0 (busy .moving) driving)), [7#8, 0x80#8], _, by decide, by decide, by decide, rfl, by decide⟩⟩

theorem witness_ResumeContinuesPausedLanes :
    (∃ (s : State) (st : Station) (body : List Byte), ∃ addr, Serving s ∧ decodeAddressing false body = some
      addr ∧ commandSet s st (byteAt body 0) addr = none) ∧
    (∃ (s : State) (st : Station) (body : List Byte), ∃ addr ls, Serving s ∧ decodeAddressing false body = some
      addr ∧ commandSet s st (byteAt body 0) addr = some ls ∧ (∀ k : LaneId, has ls k = true → s.lanes[k].state ≠
      .paused)) ∧
    (∃ (s : State) (st : Station) (body : List Byte) (l : LaneId), ∃ addr ls, Serving s ∧ decodeAddressing false
      body = some addr ∧ commandSet s st (byteAt body 0) addr = some ls ∧ has ls l = true ∧ s.lanes[l].state =
      .paused ∧ (interlock s = false ∨ s.supply.measured < 9500)) ∧
    (∃ (s : State) (st : Station) (body : List Byte) (l : LaneId), ∃ addr ls rp, Serving s ∧ decodeAddressing
      false body = some addr ∧ commandSet s st (byteAt body 0) addr = some ls ∧ s.lanes[l].resumePoint = some rp ∧
      has ls l = true ∧ s.lanes[l].state = .paused ∧ s.lanes[l].ctx.isSome = true ∧ interlock s = true ∧ 9500 ≤
      s.supply.measured ∧ WaitListFits s ∧ PreemptWaits s) :=
  ⟨⟨(at0 paused Drive.restart), .pad3, [7#8, 0x81#8], _, by decide, rfl, by decide⟩,
   ⟨(at0 (busy .moving) driving), .body, [7#8, 0#8], _, _, by decide, rfl, rfl, by decide⟩,
   ⟨{ at0 paused Drive.restart with supply := { awake.supply with measured := 9499 } }, .body, [7#8, 0#8], 0, _,
    _, by decide, rfl, rfl, by decide, by decide, by decide⟩,
   ⟨{ at0 paused Drive.restart with supply := { awake.supply with measured := 9500 } }, .body, [7#8, 0#8], 0, _,
    _, _, by decide, rfl, rfl, rfl, by decide, by decide, by decide, by decide, by decide, by decide, by decide⟩⟩

theorem witness_CancelEndsLanes :
    (∃ (s : State) (st : Station) (body : List Byte), ∃ addr, Serving s ∧ WaitListFits s ∧ s.request.slot =
      none ∧ decodeAddressing false body = some addr ∧ commandSet s st (byteAt body 0) addr = none) ∧
    (∃ (s : State) (st : Station) (body : List Byte) (l : LaneId), ∃ addr ls, Serving s ∧ WaitListFits s ∧
      s.request.slot = none ∧ decodeAddressing false body = some addr ∧ commandSet s st (byteAt body 0) addr =
      some ls ∧ has ls l = true ∧ s.lanes[l].state.free = false) ∧
    (∃ (s : State) (st : Station) (body : List Byte), ∃ addr ls, Serving s ∧ WaitListFits s ∧ s.request.slot =
      none ∧ decodeAddressing false body = some addr ∧ commandSet s st (byteAt body 0) addr = some ls ∧ (∀ k :
      LaneId, has ls k = true → s.lanes[k].state.free = true)) :=
  ⟨⟨(at0 paused Drive.restart), .pad3, [7#8, 0x81#8], _, by decide, by decide, by decide, rfl, by decide⟩,
   ⟨(at0 (busy .moving) driving), .body, [7#8, 0#8], 0, _, _, by decide, by decide, by decide, rfl, rfl,
    by decide, by decide⟩,
   ⟨awake, .body, [7#8, 0x8F#8], _, _, by decide, by decide, by decide, rfl, rfl, by decide⟩⟩

theorem witness_ClearFaultReleasesFaultedLanes :
    (∃ (s : State) (st : Station) (body : List Byte), ∃ addr, Serving s ∧ s.request.slot = none ∧
      decodeAddressing false body = some addr ∧ commandSet s st (byteAt body 0) addr = none) ∧
    (∃ (s : State) (st : Station) (body : List Byte) (l : LaneId), ∃ addr ls, Serving s ∧ s.request.slot = none ∧
      decodeAddressing false body = some addr ∧ commandSet s st (byteAt body 0) addr = some ls ∧ has ls l = true ∧
      s.lanes[l].state = .faulted ∧ Unlisted s l) ∧
    (∃ (s : State) (st : Station) (body : List Byte), ∃ addr ls, Serving s ∧ s.request.slot = none ∧
      decodeAddressing false body = some addr ∧ commandSet s st (byteAt body 0) addr = some ls ∧ (∀ k : LaneId,
      has ls k = true → s.lanes[k].state ≠ .faulted)) :=
  ⟨⟨(at0 { busy .faulted with ctx := none, faultReason := some .driveFault } Drive.restart), .pad3, [7#8,
    0x81#8], _, by decide, by decide, rfl, by decide⟩,
   ⟨(at0 { busy .faulted with ctx := none, faultReason := some .driveFault } Drive.restart), .body, [7#8, 0#8],
    0, _, _, by decide, by decide, rfl, rfl, by decide, by decide, by decide⟩,
   ⟨(at0 (busy .moving) driving), .body, [7#8, 0#8], _, _, by decide, by decide, rfl, rfl, by decide⟩⟩

theorem witness_AckRestartClearsTheNotice :
    (∃ (s : State) (st : Station) (body : List Byte), Serving s ∧ 1 ≤ body.length ∧ st ≠ .body) ∧
    (∃ (s : State) (body : List Byte), Serving s ∧ 1 ≤ body.length ∧ s.power.notice = none) ∧
    (∃ (s : State) (body : List Byte), Serving s ∧ 1 ≤ body.length ∧ s.power.notice ≠ none) :=
  ⟨⟨awake, .pad3, [7#8], by decide, by decide, by decide⟩,
   ⟨awake, [7#8], by decide, by decide, by decide⟩,
   ⟨{ awake with power := { awake.power with notice := some .powerOn } }, [7#8], by decide, by decide, by decide⟩⟩

theorem witness_MalformedAndEarlyFramesAreAnsweredOnly :
    (∃ (s : State) (st : Station) (body : List Byte), Serving s ∧ decodeRun st 1#8 body = none) ∧
    (∃ (s : State) (st : Station) (body : List Byte), Serving s ∧ decodeRun st 2#8 body = none) ∧
    (∃ (s : State) (st : Station) (body : List Byte), Serving s ∧ decodeRun st 3#8 body = none) ∧
    (∃ (s : State) (body : List Byte), Serving s ∧ decodeAddressing true body = none) ∧
    (∃ (s : State) (body : List Byte), Serving s ∧ decodeAddressing false body = none) ∧
    (∃ (s : State) (kind : Byte), Serving s ∧ knownKind kind = false) ∧
    (∃ (s : State) (body : List Byte) (op : Byte), Serving s ∧ badServiceFrame (op :: body) = true) ∧
    (∃ (s : State) (body : List Byte) (ident : BitVec 11), s.power.mode ≠ .sleep ∧ discardedForm ident body =
      true) ∧
    (∃ (s : State) (body : List Byte), Serving s ∧ body = []) ∧
    (∃ (s : State), s.power.mode ≠ .sleep ∧ s.request.ready = false) ∧
    (∃ (s : State) (kind : Byte), s.power.mode ≠ .sleep ∧ s.request.ready = false ∧ knownKind kind = false) ∧
    (∃ (s : State) (body : List Byte) (op : Byte), s.power.mode ≠ .sleep ∧ s.request.ready = false ∧
      badServiceFrame (op :: body) = true) :=
  ⟨⟨awake, .body, [], by decide, by decide⟩,
   ⟨awake, .body, [], by decide, by decide⟩,
   ⟨awake, .body, [], by decide, by decide⟩,
   ⟨awake, [], by decide, by decide⟩,
   ⟨awake, [], by decide, by decide⟩,
   ⟨awake, 0#8, by decide, by decide⟩,
   ⟨awake, [], 9#8, by decide, by decide⟩,
   ⟨awake, [], 0x3A6#11, by decide, by decide⟩,
   ⟨awake, [], by decide, by decide⟩,
   ⟨State.reset, by decide, by decide⟩,
   ⟨State.reset, 0#8, by decide, by decide, by decide⟩,
   ⟨State.reset, [], 9#8, by decide, by decide, by decide⟩⟩

theorem witness_SampleContactsActByThePolicy :
    (∃ (s : State) (l : LaneId) (reading : Nat) (mv : Nat), ∃ a k c, WaitListFits s ∧ s.drives[l].connected =
      some a ∧ s.drives[l].kind = some k ∧ s.lanes[l].ctx = some c ∧ s.drives[l].phase = .driving ∧ ¬ (20000 ≤
      reading ∧ s.drives[l].saturation = 2) ∧ (mv < 9000 → s.supply.low = false → s.supply.lowRun < 9) ∧
      PreemptWaits s ∧ s.lanes[l].state = .moving ∧ k ≠ .backOff ∧ SoftAt s.loads[l] s.ram.actuators[a]
      s.acts[a].position (min 20000 reading) ∧ c.step.policy = .pause) ∧
    (∃ (s : State) (l : LaneId) (reading : Nat) (mv : Nat), ∃ a k dir c, WaitListFits s ∧ s.drives[l].connected =
      some a ∧ s.drives[l].kind = some k ∧ s.drives[l].direction = some dir ∧ s.lanes[l].ctx = some c ∧
      s.drives[l].phase = .driving ∧ ¬ (20000 ≤ reading ∧ s.drives[l].saturation = 2) ∧ (mv < 9000 → s.supply.low
      = false → s.supply.lowRun < 9) ∧ PreemptWaits s ∧ s.lanes[l].state = .moving ∧ k ≠ .backOff ∧ SoftAt
      s.loads[l] s.ram.actuators[a] s.acts[a].position (min 20000 reading) ∧ c.step.policy = .slow ∧
      (s.drives[l].endKind = some .interior → 4 < leftTo dir s.acts[a].position s.drives[l].aim)) ∧
    (∃ (s : State) (l : LaneId) (reading : Nat) (mv : Nat), ∃ a k dir, WaitListFits s ∧ s.drives[l].connected =
      some a ∧ s.drives[l].kind = some k ∧ s.drives[l].direction = some dir ∧ s.drives[l].phase = .driving ∧ ¬
      (20000 ≤ reading ∧ s.drives[l].saturation = 2) ∧ (mv < 9000 → s.supply.low = false → s.supply.lowRun < 9) ∧
      PreemptWaits s ∧ s.lanes[l].state = .moving ∧ FirmAt s.loads[l] s.ram.actuators[a] s.acts[a].position (min
      20000 reading)) ∧
    (∃ (s : State) (l : LaneId) (reading : Nat) (mv : Nat), ∃ a k, WaitListFits s ∧ s.drives[l].connected = some
      a ∧ s.drives[l].kind = some k ∧ s.drives[l].phase = .driving ∧ ¬ (20000 ≤ reading ∧ s.drives[l].saturation =
      2) ∧ (mv < 9000 → s.supply.low = false → s.supply.lowRun < 9) ∧ PreemptWaits s ∧ s.lanes[l].state =
      .reversing ∧ k = .backOff ∧ s.request.slot = none ∧ FirmAt s.loads[l] s.ram.actuators[a] s.acts[a].position
      (min 20000 reading)) :=
  ⟨⟨(withLoad
    { Load.restart with samples := 60, mode := .profile, filtered := some 9000, marginSoft := 1500, marginFirm := 20000, softRun := 4, firmRun := 2 }
    (at0 (busy .moving) driving)), 0, 9000, 9000, _, _, _, by decide, rfl, rfl, rfl, by decide, by decide,
    by decide, by decide, by decide, by decide, by decide, by decide⟩,
   ⟨(withLoad
    { Load.restart with samples := 60, mode := .profile, filtered := some 9000, marginSoft := 1500, marginFirm := 20000, softRun := 4, firmRun := 2 }
    (at0 { busy .moving with ctx := some { someCtx with step := { someCtx.step with policy := .slow } } }
    { driving with endKind := some .interior, aim := 105 })), 0, 9000, 9000, _, _, _, _, by decide, rfl, rfl, rfl,
    rfl, by decide, by decide, by decide, by decide, by decide, by decide, by decide, by decide, by decide⟩,
   ⟨(withLoad
    { Load.restart with samples := 60, mode := .profile, filtered := some 9000, marginSoft := 1500, marginFirm := 6500, softRun := 4, firmRun := 2 }
    (at0 (busy .moving) driving)), 0, 9000, 9000, _, _, _, by decide, rfl, rfl, rfl, by decide, by decide,
    by decide, by decide, by decide, by decide⟩,
   ⟨(withLoad
    { Load.restart with samples := 60, mode := .profile, filtered := some 9000, marginSoft := 1500, marginFirm := 6500, softRun := 4, firmRun := 2 }
    (at0 { busy .reversing with stopDest := some (.paused .firmContact) }
    { driving with kind := some .backOff })), 0, 9000, 9000, _, _, by decide, rfl, rfl, by decide, by decide,
    by decide, by decide, by decide, by decide, by decide, by decide⟩⟩

theorem witness_FramesAndTheWakeLineWakeTheSleepingPart :
    (∃ (s : State), s.power.mode = .sleep ∧ 6000 ≤ s.supply.pin) ∧
    (∃ (s : State) (kind : Byte), s.power.mode = .sleep ∧ 6000 ≤ s.supply.pin ∧ knownKind kind = false) ∧
    (∃ (s : State) (body : List Byte) (kind : Byte), s.power.mode = .sleep ∧ 6000 ≤ s.supply.pin ∧
      badServiceFrame (kind :: body) = true) ∧
    (∃ (s : State) (body : List Byte) (ident : BitVec 11), s.power.mode = .sleep ∧ 6000 ≤ s.supply.pin ∧
      discardedForm ident body = true) ∧
    (∃ (s : State), s.power.mode ≠ .sleep) :=
  ⟨⟨asleep, by decide, by decide⟩,
   ⟨asleep, 0#8, by decide, by decide, by decide⟩,
   ⟨asleep, [], 0#8, by decide, by decide, by decide⟩,
   ⟨asleep, [], 0x3A6#11, by decide, by decide, by decide⟩,
   ⟨awake, by decide⟩⟩

theorem witness_VehicleStateIsTakenWhole :
    (∃ (s : State) (data : List Byte), s.power.mode ≠ .sleep ∧ decodeVehicle data = none) ∧
    (∃ (s : State) (data : List Byte), ∃ v, decodeVehicle data = some v ∧ s.power.mode = .active) ∧
    (∃ (s : State), s.vehicle.freshTimer.isSome = true) ∧
    (∃ (s : State), s.vehicle.freshTimer = none) :=
  ⟨⟨awake, [0#8], by decide, by decide⟩,
   ⟨awake, [3#8, 1#8], _, rfl, by decide⟩,
   ⟨awake, by decide⟩,
   ⟨State.reset, by decide⟩⟩

theorem witness_ReadFieldAnswersTheRamValue :
    (∃ (s : State) (body : List Byte), ∃ f x, Serving s ∧ decodeField (byteAt body 1) (byteAt body 2) (byteAt
      body 3) (byteAt body 4) = some f ∧ readValue s f = .value x ∧ 5 ≤ body.length) ∧
    (∃ (s : State) (body : List Byte), ∃ f, Serving s ∧ decodeField (byteAt body 1) (byteAt body 2) (byteAt body
      3) (byteAt body 4) = some f ∧ readValue s f = .absent ∧ 5 ≤ body.length) ∧
    (∃ (s : State) (body : List Byte), ∃ f, Serving s ∧ decodeField (byteAt body 1) (byteAt body 2) (byteAt body
      3) (byteAt body 4) = some f ∧ readValue s f = .notActive ∧ 5 ≤ body.length) ∧
    (∃ (s : State) (body : List Byte), Serving s ∧ (body.length < 5 ∨ decodeField (byteAt body 1) (byteAt body 2)
      (byteAt body 3) (byteAt body 4) = none)) :=
  ⟨⟨awake, [7#8, 0#8, 9#8, 0#8, 0#8], _, _, by decide, rfl, rfl, by decide⟩,
   ⟨awake, [7#8, 2#8, 0#8, 5#8, 0#8], _, by decide, rfl, by decide, by decide⟩,
   ⟨awake, [7#8, 6#8, 0#8, 0#8, 0#8], _, by decide, rfl, by decide, by decide⟩,
   ⟨awake, [7#8, 0#8, 10#8, 0#8, 0#8], by decide, by decide⟩⟩

theorem witness_StoreChangesStartOrAreRefused :
    (∃ (s : State) (body : List Byte), ∃ f v, Serving s ∧ decodeField (byteAt body 1) (byteAt body 2) (byteAt
      body 3) (byteAt body 4) = some f ∧ changeVerdict s = some v ∧ 7 ≤ body.length ∧ writable f = true) ∧
    (∃ (s : State) (body : List Byte), ∃ v, Serving s ∧ changeVerdict s = some v ∧ 1 ≤ body.length) ∧
    (∃ (s : State) (body : List Byte), ∃ a v, Serving s ∧ below 10 (byteAt body 2).toNat = some a ∧ changeVerdict
      s = some v ∧ 3 ≤ body.length) ∧
    (∃ (s : State) (body : List Byte), ∃ f, Serving s ∧ decodeField (byteAt body 1) (byteAt body 2) (byteAt body
      3) (byteAt body 4) = some f ∧ 7 ≤ body.length ∧ writable f = true ∧ changeVerdict s = none ∧ validWrite
      s.ram f (wordAt body 5) = none) ∧
    (∃ (s : State) (body : List Byte), ∃ f w1, Serving s ∧ decodeField (byteAt body 1) (byteAt body 2) (byteAt
      body 3) (byteAt body 4) = some f ∧ validWrite s.ram f (wordAt body 5) = some w1 ∧ 7 ≤ body.length ∧ writable
      f = true ∧ changeVerdict s = none) ∧
    (∃ (s : State) (body : List Byte), Serving s ∧ (body.length < 7 ∨ (decodeField (byteAt body 1) (byteAt body
      2) (byteAt body 3) (byteAt body 4)).all (!writable ·) = true)) ∧
    (∃ (s : State) (body : List Byte), Serving s ∧ body = []) ∧
    (∃ (s : State) (body : List Byte), Serving s ∧ (body.length < 3 ∨ below 10 (byteAt body 2).toNat = none)) ∧
    (∃ (s : State) (body : List Byte), Serving s ∧ 1 ≤ body.length ∧ changeVerdict s = none) ∧
    (∃ (s : State) (body : List Byte), ∃ a, Serving s ∧ below 10 (byteAt body 2).toNat = some a ∧ 3 ≤
      body.length ∧ changeVerdict s = none) :=
  ⟨⟨{ awake with vehicle := { awake.vehicle with freeze := true } }, [7#8, 0#8, 9#8, 0#8, 0#8, 0#8, 200#8], _, _,
    by decide, rfl, rfl, by decide, by decide⟩,
   ⟨{ awake with service := { awake.service with busy := some (.clearLog 1#8) } }, [7#8], _, by decide, rfl,
    by decide⟩,
   ⟨(at0 (busy .moving) driving), [7#8, 0#8, 9#8], _, _, by decide, rfl, rfl, by decide⟩,
   ⟨awake, [7#8, 0#8, 9#8, 0#8, 0#8, 0#8, 199#8], _, by decide, rfl, by decide, by decide, by decide, by decide⟩,
   ⟨awake, [7#8, 0#8, 9#8, 0#8, 0#8, 0#8, 200#8], _, _, by decide, rfl, rfl, by decide, by decide, by decide⟩,
   ⟨awake, [7#8, 0#8, 9#8, 12#8, 0#8, 0#8, 200#8], by decide, by decide⟩,
   ⟨awake, [], by decide, by decide⟩,
   ⟨awake, [7#8, 0#8, 10#8], by decide, by decide⟩,
   ⟨awake, [7#8], by decide, by decide, by decide⟩,
   ⟨awake, [7#8, 0#8, 9#8], _, by decide, rfl, by decide, by decide⟩⟩

theorem witness_StoreChangesCompleteOrAreAbandoned :
    (∃ (s : State) (tag : Byte), ∃ f y x, s.service.busy = some (.write tag f y) ∧ storeVerdict s = some x) ∧
    (∃ (s : State) (tag : Byte), ∃ f y g w, s.service.busy = some (.write tag f y) ∧ writeOf f y.toNat = some (g,
      w) ∧ storeVerdict s = none ∧ (∀ a : ActId, f ≠ .actuator a .travel ∧ f ≠ .actuator a .sense)) ∧
    (∃ (s : State) (tag : Byte), ∃ x, s.service.busy = some (.clearLog tag) ∧ storeVerdict s = some x) ∧
    (∃ (s : State) (tag : Byte), s.service.busy = some (.clearLog tag) ∧ storeVerdict s = none) ∧
    (∃ (s : State) (tag : Byte), ∃ a x, s.service.busy = some (.factoryProfile tag a) ∧ storeVerdict s = some x) ∧
    (∃ (s : State) (tag : Byte), ∃ a, s.service.busy = some (.factoryProfile tag a) ∧ storeVerdict s = none) :=
  ⟨⟨{ (at0 (busy .moving) driving) with service := { awake.service with busy := some (.write 7#8 .dozeTime 5#16) } },
    7#8, _, _, _, rfl, rfl⟩,
   ⟨{ awake with service := { awake.service with busy := some (.write 7#8 .dozeTime 5#16) } }, 7#8, _, _, _, _,
    rfl, rfl, by decide, by decide⟩,
   ⟨{ (at0 (busy .moving) driving) with service := { awake.service with busy := some (.clearLog 7#8) } }, 7#8, _,
    by decide, rfl⟩,
   ⟨{ awake with service := { awake.service with busy := some (.clearLog 7#8) } }, 7#8, by decide, by decide⟩,
   ⟨{ (at0 (busy .moving) driving) with service := { awake.service with busy := some (.factoryProfile 7#8 9) } },
    7#8, _, _, rfl, rfl⟩,
   ⟨{ awake with service := { awake.service with busy := some (.factoryProfile 7#8 9) } }, 7#8, _, rfl,
    by decide⟩⟩

theorem witness_WritesOfTravelSenseAndGainHaveTheirConsequences :
    (∃ (s : State) (a : ActId) (tag : Byte) (y : BitVec 16), storeVerdict s = none ∧ s.service.busy = some
      (.write tag (.actuator a .travel) y) ∧ 200 ≤ y.toNat ∧ y.toNat ≤ 4000) ∧
    (∃ (s : State) (a : ActId) (tag : Byte) (y : BitVec 16), storeVerdict s = none ∧ s.service.busy = some
      (.write tag (.actuator a .sense) y) ∧ y.toNat ≤ 1) ∧
    (∃ (s : State) (c : ChanId) (tag : Byte) (y : BitVec 16), storeVerdict s = none ∧ s.service.busy = some
      (.write tag (.channel c .gain) y) ∧ y.toNat ≤ 63) :=
  ⟨⟨{ awake with service := { awake.service with busy := some (.write 7#8 (.actuator 9 .travel) 200#16) } }, 9,
    7#8, 200#16, by decide, by decide, by decide, by decide⟩,
   ⟨{ awake with service := { awake.service with busy := some (.write 7#8 (.actuator 9 .sense) 1#16) } }, 9, 7#8,
    1#16, by decide, by decide, by decide⟩,
   ⟨{ awake with service := { awake.service with busy := some (.write 7#8 (.channel 11 .gain) 63#16) } }, 11,
    7#8, 63#16, by decide, by decide, by decide⟩⟩

theorem witness_RestartsTakeTheirValues :
    (∃ (mv : Nat), 6000 ≤ mv) ∧
    (∃ (mv : Nat), mv < 6000) ∧
    (∃ (s : State) (mv : Nat), ∃ k, s.startUp = .held k ∧ 6000 < mv) ∧
    (∃ (s : State) (mv : Nat), 6000 < mv ∧ (s.startUp = .running ∨ s.startUp = .wake)) ∧
    (∃ (s : State) (body : List Byte), Serving s ∧ 1 ≤ body.length) :=
  ⟨⟨6000, by decide⟩,
   ⟨5999, by decide⟩,
   ⟨{ State.reset with startUp := .held .brownout }, 6001, _, rfl, by decide⟩,
   ⟨awake, 6001, by decide, by decide⟩,
   ⟨awake, [7#8], by decide, by decide⟩⟩

theorem witness_StoreCheckEndsTheRestart :
    (∃ (s : State), ∃ k, s.store.lifetime ≤ 65535 ∧ s.startUp = .loading k) ∧
    (∃ (s : State), s.store.lifetime ≤ 65535 ∧ (s.startUp = .running ∨ s.startUp = .wake)) :=
  ⟨⟨State.reset, _, by decide, rfl⟩,
   ⟨awake, by decide, by decide⟩⟩

theorem witness_WakeStartUpEndsWithTheFlagAndSeeding :
    (∃ (s : State), s.startUp = .wake ∧ s.request.held = none ∧ s.service.held = none) ∧
    (∃ (s : State) (st : Station) (kind : Byte) (body : List Byte), s.startUp = .wake ∧ s.power.mode ≠ .sleep ∧
      s.request.held = some (st, kind :: body) ∧ kind ≠ 4#8 ∧ s.service.held = none) ∧
    (∃ (s : State) (kind : Byte) (body : List Byte), s.startUp = .wake ∧ s.power.mode ≠ .sleep ∧ s.request.held =
      none ∧ s.service.held = some (kind :: body) ∧ (kind.toNat = 0 ∨ 5 < kind.toNat ∨ badServiceFrame (kind ::
      body) = false)) :=
  ⟨⟨{ awake with startUp := .wake, request := { awake.request with ready := false } }, by decide, by decide,
    by decide⟩,
   ⟨{ awake with startUp := .wake, request := { awake.request with ready := false, held := some (.body, [1#8]) } },
    .body, 1#8, [], by decide, by decide, by decide, by decide, by decide⟩,
   ⟨{ awake with startUp := .wake, service := { awake.service with held := some [5#8, 7#8] } }, 5#8, [7#8],
    by decide, by decide, by decide, by decide, by decide⟩⟩

theorem witness_DozeSleepAndTheSleepPermission :
    (∃ (s : State), s.power.dozeTimer.isSome = true ∧ s.power.mode = .active ∧ allIdle s = true ∧ s.startUp =
      .running) ∧
    (∃ (s : State), s.power.silenceTimer.isSome = true ∧ s.power.mode = .doze ∧ s.service.busy = none) ∧
    (∃ (s : State), s.power.silenceTimer.isSome = true ∧ s.power.mode = .active) ∧
    (∃ (s : State) (data : List Byte), ∃ v, decodeVehicle data = some v ∧ s.power.mode = .doze ∧ allIdle s = true) :=
  ⟨⟨awake, by decide, by decide, by decide, by decide⟩,
   ⟨dozing, by decide, by decide, by decide⟩,
   ⟨awake, by decide, by decide⟩,
   ⟨dozing, [0#8, 0x40#8], _, rfl, by decide, by decide⟩⟩

theorem witness_SupplyMeasurementKeepsTheLowRun :
    (∃ (s : State), s.supply.timer.isSome = true) ∧
    (∃ (s : State), s.supply.timer = none) :=
  ⟨⟨{ awake with supply := { awake.supply with lowRun := 9 } }, by decide⟩,
   ⟨{ awake with supply := { awake.supply with timer := none } }, by decide⟩⟩

theorem witness_HallPulsesCountAndSlowCutOrEndTheDrive :
    (∃ (s : State) (a : ActId), (s.startUp = .running ∨ s.startUp = .wake) ∧ s.acts[a].cond ≠ .atRest) ∧
    (∃ (s : State) (a : ActId) (l : LaneId), ∃ cls k dir, s.drives[l].cls = some cls ∧ s.drives[l].kind = some
      k ∧ s.drives[l].direction = some dir ∧ (s.startUp = .running ∨ s.startUp = .wake) ∧ s.acts[a].cond ≠
      .atRest ∧ s.drives[l].phase = .driving ∧ s.drives[l].connected = some a ∧ (∀ m : LaneId, m ≠ l →
      s.drives[m].connected ≠ some a) ∧ s.lanes[l].state = .moving ∧ (k = .step ∨ k = .correction ∨ k =
      .learnReturn) ∧ s.drives[l].endKind = some .interior) ∧
    (∃ (s : State) (a : ActId) (l : LaneId), ∃ cls k e, s.drives[l].cls = some cls ∧ s.drives[l].kind = some k ∧
      s.drives[l].endKind = some e ∧ (s.startUp = .running ∨ s.startUp = .wake) ∧ s.acts[a].cond ≠ .atRest ∧
      s.drives[l].phase = .driving ∧ s.drives[l].connected = some a ∧ (∀ m : LaneId, m ≠ l → s.drives[m].connected
      ≠ some a) ∧ s.lanes[l].state = .moving ∧ (k = .step ∨ k = .correction ∨ k = .learnReturn) ∧ e ≠ .interior) ∧
    (∃ (s : State) (a : ActId) (l : LaneId), ∃ cls k, s.drives[l].cls = some cls ∧ s.drives[l].kind = some k ∧
      (s.startUp = .running ∨ s.startUp = .wake) ∧ s.acts[a].cond ≠ .atRest ∧ s.drives[l].phase = .driving ∧
      s.drives[l].connected = some a ∧ (∀ m : LaneId, m ≠ l → s.drives[m].connected ≠ some a) ∧ s.lanes[l].state =
      .moving ∧ (k = .homing ∨ k = .learnHome ∨ k = .learnRise)) ∧
    (∃ (s : State) (a : ActId) (l : LaneId), ∃ dir dest, s.drives[l].direction = some dir ∧ s.lanes[l].stopDest =
      some dest ∧ (s.startUp = .running ∨ s.startUp = .wake) ∧ s.acts[a].cond ≠ .atRest ∧ s.drives[l].phase =
      .driving ∧ s.drives[l].connected = some a ∧ (∀ m : LaneId, m ≠ l → s.drives[m].connected ≠ some a) ∧
      s.lanes[l].state = .reversing ∧ s.drives[l].kind = some .backOff ∧ s.drives[l].cls = some .creep) ∧
    (∃ (s : State), ∃ w1, s.startUp = .loading w1) :=
  ⟨⟨(at0 (busy .moving) driving), 2, by decide, by decide⟩,
   ⟨(at0 (busy .moving) { driving with endKind := some .interior, aim := 113 }), 2, 0, _, _, _, rfl, rfl, rfl,
    by decide, by decide, by decide, by decide, by decide, by decide, by decide, by decide⟩,
   ⟨(at0 (busy .moving) driving), 2, 0, _, _, _, rfl, rfl, rfl, by decide, by decide, by decide, by decide,
    by decide, by decide, by decide, by decide⟩,
   ⟨(at0 (busy .moving) { driving with kind := some .learnRise }), 2, 0, _, _, rfl, rfl, by decide, by decide,
    by decide, by decide, by decide, by decide, by decide⟩,
   ⟨(at0 { busy .reversing with stopDest := some (.paused .firmContact) }
    { driving with kind := some .backOff, cls := some .creep, stopPoint := 105 }), 2, 0, _, _, rfl, rfl,
    by decide, by decide, by decide, by decide, by decide, by decide, by decide, by decide⟩,
   ⟨State.reset, _, rfl⟩⟩

theorem witness_ManualPulsesUnreferenceAtTheFiftieth :
    (∃ (s : State) (a : ActId), (s.startUp = .running ∨ s.startUp = .wake) ∧ s.acts[a].cond = .atRest ∧
      s.acts[a].manualPulses < 50 ∧ (s.acts[a].manualPulses = 49 → s.acts[a].referenced = false)) ∧
    (∃ (s : State) (a : ActId), (s.startUp = .running ∨ s.startUp = .wake) ∧ s.acts[a].cond = .atRest ∧ 50 ≤
      s.acts[a].manualPulses) ∧
    (∃ (s : State) (a : ActId), (s.startUp = .running ∨ s.startUp = .wake) ∧ s.acts[a].cond = .atRest ∧
      s.acts[a].manualPulses = 49 ∧ s.acts[a].referenced = true) :=
  ⟨⟨(withAct 9 (fun x => { x with manualPulses := 48 }) awake), 9, by decide, by decide, by decide, by decide⟩,
   ⟨(withAct 9 (fun x => { x with manualPulses := 50 }) awake), 9, by decide, by decide, by decide⟩,
   ⟨(withAct 9 (fun x => { x with manualPulses := 49, referenced := true }) awake), 9, by decide, by decide,
    by decide, by decide⟩⟩

theorem witness_LoadSampleFiltersAndRampsTheDuty :
    (∃ (s : State) (l : LaneId) (reading : Nat) (mv : Nat), ∃ a k, s.drives[l].connected = some a ∧
      s.drives[l].kind = some k ∧ s.drives[l].phase = .driving ∧ (s.lanes[l].state = .moving ∨ s.lanes[l].state =
      .reversing) ∧ 9000 ≤ mv ∧ PreemptWaits s ∧ ¬ (20000 ≤ reading ∧ s.drives[l].saturation = 2) ∧
      (s.loads[l].sample k s.ram.actuators[a] s.acts[a].position (min 20000 reading)).2 = .none) ∧
    (∃ (s : State) (l : LaneId) (reading : Nat) (mv : Nat), ∃ a k, s.drives[l].connected = some a ∧
      s.drives[l].kind = some k ∧ s.drives[l].phase = .driving ∧ (s.lanes[l].state = .moving ∨ s.lanes[l].state =
      .reversing) ∧ PreemptWaits s ∧ ¬ (20000 ≤ reading ∧ s.drives[l].saturation = 2) ∧ (s.loads[l].sample k
      s.ram.actuators[a] s.acts[a].position (min 20000 reading)).2 = .none ∧ mv < 9000 ∧ (s.supply.low = true ∨
      s.supply.lowRun < 9)) ∧
    (∃ (s : State) (l : LaneId) (reading : Nat) (mv : Nat), ∃ a k, s.drives[l].connected = some a ∧
      s.drives[l].kind = some k ∧ s.drives[l].phase = .driving ∧ (s.lanes[l].state = .moving ∨ s.lanes[l].state =
      .reversing) ∧ PreemptWaits s ∧ ¬ (20000 ≤ reading ∧ s.drives[l].saturation = 2) ∧ (s.loads[l].sample k
      s.ram.actuators[a] s.acts[a].position (min 20000 reading)).2 = .none ∧ mv < 9000 ∧ 9 ≤ s.supply.lowRun ∧
      s.supply.low = false) ∧
    (∃ (s : State) (l : LaneId), s.drives[l].phase ≠ .driving) :=
  ⟨⟨(at0 (busy .moving) driving), 0, 19999, 9000, _, _, rfl, rfl, by decide, by decide, by decide, by decide,
    by decide, by decide⟩,
   ⟨{ (at0 (busy .moving) driving) with supply := { awake.supply with lowRun := 8 } }, 0, 19999, 8999, _, _, rfl,
    rfl, by decide, by decide, by decide, by decide, by decide, by decide, by decide⟩,
   ⟨{ (at0 (busy .moving) driving) with supply := { awake.supply with timer := none, lowRun := 9 } }, 0, 19999,
    8999, _, _, rfl, rfl, by decide, by decide, by decide, by decide, by decide, by decide, by decide, by decide⟩,
   ⟨awake, 0, by decide⟩⟩

theorem witness_ThirdSaturatedSampleIsADriveFault :
    (∃ (s : State) (l : LaneId) (reading : Nat), ∃ a k, WaitListFits s ∧ s.drives[l].connected = some a ∧
      s.drives[l].kind = some k ∧ s.drives[l].phase = .driving ∧ 20000 ≤ reading ∧ s.drives[l].saturation = 2 ∧
      Unawaited s l) ∧
    (∃ (s : State) (l : LaneId) (reading : Nat), ∃ a k p, WaitListFits s ∧ s.drives[l].connected = some a ∧
      s.drives[l].kind = some k ∧ s.request.slot = some p ∧ s.drives[l].phase = .driving ∧ 20000 ≤ reading ∧
      s.drives[l].saturation = 2 ∧ has p.awaited l = true) :=
  ⟨⟨(at0 (busy .moving) { driving with saturation := 2 }), 0, 20000, _, _, by decide, rfl, rfl, by decide,
    by decide, by decide, by decide⟩,
   ⟨(withSlot (at0 (busy .moving) { driving with saturation := 2 })), 0, 20000, _, _, _, by decide, rfl, rfl,
    rfl, by decide, by decide, by decide, by decide⟩⟩

theorem witness_WatchesWindowsAndWaitsEnd :
    (∃ (s : State) (l : LaneId), s.drives[l].phase = .driving ∧ s.drives[l].blanking = true ∧ s.loads[l].blanking
      ≤ s.loads[l].samples) ∧
    (∃ (s : State) (l : LaneId), (s.drives[l].phase ≠ .driving ∨ s.drives[l].blanking = false ∨
      s.loads[l].samples < s.loads[l].blanking)) ∧
    (∃ (s : State) (a : ActId), s.acts[a].cond = .inRunOn) ∧
    (∃ (s : State) (a : ActId), s.acts[a].cond ≠ .inRunOn) ∧
    (∃ (s : State) (l : LaneId), s.lanes[l].lapseTimer.isSome = true ∧ ¬ (s.lanes[l].state = .moving ∧
      s.lanes[l].mode = some .hold)) ∧
    (∃ (s : State) (l : LaneId), s.lanes[l].lapseTimer.isSome = true ∧ s.lanes[l].state = .moving ∧
      s.lanes[l].mode = some .hold ∧ s.drives[l].phase = .driving) ∧
    (∃ (s : State) (l : LaneId), s.lanes[l].lapseTimer = none) ∧
    (∃ (s : State) (l : LaneId), s.lanes[l].state = .waitGate ∧ s.lanes[l].gateTimer.isSome = true) ∧
    (∃ (s : State) (l : LaneId), s.lanes[l].gateTimer = none) ∧
    (∃ (s : State) (l : LaneId), s.lanes[l].state = .claiming ∧ s.lanes[l].claimTimer.isSome = true) ∧
    (∃ (s : State) (l : LaneId), s.lanes[l].claimTimer = none) ∧
    (∃ (s : State) (l : LaneId), s.lanes[l].state = .fenced ∧ s.lanes[l].totalTimer.isSome = true) ∧
    (∃ (s : State) (l : LaneId), s.lanes[l].totalTimer = none) :=
  ⟨⟨(withLoad { Load.restart with samples := 60 } (at0 (busy .moving)
    { driving with blanking := true, stallTime := none })), 0, by decide, by decide, by decide⟩,
   ⟨awake, 0, by decide⟩,
   ⟨(withAct 2 (fun x => { x with cond := .inRunOn }) awake), 2, by decide⟩,
   ⟨awake, 2, by decide⟩,
   ⟨(at0 { busy .dwell with mode := some .hold, lapseTimer := some 1 } Drive.restart), 0, by decide, by decide⟩,
   ⟨(at0 { busy .moving with mode := some .hold, lapseTimer := some 1 } driving), 0, by decide, by decide,
    by decide, by decide⟩,
   ⟨awake, 0, by decide⟩,
   ⟨(at0 { busy .waitGate with gateTimer := some 0 } Drive.restart), 0, by decide, by decide⟩,
   ⟨awake, 0, by decide⟩,
   ⟨(at0 { busy .claiming with claimTimer := some 0 } Drive.restart), 0, by decide, by decide⟩,
   ⟨awake, 0, by decide⟩,
   ⟨(at0 { busy .fenced with totalTimer := some 0 } Drive.restart), 0, by decide, by decide⟩,
   ⟨awake, 0, by decide⟩⟩

theorem witness_StallAtTheEndCompletesTheMotion :
    (∃ (s : State) (l : LaneId), ∃ a k, WaitListFits s ∧ PreemptWaits s ∧ s.drives[l].connected = some a ∧
      s.drives[l].kind = some k ∧ s.drives[l].phase = .driving ∧ StallMeasured s.drives[l] ∧ s.drives[l].blanking
      = false ∧ s.lanes[l].state = .moving ∧ (k = .homing ∨ k = .learnHome ∨ ((k = .step ∨ k = .correction ∨ k =
      .learnReturn) ∧ s.drives[l].endKind = some .low ∧ s.drives[l].direction = some .decreasing ∧
      s.acts[a].position ≤ 30))) ∧
    (∃ (s : State) (l : LaneId), ∃ a k, WaitListFits s ∧ PreemptWaits s ∧ s.drives[l].connected = some a ∧
      s.drives[l].kind = some k ∧ s.drives[l].phase = .driving ∧ StallMeasured s.drives[l] ∧ s.drives[l].blanking
      = false ∧ s.lanes[l].state = .moving ∧ (k = .step ∨ k = .correction ∨ k = .learnReturn) ∧
      s.drives[l].endKind = some .high ∧ s.drives[l].direction = some .increasing ∧ s.ram.actuators[a].travel - 30
      ≤ s.acts[a].position) ∧
    (∃ (s : State) (l : LaneId), ∃ a k, WaitListFits s ∧ PreemptWaits s ∧ s.drives[l].connected = some a ∧
      s.drives[l].kind = some k ∧ s.drives[l].phase = .driving ∧ StallMeasured s.drives[l] ∧ s.drives[l].blanking
      = false ∧ s.lanes[l].state = .moving ∧ k = .learnRise) ∧
    (∃ (s : State) (l : LaneId), WaitListFits s ∧ PreemptWaits s ∧ (s.drives[l].phase ≠ .driving ∨
      s.drives[l].blanking = true ∨ ¬ StallMeasured s.drives[l])) :=
  ⟨⟨(withAct 2 (fun x => { x with position := 30 }) (at0 (busy .moving)
    { stalling with endKind := some .low, direction := some .decreasing })), 0, _, _, by decide, by decide, rfl,
    rfl, by decide, by decide, by decide, by decide, by decide⟩,
   ⟨(withAct 2 (fun x => { x with position := 870 }) (at0 (busy .moving) stalling)), 0, _, _, by decide,
    by decide, rfl, rfl, by decide, by decide, by decide, by decide, by decide, by decide, by decide, by decide⟩,
   ⟨(at0 (busy .moving) { stalling with kind := some .learnRise }), 0, _, _, by decide, by decide, rfl, rfl,
    by decide, by decide, by decide, by decide, by decide⟩,
   ⟨(at0 (busy .moving) { stalling with stallTime := some 79 }), 0, by decide, by decide, by decide⟩⟩

theorem witness_ContactsReverseAndBlockedReversalsFault :
    (∃ (s : State) (l : LaneId), ∃ a k dir, WaitListFits s ∧ s.drives[l].connected = some a ∧ s.drives[l].kind =
      some k ∧ s.drives[l].direction = some dir ∧ s.drives[l].phase = .driving ∧ StallMeasured s.drives[l] ∧
      s.drives[l].blanking = false ∧ s.lanes[l].state = .moving ∧ PreemptWaits s ∧ ((k = .step ∨ k = .correction ∨
      k = .learnReturn) ∧ ¬ (s.drives[l].endKind = some .low ∧ dir = .decreasing ∧ s.acts[a].position ≤ 30) ∧ ¬
      (s.drives[l].endKind = some .high ∧ dir = .increasing ∧ s.ram.actuators[a].travel - 30 ≤
      s.acts[a].position))) ∧
    (∃ (s : State) (l : LaneId), ∃ a k, WaitListFits s ∧ s.drives[l].connected = some a ∧ s.drives[l].kind = some
      k ∧ s.drives[l].phase = .driving ∧ StallMeasured s.drives[l] ∧ s.drives[l].blanking = false ∧
      s.lanes[l].state = .reversing ∧ k = .backOff ∧ Unawaited s l) ∧
    (∃ (s : State) (l : LaneId), ∃ a k p, WaitListFits s ∧ s.drives[l].connected = some a ∧ s.drives[l].kind =
      some k ∧ s.request.slot = some p ∧ s.drives[l].phase = .driving ∧ StallMeasured s.drives[l] ∧
      s.drives[l].blanking = false ∧ s.lanes[l].state = .reversing ∧ k = .backOff ∧ has p.awaited l = true) :=
  ⟨⟨(withAct 2 (fun x => { x with position := 869 }) (at0 (busy .moving) stalling)), 0, _, _, _, by decide, rfl,
    rfl, rfl, by decide, by decide, by decide, by decide, by decide, by decide⟩,
   ⟨(at0 { busy .reversing with stopDest := some (.paused .firmContact) }
    { stalling with kind := some .backOff, direction := some .decreasing }), 0, _, _, by decide, rfl, rfl,
    by decide, by decide, by decide, by decide, by decide, by decide⟩,
   ⟨(withSlot (at0 { busy .reversing with stopDest := some (.idle .preempted) }
    { stalling with kind := some .backOff, direction := some .decreasing })), 0, _, _, _, by decide, rfl, rfl,
    rfl, by decide, by decide, by decide, by decide, by decide, by decide⟩⟩

theorem witness_RelayMadeStartsTheDrive :
    (∃ (s : State) (l : LaneId), ∃ c, s.lanes[l].ctx = some c ∧ s.drives[l].phase = .making ∧ s.lanes[l].state =
      .arming ∧ s.drives[l].connected = some c.act ∧ interlock s = true ∧ s.supply.low = false ∧ ¬
      (s.lanes[l].mode = some .hold ∧ s.lanes[l].lapseTimer = none) ∧ (c.motion = .homing ∨ c.motion = .learnHome
      ∨ s.acts[c.act].referenced = true) ∧ c.motion ≠ .backOff ∧ (c.endKind = .interior → (c.motion = .step ∨
      c.motion = .correction ∨ c.motion = .learnReturn) → s.acts[c.act].position + coastAllowance (driveClass c) <
      c.pt ∨ c.pt + coastAllowance (driveClass c) < s.acts[c.act].position)) ∧
    (∃ (s : State) (l : LaneId), ∃ c, s.lanes[l].ctx = some c ∧ s.drives[l].phase = .making ∧ s.lanes[l].state =
      .arming ∧ s.drives[l].connected = some c.act ∧ interlock s = true ∧ s.supply.low = false ∧ ¬
      (s.lanes[l].mode = some .hold ∧ s.lanes[l].lapseTimer = none) ∧ (c.motion = .step ∨ c.motion = .correction ∨
      c.motion = .learnReturn) ∧ s.acts[c.act].referenced = true ∧ c.endKind = .interior ∧ s.acts[c.act].position
      ≤ c.pt + coastAllowance (driveClass c) ∧ c.pt ≤ s.acts[c.act].position + coastAllowance (driveClass c)) :=
  ⟨⟨(at0 { busy .arming with ctx := some { someCtx with endKind := .interior, pt := 113 } } making), 0, _, rfl,
    by decide, by decide, rfl, by decide, by decide, by decide, by decide, by decide, by decide⟩,
   ⟨(at0 { busy .arming with ctx := some { someCtx with endKind := .interior, pt := 88 } } making), 0, _, rfl,
    by decide, by decide, rfl, by decide, by decide, by decide, by decide, by decide, by decide, by decide,
    by decide⟩⟩

theorem witness_RelayMadePausesWithoutItsConditions :
    (∃ (s : State) (l : LaneId), ∃ c, s.lanes[l].ctx = some c ∧ WaitListFits s ∧ s.drives[l].phase = .making ∧
      (c.motion = .homing ∨ c.motion = .learnHome ∨ s.acts[c.act].referenced = true) ∧ interlock s = false) ∧
    (∃ (s : State) (l : LaneId), ∃ c, s.lanes[l].ctx = some c ∧ WaitListFits s ∧ s.drives[l].phase = .making ∧
      (c.motion = .homing ∨ c.motion = .learnHome ∨ s.acts[c.act].referenced = true) ∧ interlock s = true ∧
      s.supply.low = true) ∧
    (∃ (s : State) (l : LaneId), ∃ c, s.lanes[l].ctx = some c ∧ WaitListFits s ∧ s.drives[l].phase = .making ∧
      (c.motion = .homing ∨ c.motion = .learnHome ∨ s.acts[c.act].referenced = true) ∧ interlock s = true ∧
      s.supply.low = false ∧ s.lanes[l].mode = some .hold ∧ s.lanes[l].lapseTimer = none) ∧
    (∃ (s : State) (l : LaneId), ∃ c, s.lanes[l].ctx = some c ∧ WaitListFits s ∧ s.drives[l].phase = .making ∧
      s.acts[c.act].referenced = false ∧ (c.motion = .step ∨ c.motion = .correction ∨ c.motion = .learnRise ∨
      c.motion = .learnReturn)) ∧
    (∃ (s : State) (l : LaneId), s.drives[l].phase ≠ .making) :=
  ⟨⟨{ at0 (busy .arming) making with vehicle := { awake.vehicle with fresh := false } }, 0, _, rfl, by decide,
    by decide, by decide, by decide⟩,
   ⟨{ at0 (busy .arming) making with supply := { awake.supply with low := true } }, 0, _, rfl, by decide,
    by decide, by decide, by decide, by decide⟩,
   ⟨(at0 { busy .arming with mode := some .hold } making), 0, _, rfl, by decide, by decide, by decide, by decide,
    by decide, by decide, by decide⟩,
   ⟨(withAct 2 (fun x => { x with referenced := false }) (at0 (busy .arming) making)), 0, _, rfl, by decide,
    by decide, by decide, by decide⟩,
   ⟨awake, 0, by decide⟩⟩

theorem witness_BrakeEndCapturesAndSendsTheLaneOn :
    (∃ (s : State) (l : LaneId) (r : PauseReason), ∃ a, WaitListFits s ∧ s.drives[l].connected = some a ∧
      s.drives[l].phase = .braking ∧ s.drives[l].reversal = false ∧ s.lanes[l].state = .stopping ∧
      s.lanes[l].stopDest = some (.paused r) ∧ PreemptWaits s) ∧
    (∃ (s : State) (l : LaneId), ∃ a, WaitListFits s ∧ s.drives[l].connected = some a ∧ s.drives[l].phase =
      .braking ∧ s.drives[l].reversal = false ∧ s.lanes[l].state = .stopping ∧ s.lanes[l].stopDest = some
      .fenced ∧ PreemptWaits s) ∧
    (∃ (s : State) (l : LaneId) (x : Result), ∃ a, WaitListFits s ∧ s.drives[l].connected = some a ∧
      s.drives[l].phase = .braking ∧ s.drives[l].reversal = false ∧ s.lanes[l].state = .stopping ∧
      s.lanes[l].stopDest = some (.idle x) ∧ s.request.slot = none) ∧
    (∃ (s : State) (l : LaneId), ∃ a c, WaitListFits s ∧ s.drives[l].connected = some a ∧ s.lanes[l].ctx = some
      c ∧ s.drives[l].phase = .braking ∧ s.drives[l].reversal = false ∧ s.lanes[l].state = .settling ∧
      s.lanes[l].pendingOrder = none ∧ (c.motion = .step ∨ c.motion = .correction) ∧ c.step.next = none ∧
      s.acts[c.act].position ≤ c.pt + 8 ∧ c.pt ≤ s.acts[c.act].position + 8 ∧ s.request.slot = none) ∧
    (∃ (s : State) (l : LaneId), WaitListFits s ∧ s.drives[l].phase = .braking ∧ s.drives[l].reversal = false ∧
      s.lanes[l].state = .faulted ∧ s.lanes[l].pendingOrder = none ∧ PreemptWaits s) ∧
    (∃ (s : State) (l : LaneId), ∃ r, WaitListFits s ∧ s.lanes[l].pendingOrder = some (.clear r) ∧
      s.drives[l].phase = .braking ∧ s.drives[l].reversal = false ∧ s.lanes[l].state = .faulted ∧ s.request.slot =
      none) :=
  ⟨⟨(at0 { busy .stopping with stopDest := some (.paused .softContact) } braking), 0, .softContact, _, by decide,
    rfl, by decide, by decide, by decide, by decide, by decide⟩,
   ⟨(at0 { busy .stopping with stopDest := some (.fenced) } braking), 0, _, by decide, rfl, by decide, by decide,
    by decide, by decide, by decide⟩,
   ⟨(at0 { busy .stopping with stopDest := some (.idle .cancelled) } braking), 0, .cancelled, _, by decide, rfl,
    by decide, by decide, by decide, by decide, by decide⟩,
   ⟨(at0 { busy .settling with ctx := some { someCtx with endKind := .interior, pt := 92 } } braking), 0, _, _,
    by decide, rfl, rfl, by decide, by decide, by decide, by decide, by decide, by decide, by decide, by decide,
    by decide⟩,
   ⟨(at0 { busy .faulted with ctx := none, faultReason := some .reverseBlocked } braking), 0, by decide,
    by decide, by decide, by decide, by decide, by decide⟩,
   ⟨(at0
    { busy .faulted with ctx := none, faultReason := some .reverseBlocked, pendingOrder := some (.clear .preempted) }
    braking), 0, _, by decide, rfl, by decide, by decide, by decide, by decide⟩⟩

theorem witness_PendingPreemptIsAnsweredByItsLastLane :
    (∃ (s : State) (l : LaneId), ∃ p, s.drives[l].phase = .braking ∧ s.drives[l].reversal = false ∧
      s.lanes[l].state = .stopping ∧ s.lanes[l].stopDest = some (.idle .preempted) ∧ WaitListFits s ∧
      s.request.slot = some p ∧ p.awaited = single l) ∧
    (∃ (s : State) (l : LaneId), ∃ p, s.drives[l].phase = .braking ∧ s.drives[l].reversal = false ∧
      s.lanes[l].state = .stopping ∧ s.lanes[l].stopDest = some (.idle .preempted) ∧ WaitListFits s ∧
      s.request.slot = some p ∧ p.awaited &&& ~~~single l ≠ 0#4) :=
  ⟨⟨(withSlot (at0 { busy .stopping with stopDest := some (.idle .preempted) } braking)), 0, _, by decide,
    by decide, by decide, by decide, by decide, rfl, by decide⟩,
   ⟨{ withSlot (at0 { busy .stopping with stopDest := some (.idle .preempted) } braking) with request := { awake.request with slot := some { slotEntry with awaited := 0b0011#4 } } },
    0, _, by decide, by decide, by decide, by decide, by decide, rfl, by decide⟩⟩

theorem witness_ReversalBrakeEndStartsTheBackOff :
    (∃ (s : State) (l : LaneId), ∃ a w1 dest, s.drives[l].phase = .braking ∧ s.drives[l].reversal = true ∧
      s.lanes[l].state = .reversing ∧ s.drives[l].connected = some a ∧ s.drives[l].direction = some w1 ∧
      s.lanes[l].stopDest = some dest ∧ s.drives[l].stopPoint = s.acts[a].position) ∧
    (∃ (s : State) (l : LaneId), ∃ a dir, s.drives[l].phase = .braking ∧ s.drives[l].reversal = true ∧
      s.lanes[l].state = .reversing ∧ s.drives[l].connected = some a ∧ s.drives[l].direction = some dir ∧ ((dir =
      .increasing ∧ s.drives[l].stopPoint + 4 < s.acts[a].position) ∨ (dir = .decreasing ∧ s.acts[a].position + 4
      < s.drives[l].stopPoint))) ∧
    (∃ (s : State) (l : LaneId), ∃ a dir dest, s.drives[l].phase = .braking ∧ s.drives[l].reversal = true ∧
      s.lanes[l].state = .reversing ∧ s.drives[l].connected = some a ∧ s.drives[l].direction = some dir ∧
      s.lanes[l].stopDest = some dest ∧ s.drives[l].stopPoint ≠ s.acts[a].position ∧ ((dir = .increasing ∧
      s.acts[a].position ≤ s.drives[l].stopPoint + 4) ∨ (dir = .decreasing ∧ s.drives[l].stopPoint ≤
      s.acts[a].position + 4))) :=
  ⟨⟨(at0 { busy .reversing with stopDest := some (.paused .firmContact) }
    { braking with reversal := true, stopPoint := 100 }), 0, _, _, _, by decide, by decide, by decide, rfl, rfl,
    rfl, by decide⟩,
   ⟨(at0 { busy .reversing with stopDest := some (.paused .firmContact) }
    { braking with reversal := true, stopPoint := 95 }), 0, _, _, by decide, by decide, by decide, rfl, rfl,
    by decide⟩,
   ⟨(at0 { busy .reversing with stopDest := some (.paused .firmContact) }
    { braking with reversal := true, stopPoint := 96 }), 0, _, _, _, by decide, by decide, by decide, rfl, rfl,
    rfl, by decide, by decide⟩⟩

theorem witness_SettlingEndHandsOverCorrectsAndAdapts :
    (∃ (s : State) (l : LaneId), ∃ c n b, WaitListFits s ∧ s.drives[l].phase = .braking ∧ s.drives[l].reversal =
      false ∧ s.lanes[l].state = .settling ∧ s.request.slot = none ∧ s.lanes[l].ctx = some c ∧ c.step.next = some
      n ∧ s.ram.steps[n].actuator = some b ∧ s.drives[l].connected = some c.act ∧ s.lanes[l].pendingOrder = none ∧
      (c.motion = .step ∨ c.motion = .correction) ∧ StepOver s l c) ∧
    (∃ (s : State) (l : LaneId), ∃ c, WaitListFits s ∧ s.drives[l].phase = .braking ∧ s.drives[l].reversal =
      false ∧ s.lanes[l].state = .settling ∧ s.request.slot = none ∧ s.lanes[l].ctx = some c ∧
      s.drives[l].connected = some c.act ∧ s.lanes[l].pendingOrder = none ∧ (c.motion = .step ∨ c.motion =
      .correction) ∧ ¬ OnTarget s c ∧ c.correctionUsed = false ∧ s.acts[c.act].referenced = true ∧ subset
      (correctionSweep s c) (heldBy s l) = true) ∧
    (∃ (s : State) (l : LaneId), ∃ c r, WaitListFits s ∧ s.drives[l].phase = .braking ∧ s.drives[l].reversal =
      false ∧ s.lanes[l].state = .settling ∧ s.request.slot = none ∧ s.lanes[l].ctx = some c ∧
      s.lanes[l].pendingOrder = some (.halt r) ∧ s.drives[l].connected = some c.act ∧ (c.motion = .step ∨ c.motion
      = .correction) ∧ ¬ OnTarget s c ∧ c.correctionUsed = false ∧ subset (correctionSweep s c) (heldBy s l) =
      true) ∧
    (∃ (s : State) (l : LaneId), ∃ c, WaitListFits s ∧ s.drives[l].phase = .braking ∧ s.drives[l].reversal =
      false ∧ s.lanes[l].state = .settling ∧ s.request.slot = none ∧ s.lanes[l].ctx = some c ∧
      s.drives[l].connected = some c.act ∧ s.lanes[l].pendingOrder = none ∧ (c.motion = .step ∨ c.motion =
      .correction) ∧ ¬ OnTarget s c ∧ c.step.next = none ∧ StepOver s l c) ∧
    (∃ (s : State) (l : LaneId), ∃ c, WaitListFits s ∧ s.drives[l].phase = .braking ∧ s.drives[l].reversal =
      false ∧ s.lanes[l].state = .settling ∧ s.request.slot = none ∧ s.lanes[l].ctx = some c ∧
      s.drives[l].connected = some c.act ∧ (c.motion = .step ∨ c.motion = .correction)) ∧
    (∃ (s : State) (l : LaneId), ∃ c, WaitListFits s ∧ s.drives[l].phase = .braking ∧ s.drives[l].reversal =
      false ∧ s.lanes[l].state = .settling ∧ s.request.slot = none ∧ s.lanes[l].ctx = some c ∧
      s.drives[l].connected = some c.act ∧ s.lanes[l].pendingOrder = none ∧ c.motion = .homing ∧
      s.acts[c.act].referenced = true) ∧
    (∃ (s : State) (l : LaneId), ∃ c r, WaitListFits s ∧ s.drives[l].phase = .braking ∧ s.drives[l].reversal =
      false ∧ s.lanes[l].state = .settling ∧ s.request.slot = none ∧ s.lanes[l].ctx = some c ∧
      s.lanes[l].pendingOrder = some (.cancel r) ∧ s.drives[l].connected = some c.act ∧ (c.motion = .homing ∨
      c.motion = .step ∨ c.motion = .correction)) ∧
    (∃ (s : State) (l : LaneId), ∃ c r, WaitListFits s ∧ s.drives[l].phase = .braking ∧ s.drives[l].reversal =
      false ∧ s.lanes[l].state = .settling ∧ s.request.slot = none ∧ s.lanes[l].ctx = some c ∧
      s.lanes[l].pendingOrder = some (.halt r) ∧ s.drives[l].connected = some c.act ∧ (c.motion = .homing ∨
      ((c.motion = .step ∨ c.motion = .correction) ∧ StepOver s l c))) :=
  ⟨⟨(at0
    { busy .settling with ctx := some { someCtx with step := factoryStepRec 2 .endHigh .normal none 0 (some 1), endKind := .interior, pt := 109, motion := .step, correctionUsed := true }, pendingOrder := none }
    braking), 0, _, _, _, by decide, by decide, by decide, by decide, by decide, rfl, rfl, rfl, rfl, by decide,
    by decide, by decide⟩,
   ⟨(holding (at0
    { busy .settling with ctx := some { someCtx with step := factoryStepRec 2 .endHigh .normal none 0 none, endKind := .interior, pt := 109, motion := .step, correctionUsed := false }, pendingOrder := none }
    braking)), 0, _, by decide, by decide, by decide, by decide, by decide, rfl, rfl, by decide, by decide,
    by decide, by decide, by decide, by decide⟩,
   ⟨(holding (at0
    { busy .settling with ctx := some { someCtx with step := factoryStepRec 2 .endHigh .normal none 0 none, endKind := .interior, pt := 91, motion := .step, correctionUsed := false }, pendingOrder := some (.halt .halted) }
    braking)), 0, _, _, by decide, by decide, by decide, by decide, by decide, rfl, rfl, rfl, by decide,
    by decide, by decide, by decide⟩,
   ⟨(at0
    { busy .settling with ctx := some { someCtx with step := factoryStepRec 2 .endHigh .normal none 0 none, endKind := .interior, pt := 91, motion := .correction, correctionUsed := true }, pendingOrder := none }
    braking), 0, _, by decide, by decide, by decide, by decide, by decide, rfl, rfl, by decide, by decide,
    by decide, by decide, by decide⟩,
   ⟨(at0
    { busy .settling with ctx := some { someCtx with step := factoryStepRec 2 .endHigh .normal none 0 none, endKind := .interior, pt := 92, motion := .step, correctionUsed := false }, pendingOrder := none }
    braking), 0, _, by decide, by decide, by decide, by decide, by decide, rfl, rfl, by decide⟩,
   ⟨(at0
    { busy .settling with ctx := some { someCtx with step := factoryStepRec 2 .endHigh .normal none 0 none, endKind := .interior, pt := 92, motion := .homing, correctionUsed := false }, pendingOrder := none }
    braking), 0, _, by decide, by decide, by decide, by decide, by decide, rfl, rfl, by decide, by decide,
    by decide⟩,
   ⟨(at0
    { busy .settling with ctx := some { someCtx with step := factoryStepRec 2 .endHigh .normal none 0 none, endKind := .interior, pt := 92, motion := .step, correctionUsed := false }, pendingOrder := some (.cancel .preempted) }
    braking), 0, _, _, by decide, by decide, by decide, by decide, by decide, rfl, rfl, rfl, by decide⟩,
   ⟨(at0
    { busy .settling with ctx := some { someCtx with step := factoryStepRec 2 .endHigh .normal none 0 none, endKind := .interior, pt := 108, motion := .step, correctionUsed := false }, pendingOrder := some (.halt .halted) }
    braking), 0, _, _, by decide, by decide, by decide, by decide, by decide, rfl, rfl, rfl, by decide⟩⟩

theorem witness_DwellAndPauseTimersEndTheirStates :
    (∃ (s : State) (l : LaneId), ∃ c, WaitListFits s ∧ s.request.slot = none ∧ s.lanes[l].ctx = some c ∧
      s.lanes[l].state = .dwell ∧ s.lanes[l].dwellTimer.isSome = true) ∧
    (∃ (s : State) (l : LaneId), WaitListFits s ∧ s.request.slot = none ∧ s.lanes[l].dwellTimer = none) ∧
    (∃ (s : State) (l : LaneId), WaitListFits s ∧ s.request.slot = none ∧ (s.lanes[l].state = .paused ∨
      s.lanes[l].state = .waitAdvance) ∧ s.lanes[l].pauseTimer.isSome = true) ∧
    (∃ (s : State) (l : LaneId), WaitListFits s ∧ s.request.slot = none ∧ s.lanes[l].pauseTimer = none) :=
  ⟨⟨(at0 { busy .dwell with dwellTimer := some 0 } Drive.restart), 0, _, by decide, by decide, rfl, by decide,
    by decide⟩,
   ⟨awake, 0, by decide, by decide, by decide⟩,
   ⟨(at0 { busy .waitAdvance with pauseTimer := some 0 } Drive.restart), 0, by decide, by decide, by decide,
    by decide⟩,
   ⟨awake, 0, by decide, by decide, by decide⟩⟩

theorem witness_ClearTimerTakesUpTheMotion :
    (∃ (s : State) (l : LaneId), WaitListFits s ∧ s.lanes[l].state = .fenced ∧ s.lanes[l].clearTimer.isSome =
      true ∧ s.lanes[l].mode = some .hold ∧ s.lanes[l].lapseTimer = none) ∧
    (∃ (s : State) (l : LaneId), ∃ c, WaitListFits s ∧ s.lanes[l].ctx = some c ∧ s.lanes[l].state = .fenced ∧
      s.lanes[l].clearTimer.isSome = true ∧ ¬ (s.lanes[l].mode = some .hold ∧ s.lanes[l].lapseTimer = none) ∧
      s.acts[c.act].referenced = true ∧ heldBy s l = c.sweep) ∧
    (∃ (s : State) (l : LaneId), WaitListFits s ∧ s.lanes[l].clearTimer = none) :=
  ⟨⟨(at0 { busy .fenced with mode := some .hold, clearTimer := some 0 } Drive.restart), 0, by decide, by decide,
    by decide, by decide, by decide⟩,
   ⟨holding (at0 { busy .fenced with clearTimer := some 0 } Drive.restart), 0, _, by decide, rfl, by decide,
    by decide, by decide, by decide, by decide⟩,
   ⟨awake, 0, by decide, by decide⟩⟩

theorem witness_YieldTimerSuspendsTheTune :
    (∃ (s : State) (l : LaneId), ∃ e k, WaitListFits s ∧ entryOf s l = some e ∧ s.presence.tune = some k ∧
      e.yieldTimer.isSome = true ∧ e.yieldMade = false ∧ blockedByTuning s e.wanted = true) ∧
    (∃ (s : State) (l : LaneId), ∃ e, WaitListFits s ∧ entryOf s l = some e ∧ e.yieldTimer.isSome = true ∧
      (e.yieldMade = true ∨ blockedByTuning s e.wanted = false) ∧ (s.presence.queue = 0#12 ∨
      s.presence.tune.isSome = true)) ∧
    (∃ (s : State) (l : LaneId), WaitListFits s ∧ Unlisted s l) :=
  ⟨⟨yielding, 0, _, _, by decide, rfl, rfl, by decide, by decide, by decide⟩,
   ⟨{ yielding with waitList := [⟨0, 0x005#12, some 0, true⟩] }, 0, _, by decide, rfl, by decide, by decide,
    by decide⟩,
   ⟨awake, 0, by decide, by decide⟩⟩

theorem witness_SampleRoundFiltersAndClassifies :
    (∃ (s : State) (c : ChanId), TuneFits s ∧ s.presence.roundTimer.isSome = true ∧ c ≠ 11 ∧ (s.chans[c].state =
      .clear ∨ s.chans[c].state = .near ∨ s.chans[c].state = .contact)) ∧
    (∃ (s : State) (c : ChanId), TuneFits s ∧ s.presence.roundTimer.isSome = true ∧ s.chans[c].state =
      .starting ∧ s.chans[c].seedCount < 16) ∧
    (∃ (s : State), TuneFits s ∧ s.presence.roundTimer.isSome = true ∧ s.chans[(11 : ChanId)].state = .clear) ∧
    (∃ (s : State), ∃ k, TuneFits s ∧ s.presence.tune = some k ∧ s.presence.roundTimer.isSome = true ∧
      WaitListFits s) ∧
    (∃ (s : State), TuneFits s ∧ s.presence.roundTimer.isSome = true) ∧
    (∃ (s : State), TuneFits s ∧ s.presence.roundTimer = none) :=
  ⟨⟨awake, 10, by decide, by decide, by decide, by decide⟩,
   ⟨(withChan 11 (fun _ => { ChanRun.restart with seedCount := 15 }) awake), 11, by decide, by decide, by decide,
    by decide⟩,
   ⟨awake, by decide, by decide, by decide⟩,
   ⟨(withChan 4 (fun x => { x with state := .tuning })
    { awake with presence := { awake.presence with tune := some { trial with count := 7 } } }), _, by decide, rfl,
    by decide, by decide⟩,
   ⟨awake, by decide, by decide⟩,
   ⟨State.reset, by decide, by decide⟩⟩

theorem witness_SeedingAndReseedEndInClear :
    (∃ (s : State) (c : ChanId), has s.presence.queue c = false ∧ s.presence.tune.all (fun k => k.channel != c) =
      true ∧ s.presence.roundTimer.isSome = true ∧ s.chans[c].state = .starting ∧ s.chans[c].seedCount = 16) ∧
    (∃ (s : State) (c : ChanId), has s.presence.queue c = false ∧ s.presence.tune.all (fun k => k.channel != c) =
      true ∧ s.chans[c].haltTimer.isSome = true) ∧
    (∃ (s : State) (c : ChanId), has s.presence.queue c = false ∧ s.presence.tune.all (fun k => k.channel != c) =
      true ∧ s.chans[c].haltTimer = none) :=
  ⟨⟨(withChan 11 (fun _ => { ChanRun.restart with seedCount := 16, seedSum := 12800 }) awake), 11, by decide,
    by decide, by decide, by decide, by decide⟩,
   ⟨(withChan 4 (fun x => { x with state := .near, haltTimer := some 0 }) awake), 4, by decide, by decide,
    by decide⟩,
   ⟨awake, 4, by decide, by decide, by decide⟩⟩

theorem witness_DriftQueuesAndTrialsTune :
    (∃ (s : State) (c : ChanId), s.chans[c].driftTimer.isSome = true ∧ s.chans[c].state = .clear ∧
      s.presence.tune.all (fun k => k.channel != c) = true) ∧
    (∃ (s : State) (c : ChanId), s.chans[c].driftTimer = none) ∧
    (∃ (s : State), ∃ k, s.presence.tune = some k ∧ s.presence.roundTimer.isSome = true ∧ k.count = 8 ∧ 1 < k.bit) ∧
    (∃ (s : State), ∃ k x, s.presence.tune = some k ∧ keptAfter s k = some x ∧ s.presence.roundTimer.isSome =
      true ∧ k.count = 8 ∧ k.bit = 1 ∧ s.ram.channels[k.channel].tuneTarget - s.ram.channels[k.channel].tuneTarget
      / 8 ≤ x) ∧
    (∃ (s : State), ∃ k, s.presence.tune = some k ∧ s.presence.roundTimer.isSome = true ∧ k.count = 8 ∧ k.bit =
      1 ∧ (keptAfter s k).all (fun x => decide (x < s.ram.channels[k.channel].tuneTarget -
      s.ram.channels[k.channel].tuneTarget / 8)) = true) :=
  ⟨⟨(withChan 4 (fun x => { x with driftTimer := some 0 }) awake), 4, by decide, by decide, by decide⟩,
   ⟨awake, 4, by decide⟩,
   ⟨{ awake with presence := { awake.presence with tune := some { trial with bit := 2, sum := 7200, kept := none } } },
    _, rfl, by decide, by decide, by decide⟩,
   ⟨{ awake with presence := { awake.presence with tune := some { trial with bit := 1, sum := 7208, kept := some 700 } } },
    _, _, rfl, rfl, by decide, by decide, by decide, by decide⟩,
   ⟨{ awake with presence := { awake.presence with tune := some { trial with bit := 1, sum := 5592, kept := some 700 } } },
    _, rfl, by decide, by decide, by decide, by decide⟩⟩

theorem witness_FenceChangesActOnTheirHolders :
    (∃ (s : State) (l : LaneId) (z : ZoneId), WaitListFits s ∧ TuneFits s ∧ s.holders[z] = some l ∧ has (fenced
      s) z = false) ∧
    (∃ (s : State) (l : LaneId) (z : ZoneId), WaitListFits s ∧ TuneFits s ∧ s.holders[z] = some l ∧ has (fenced
      s) z = true ∧ s.lanes[l].state = .fenced) :=
  ⟨⟨(holding (at0 (busy .moving) driving)), 0, 0, by decide, by decide, by decide, by decide⟩,
   ⟨(withChan 4 (fun x => { x with state := .near }) (holding (at0 (busy .fenced) Drive.restart))), 0, 0,
    by decide, by decide, by decide, by decide, by decide⟩⟩

theorem witness_StatusTimersSendTheFrames :
    (∃ (s : State), s.request.ready = true ∧ s.power.mode ≠ .sleep ∧ s.report.coalesce.isSome = true) ∧
    (∃ (s : State), s.request.ready = true ∧ s.power.mode ≠ .sleep ∧ s.report.coalesce = none) ∧
    (∃ (s : State), s.request.ready = true ∧ s.power.mode ≠ .sleep ∧ s.report.period.isSome = true ∧ ¬
      (s.report.batched = true ∧ s.report.unmarked = true)) ∧
    (∃ (s : State), s.request.ready = true ∧ s.power.mode ≠ .sleep ∧ s.report.period.isSome = true ∧
      s.report.batched = true ∧ s.report.unmarked = true) :=
  ⟨⟨{ awake with report := { awake.report with coalesce := some 0 } }, by decide, by decide, by decide⟩,
   ⟨awake, by decide, by decide, by decide⟩,
   ⟨awake, by decide, by decide, by decide, by decide⟩,
   ⟨{ awake with report := { awake.report with batched := true } }, by decide, by decide, by decide, by decide,
    by decide⟩⟩

theorem witness_LearnPhasesEndAndStoreTheirResult :
    (∃ (s : State) (l : LaneId), ∃ c lr, WaitListFits s ∧ s.drives[l].phase = .braking ∧ s.drives[l].reversal =
      false ∧ s.lanes[l].state = .settling ∧ s.request.slot = none ∧ s.lanes[l].ctx = some c ∧ s.loads[l].learn =
      some lr ∧ s.drives[l].connected = some c.act ∧ s.lanes[l].pendingOrder = none ∧ c.motion = .learnHome ∧
      s.acts[c.act].referenced = true) ∧
    (∃ (s : State) (l : LaneId), ∃ c lr T, WaitListFits s ∧ s.drives[l].phase = .braking ∧ s.drives[l].reversal =
      false ∧ s.lanes[l].state = .settling ∧ s.request.slot = none ∧ s.lanes[l].ctx = some c ∧ s.loads[l].learn =
      some lr ∧ lr.travel = some T ∧ s.drives[l].connected = some c.act ∧ s.lanes[l].pendingOrder = none ∧
      c.motion = .learnRise ∧ 200 ≤ T ∧ T ≤ 4000 ∧ s.acts[c.act].referenced = true) ∧
    (∃ (s : State) (l : LaneId), ∃ c lr T, WaitListFits s ∧ s.drives[l].phase = .braking ∧ s.drives[l].reversal =
      false ∧ s.lanes[l].state = .settling ∧ s.request.slot = none ∧ s.lanes[l].ctx = some c ∧ s.loads[l].learn =
      some lr ∧ lr.travel = some T ∧ s.drives[l].connected = some c.act ∧ c.motion = .learnRise ∧ (T < 200 ∨ 4000
      < T)) ∧
    (∃ (s : State) (l : LaneId), ∃ c lr, WaitListFits s ∧ s.drives[l].phase = .braking ∧ s.drives[l].reversal =
      false ∧ s.lanes[l].state = .settling ∧ s.request.slot = none ∧ s.lanes[l].ctx = some c ∧ s.loads[l].learn =
      some lr ∧ s.drives[l].connected = some c.act ∧ c.motion = .learnReturn ∧ s.lanes[l].pendingOrder.all (fun x
      => match x with | .cancel _ => false | _ => true) = true) ∧
    (∃ (s : State) (l : LaneId), ∃ c lr r, WaitListFits s ∧ s.drives[l].phase = .braking ∧ s.drives[l].reversal =
      false ∧ s.lanes[l].state = .settling ∧ s.request.slot = none ∧ s.lanes[l].ctx = some c ∧ s.loads[l].learn =
      some lr ∧ s.lanes[l].pendingOrder = some (.cancel r) ∧ s.drives[l].connected = some c.act ∧ (c.motion =
      .learnHome ∨ (c.motion = .learnRise ∧ lr.travel.any (fun x => decide (200 ≤ x ∧ x ≤ 4000)) = true) ∨
      c.motion = .learnReturn)) ∧
    (∃ (s : State) (l : LaneId), ∃ c lr r, WaitListFits s ∧ s.drives[l].phase = .braking ∧ s.drives[l].reversal =
      false ∧ s.lanes[l].state = .settling ∧ s.request.slot = none ∧ s.lanes[l].ctx = some c ∧ s.loads[l].learn =
      some lr ∧ s.lanes[l].pendingOrder = some (.halt r) ∧ s.drives[l].connected = some c.act ∧ (c.motion =
      .learnHome ∨ (c.motion = .learnRise ∧ lr.travel.any (fun x => decide (200 ≤ x ∧ x ≤ 4000)) = true))) :=
  ⟨⟨(withLoad { Load.restart with learn := some { learning with travel := none } } (at0
    { busy .settling with ctx := some { someCtx with motion := .learnHome }, pendingOrder := none } braking)), 0,
    _, _, by decide, by decide, by decide, by decide, by decide, rfl, rfl, rfl, by decide, by decide, by decide⟩,
   ⟨(withLoad { Load.restart with learn := some { learning with travel := some 200 } } (at0
    { busy .settling with ctx := some { someCtx with motion := .learnRise }, pendingOrder := none } braking)), 0,
    _, _, _, by decide, by decide, by decide, by decide, by decide, rfl, rfl, rfl, rfl, by decide, by decide,
    by decide, by decide, by decide⟩,
   ⟨(withLoad { Load.restart with learn := some { learning with travel := some 199 } } (at0
    { busy .settling with ctx := some { someCtx with motion := .learnRise }, pendingOrder := none } braking)), 0,
    _, _, _, by decide, by decide, by decide, by decide, by decide, rfl, rfl, rfl, rfl, by decide, by decide⟩,
   ⟨(withLoad { Load.restart with learn := some { learning with travel := some 900 } } (at0
    { busy .settling with ctx := some { someCtx with motion := .learnReturn }, pendingOrder := none } braking)),
    0, _, _, by decide, by decide, by decide, by decide, by decide, rfl, rfl, rfl, by decide, by decide⟩,
   ⟨(withLoad { Load.restart with learn := some { learning with travel := some 4000 } } (at0
    { busy .settling with ctx := some { someCtx with motion := .learnRise }, pendingOrder := some (.cancel .cancelled) }
    braking)), 0, _, _, _, by decide, by decide, by decide, by decide, by decide, rfl, rfl, rfl, rfl, by decide⟩,
   ⟨(withLoad { Load.restart with learn := some { learning with travel := none } } (at0
    { busy .settling with ctx := some { someCtx with motion := .learnHome }, pendingOrder := some (.halt .halted) }
    braking)), 0, _, _, _, by decide, by decide, by decide, by decide, by decide, rfl, rfl, rfl, rfl, by decide⟩⟩

theorem witness_EmptyQueueLetsTimePass : ∃ s : State, s.pending = [] := ⟨awake, rfl⟩

theorem witness_CommandsCompleteAndLeaveTheQueueAlone :
    (∃ c : Instr, c.wf = true) ∧ (∃ (c : Instr) (s t : State), exec c s = .next t) :=
  ⟨⟨.brownoutRecovery 6001, rfl⟩, ⟨.silenceTimerExpiry, awake, _, rfl⟩⟩

theorem witness_GrantScanServesTheWaitListInOrder :
    ∃ s : State, WaitListFits s ∧ s.presence.tune = none ∧ (fenceView s).tuning = 0#12 ∧
      granted (fenced s) (allHeld s) s.waitList ≠ [] :=
  ⟨{ at0 (busy .claiming) Drive.restart with waitList := [⟨0, 0x005#12, some 0, false⟩] }, by decide⟩

theorem witness_LaneAndPresenceCommandsKeepTheSurroundings :
    (∃ (i : Instr) (s t : State), exec i s = .next t ∧ laneCommand i = true ∧ s.power.mode ≠ .sleep) ∧
    (∃ (i : Instr) (s t : State), exec i s = .next t ∧ presenceCommand i = true) :=
  ⟨⟨.pauseTimerExpiry 0, at0 paused Drive.restart, _, rfl, by decide, by decide⟩,
   ⟨.haltTimeout 4, withChan 4 (fun x => { x with haltTimer := some 0 }) awake, _, rfl, by decide⟩⟩

theorem witness_TargetsResolveAndSweepsCoverTheSpan :
    (∃ T a b c d : Nat, 200 ≤ T ∧ a ≤ 30 ∧ 30 < b ∧ b < T - 30 ∧ T - 30 ≤ c ∧ c ≤ T ∧ T < d) ∧
    (∃ (r : ActuatorRec) (p0 pt : Nat), 200 ≤ r.travel ∧ p0 ≤ r.travel ∧ pt ≤ r.travel) :=
  ⟨⟨200, 30, 31, 170, 201, by decide⟩, ⟨{ factoryActuator 0 with travel := 200 }, 0, 200, by decide⟩⟩

/-- A chain of two steps, 24 and 25, that returns to its first. -/
def loopSteps : Vector StepRec 96 :=
  put (put factorySteps 24 { emptyStep with actuator := some 0, next := some 25 }) 25
    { emptyStep with actuator := some 1, next := some 24 }

theorem witness_ChainWalksAndPlansSucceedByTheirRules :
    (∃ (steps : Vector StepRec 96) (n : StepId) (w : Walk), walk steps n = some w) ∧
    (∃ (steps : Vector StepRec 96) (n m : StepId) (k : Nat) (acts : List ActId), k < 24 ∧
      stepAfter steps k n = some m ∧ steps[m].next = none ∧ acts.length ≤ 4 ∧
      ∀ (i : Nat) (j : StepId), i ≤ k → stepAfter steps i n = some j → ∃ a ∈ acts, steps[j].actuator = some a) ∧
    (∃ (steps : Vector StepRec 96) (n m : StepId) (i k : Nat), stepAfter steps i n = some m ∧ 0 < k ∧
      stepAfter steps k m = some m) ∧
    (∃ (s : State) (n : RecipeId), walk s.ram.steps s.ram.recipes[n].trackA = none) ∧
    (∃ (s : State) (n : RecipeId) (wa : Walk), walk s.ram.steps s.ram.recipes[n].trackA = some wa ∧
      s.ram.recipes[n].trackB = none) ∧
    (∃ (s : State) (n : RecipeId) (wa wb : Walk) (b : StepId),
      walk s.ram.steps s.ram.recipes[n].trackA = some wa ∧ s.ram.recipes[n].trackB = some b ∧
      walk s.ram.steps b = some wb) := by
  refine ⟨⟨factorySteps, 0, _, rfl⟩, ⟨factorySteps, 8, 9, 1, [6, 7], by decide, rfl, rfl, by decide, ?_⟩,
    ⟨loopSteps, 24, 25, 1, 2, by decide⟩,
    ⟨{ awake with ram := { awake.ram with steps := loopSteps
                                          recipes := put awake.ram.recipes 0 { awake.ram.recipes[(0 : RecipeId)] with trackA := 24 } } },
      0, by decide⟩,
    ⟨awake, 0, _, rfl, rfl⟩, ⟨awake, 4, _, _, _, rfl, rfl, rfl⟩⟩
  intro i j hi hj
  match i, hi with
  | 0, _ => cases hj; exact ⟨6, by decide, rfl⟩
  | 1, _ => cases hj; exact ⟨7, by decide, rfl⟩

theorem witness_FilteredCurrentAndAbsoluteRunFollowTheSamples :
    (∃ (x : Load) (f i : Nat), i ≤ 20000 ∧ x.filtered = some f ∧ f ≤ 20000) ∧
    (∃ (x : Load) (i : Nat), i ≤ 20000 ∧ x.filtered = none) ∧
    (∃ (x : Load) (k : MotionKind) (r : ActuatorRec) (p i f : Nat), x.mode = .absolute ∧ x.blanking ≤ x.samples ∧
      (x.sample k r p i).1.filtered = some f) :=
  ⟨⟨{ Load.restart with filtered := some 20000 }, 20000, 0, by decide⟩, ⟨Load.restart, 20000, by decide⟩,
   ⟨{ Load.restart with samples := 60 }, .homing, factoryActuator 0, 0, 12000, _, rfl, by decide, rfl⟩⟩

theorem witness_ClassificationByTheRuns :
    ∃ x y z : ChanRun, x.state = .clear ∧ y.state = .near ∧ z.state = .contact :=
  ⟨{ ChanRun.restart with state := .clear }, { ChanRun.restart with state := .near },
   { ChanRun.restart with state := .contact }, by decide⟩

/-- A step from a MOVING lane's state, in which every invariant holds. -/
theorem witness_StepInvariants :
    ∃ s t : State, Bounded s ∧ StoreMatches s ∧ SafeMotion s ∧ WaitListFits s ∧ PreemptWaits s ∧ TuneFits s ∧
      step s = .next t :=
  ⟨{ withSlot (holding (at0 (busy .moving) driving)) with pending := [.hallPulse 2] }, _, by decide, by decide,
   by decide, by decide, by decide, by decide, rfl⟩

end Sys2Proof.Tests
end

section
/-! What the operations on lanes, zones and channels do to the state, said once: each is a sequence of elementary
changes (`Move`), of which only some touch a lane. `Move L` allows plain changes to the lanes of `L` alone; a
grant and a fence clear timer may reach any lane that waits. An invariant or a frame is proved for the
elementary changes and then holds of every operation. -/

namespace Sys2Proof.Proofs

open Sys2Proof Sys2Proof.Machine Sys2Proof.Safety

/-- One elementary change of the state in which plain writes reach only lanes of `L`. -/
inductive Move (L : LaneId → Prop) : State → State → Prop
  | report (s : State) (r : Reporter) : Move L s { s with report := r }
  | activate (s : State) : Move L s (Machine.activate s)
  | supplyTimer (s : State) (x : Option Nat) : Move L s { s with supply := { s.supply with timer := x } }
  | slot (s : State) (x : Option Preempt) : Move L s { s with request := { s.request with slot := x } }
  | reply (s : State) (st : Station) (tag kind : Byte) (o : Option ReqObject) (v : Verdict) (ls : LaneSet)
      (h c : Bool) : Move L s (Machine.reply st tag kind o v ls h c s)
  | lane (s : State) (k : LaneId) (h : L k) (f : Lane → Lane) : Move L s (updLane k f s)
  | drive (s : State) (k : LaneId) (h : L k) (f : Drive → Drive) : Move L s (updDrive k f s)
  | load (s : State) (k : LaneId) (h : L k) (f : Load → Load) : Move L s (updLoad k f s)
  | timer (s : State) (k : LaneId) (h : s.lanes[k].state = .fenced) (x : Option Nat) :
      Move L s (updLane k (fun r => { r with clearTimer := x }) s)
  | act (s : State) (a : ActId) (x : ActRun) (hp : x.manualPulses ≤ s.acts[a].manualPulses)
      (hb : x.binding = s.acts[a].binding) : Move L s { s with acts := put s.acts a x }
  | bind (s : State) (k : LaneId) (h : L k) (as : List ActId) : Move L s (bindAll k as s)
  | unbind (s : State) (k : LaneId) (h : L k) : Move L s (unbindLane k s)
  | free (s : State) (zs : ZoneSet) (h : ∀ z : ZoneId, has zs z = true → ∃ k, L k ∧ s.holders[z] = some k) :
      Move L s (setHolders zs none s)
  | leave (s : State) (k : LaneId) (h : L k) : Move L s (leaveList k s)
  | join (s : State) (e : WaitEntry) (h : L e.lane) : Move L s { s with waitList := s.waitList ++ [e] }
  | relist (s : State) (f : WaitEntry → WaitEntry) (h : ∀ e, (f e).lane = e.lane) :
      Move L s { s with waitList := s.waitList.map f }
  | grant (s : State) (e : WaitEntry) (he : entryOf s e.lane = some e) (g : grantable s e.wanted = true) :
      Move L s (Machine.grant e s)
  | suspend (s : State) : Move L s (suspendTune s)
  | dequeue (s : State) (c : ChanId) : Move L s (Machine.dequeue c s)
  | tune (s : State) (c : ChanId) (k : Tune) (h : has s.presence.queue c = true) (hk : k.channel = c)
      (f : ChanRun → ChanRun) : Move L s (updChan c f { s with presence := { s.presence with tune := some k } })
  | write (s : State) (a : ActId) (f : ActuatorRec → ActuatorRec) : Move L s (writeActuator a f s)
  | log (s : State) (k : LogKind) (l : Option LaneId) (a : Option ActId) (p : Option Nat) (d : Option Int)
      (r : Option (Station × Byte)) (g : Option Group) : Move L s (logEntry k l a p d r g s)

/-- A sequence of elementary changes. -/
abbrev Moves (L : LaneId → Prop) : State → State → Prop := Relation.ReflTransGen (Move L)

section
variable {L M : LaneId → Prop} {s t u : State} {k : LaneId}

theorem Moves.refl : Moves L s s := Relation.ReflTransGen.refl
theorem Move.one (h : Move L s t) : Moves L s t := .single h

theorem Move.mono (hLM : ∀ k, L k → M k) (h : Move L s t) : Move M s t := by
  cases h with
  | report r => exact .report s r
  | activate => exact .activate s
  | supplyTimer x => exact .supplyTimer s x
  | slot x => exact .slot s x
  | reply st tag kind o v ls h c => exact .reply s st tag kind o v ls h c
  | lane k h f => exact .lane s k (hLM k h) f
  | drive k h f => exact .drive s k (hLM k h) f
  | load k h f => exact .load s k (hLM k h) f
  | timer k h x => exact .timer s k h x
  | act a x hp hb => exact .act s a x hp hb
  | bind k h as => exact .bind s k (hLM k h) as
  | unbind k h => exact .unbind s k (hLM k h)
  | free zs h => exact .free s zs fun z hz => (h z hz).imp fun k x => ⟨hLM k x.1, x.2⟩
  | leave k h => exact .leave s k (hLM k h)
  | join e h => exact .join s e (hLM _ h)
  | relist f h => exact .relist s f h
  | grant e he g => exact .grant s e he g
  | suspend => exact .suspend s
  | dequeue c => exact .dequeue s c
  | tune c k h hk f => exact .tune s c k h hk f
  | write a f => exact .write s a f
  | log k l a p d r g => exact .log s k l a p d r g

theorem Moves.mono (hLM : ∀ k, L k → M k) (h : Moves L s t) : Moves M s t := by
  induction h with
  | refl => exact .refl
  | tail _ h ih => exact ih.tail (h.mono hLM)

theorem Moves.foldl {α : Type} {f : State → α → State} (h : ∀ s x, Moves L s (f s x)) (xs : List α) :
    Moves L s (xs.foldl f s) := by
  induction xs generalizing s with
  | nil => exact .refl
  | cons x xs ih => exact (h s x).trans ih

/-- A property that every elementary change keeps, a sequence keeps. -/
theorem Moves.keep {P : State → Prop} (hP : ∀ s t, Move L s t → P s → P t) (h : Moves L s t) (hs : P s) : P t := by
  induction h with
  | refl => exact hs
  | tail _ h ih => exact hP _ _ h ih

end

section
variable {L : LaneId → Prop} (s : State) {k : LaneId}

/-! ### Marks, timers and records -/

theorem moves_mark (f : Flag) : Moves L s (mark f s) := (Move.report s _).one
theorem moves_markIf (b : Bool) (f : Flag) : Moves L s (markIf b f s) := by
  unfold markIf; split
  · exact moves_mark s f
  · exact .refl
theorem moves_quickenPeriod : Moves L s (quickenPeriod s) := by
  unfold quickenPeriod; split
  · split
    · exact (Move.report s _).one
    · exact .refl
  · exact .refl
theorem moves_resumeSupplyTimer : Moves L s (resumeSupplyTimer s) := by
  unfold resumeSupplyTimer; split
  · exact .refl
  · exact (Move.supplyTimer s _).one
theorem moves_updAct (a : ActId) (f : ActRun → ActRun) (hp : (f s.acts[a]).manualPulses ≤ s.acts[a].manualPulses)
    (hb : (f s.acts[a]).binding = s.acts[a].binding) : Moves L s (updAct a f s) := by
  unfold updAct
  exact (Move.act s a _ hp hb).one.trans ((moves_markIf _ _ _).trans (moves_markIf _ _ _))
theorem moves_driveStop (a : ActId) : Moves L s (driveStop a s) := moves_updAct s a _ (le_refl _) rfl

/-- A stop order to the channel of a lane of `L`. -/
theorem moves_brake (h : L k) (ms : Nat) (rev : Bool) : Moves L s (brake k ms rev s) := by
  unfold brake; dsimp only; split
  · refine .trans ?_ (moves_resumeSupplyTimer _)
    split
    · exact (Move.drive s k h _).one.trans (moves_driveStop _ _)
    · exact (Move.drive s k h _).one
  · exact .refl

theorem moves_openRelay (h : L k) : Moves L s (openRelay k s) := (Move.drive s k h _).one
theorem moves_note (h : L k) (i : BitVec 7) : Moves L s (note k i s) := (Move.lane s k h _).one
theorem moves_updCtx (h : L k) (f : StepCtx → StepCtx) : Moves L s (updCtx k f s) := (Move.lane s k h _).one
theorem moves_enterPaused (h : L k) (r : PauseReason) (p : ResumePoint) : Moves L s (enterPaused k r p s) :=
  (Move.lane s k h _).one
theorem moves_enterWaitAdvance (h : L k) : Moves L s (enterWaitAdvance k s) := (Move.lane s k h _).one
theorem moves_enterFenced (h : L k) : Moves L s (enterFenced k s) := by
  unfold enterFenced; exact (Move.lane s k h _).one
theorem moves_enterStopping (h : L k) (d : StopDest) : Moves L s (enterStopping k d s) :=
  (moves_brake s h _ _).tail (.lane _ k h _)
theorem moves_enterSettling (h : L k) : Moves L s (enterSettling k s) :=
  (moves_brake s h _ _).tail (.lane _ k h _)
theorem moves_endBackOff (h : L k) (d : StopDest) : Moves L s (endBackOff k d s) :=
  (moves_updCtx s h _).trans (moves_enterStopping _ h d)

/-! ### Scans, zones and arming -/

theorem moves_deliverUnfence (z : ZoneSet) : Moves L s (deliverUnfence z s) := by
  unfold deliverUnfence
  refine Moves.foldl (fun s k => ?_) _
  split
  · next h =>
    simp only [Bool.and_eq_true, decide_eq_true_eq] at h
    exact (Move.timer s k h.1.1 _).one
  · exact .refl

/-- ARMING of a lane of `L`. -/
theorem moves_enterArming (h : L k) : Moves L s (enterArming k s) := by
  unfold enterArming; split
  · exact .refl
  · exact ((Move.drive s k h _).one.tail (.lane _ k h _)).tail (.suspend _)

theorem moves_yieldTest (e : WaitEntry) : Moves L s (yieldTest e s) := by
  unfold yieldTest; split
  · exact (Move.relist s _ fun x => by split <;> rfl).one.tail (.suspend _)
  · exact .refl

theorem moves_visit : Moves L s (visit s k) := by
  unfold visit; split
  · exact .refl
  · next e he =>
    split
    · next g => exact (Move.grant s e (by rw [(entryOf_some s he).2]; exact he) g).one
    · exact moves_yieldTest s e

theorem moves_scanOnce : Moves L s (scanOnce s) := Moves.foldl (fun s _ => moves_visit s) _

theorem moves_rescanned (r : State) : Moves L s (rescanned r s) := by
  unfold rescanned; split
  · exact moves_scanOnce s
  · exact .refl

theorem moves_scan : Moves L s (scan s) := (moves_scanOnce s).trans (moves_rescanned _ _)

theorem moves_yieldTests : Moves L s (yieldTests s) := by
  refine .trans (Moves.foldl (fun s k => ?_) _) (moves_rescanned _ _)
  split
  · exact .refl
  · exact moves_yieldTest s _

theorem moves_release (h : L k) (zs : ZoneSet) : Moves L s (release k zs s) := by
  unfold release; dsimp only; split
  · exact .refl
  · refine .trans (.trans (.trans (Move.free s _ fun z hz => ⟨k, h, ?_⟩).one (moves_mark _ _)) (moves_mark _ _))
      (moves_scan _)
    simp only [has_and, has_heldBy, Bool.and_eq_true, decide_eq_true_eq] at hz
    exact hz.2

theorem moves_releaseAll (h : L k) : Moves L s (releaseAll k s) := moves_release s h _
theorem moves_arm (h : L k) : Moves L s (arm k s) := (moves_enterArming s h).trans (moves_rescanned _ _)

theorem moves_join (h : L k) : Moves L s (join k s) := by
  unfold join; split
  · exact .refl
  · exact (((moves_releaseAll s h).tail (.join _ _ h)).tail (.lane _ k h _)).trans (moves_scan _)

/-! ### Steps and claims -/

theorem moves_loadStep (h : L k) (r : StepRec) (c : CurStep) : Moves L s (loadStep k r c s) := by
  unfold loadStep; split
  · exact .refl
  · exact (Move.lane s k h _).one.tail (.load _ k h _)
theorem moves_computeSweep (h : L k) : Moves L s (computeSweep k s) := by
  unfold computeSweep; split
  · exact .refl
  · unfold setSweep; exact (Move.lane s k h _).one
theorem moves_claim (h : L k) : Moves L s (claim k s) := (moves_computeSweep s h).trans (moves_join _ h)
theorem moves_enterWaitGate (h : L k) : Moves L s (enterWaitGate k s) :=
  (moves_releaseAll s h).tail (.lane _ k h _)
theorem moves_takeFirstStep (h : L k) (r : StepRec) (c : CurStep) : Moves L s (takeFirstStep k r c s) := by
  unfold takeFirstStep; dsimp only; split
  · exact (moves_loadStep s h r c).trans (moves_claim _ h)
  · exact (moves_loadStep s h r c).trans (moves_enterWaitGate _ h)
theorem moves_testGate (h : s.lanes[k].state = .waitGate → L k) : Moves L s (testGate s k) := by
  unfold testGate; split
  · next g =>
    split
    · exact .refl
    · split
      · exact moves_claim s (h g)
      · exact .refl
  · exact .refl
theorem moves_takeLearn (h : L k) (a : ActId) : Moves L s (takeLearn k a s) := by
  unfold takeLearn
  exact ((Move.lane s k h _).one.tail (.load _ k h _)).trans (moves_claim _ h)
theorem moves_takeFirst (h : L k) (x : Track) : Moves L s (takeFirst k x s) := by
  unfold takeFirst; split
  · exact moves_takeFirstStep s h _ _
  · exact moves_takeLearn s h _
  · exact .refl

theorem moves_armOrFence (h : L k) : Moves L s (armOrFence k s) := by
  unfold armOrFence; split
  · exact .refl
  · next c _ =>
    have last : ∀ t, Moves L t (if meets c.sweep (fenced t) then enterFenced k t else arm k t) := by
      intro t; split
      · exact moves_enterFenced t h
      · exact moves_arm t h
    refine .trans ?_ (last _)
    split
    · exact moves_release s h _
    · exact .refl

theorem moves_restartLearn (h : L k) : Moves L s (restartLearn k s) := by
  unfold restartLearn; exact (moves_updCtx s h _).tail (.load _ k h _)

/-- The way from a homing that has become due to the ARMING decision or the wait list (R75). -/
theorem moves_homingDue (h : L k) :
    Moves L s (match (computeSweep k s).lanes[k].ctx with
      | none => computeSweep k s
      | some c => if covers (computeSweep k s) k c.sweep then armOrFence k (computeSweep k s)
        else join k (computeSweep k s)) := by
  refine (moves_computeSweep s h).trans ?_
  split
  · exact .refl
  · split
    · exact moves_armOrFence _ h
    · exact moves_join _ h

theorem moves_armingDecision (h : L k) : Moves L s (armingDecision k s) := by
  unfold armingDecision; split
  · exact .refl
  · split
    · exact moves_armOrFence s h
    · split
      · exact (moves_updCtx s h _).trans (moves_homingDue _ h)
      · exact (moves_updCtx s h _).trans (moves_homingDue _ h)
      · exact (moves_restartLearn s h).trans (moves_armOrFence _ h)
      · exact (moves_restartLearn s h).trans (moves_armOrFence _ h)
      all_goals exact moves_armOrFence s h

theorem moves_claimAtNext (h : L k) : Moves L s (claimAtNext k s) := by
  unfold claimAtNext; split
  · exact .refl
  · split
    · exact moves_enterWaitGate s h
    · split
      · exact moves_armingDecision s h
      · exact moves_claim s h

/-! ### Ends of an arrangement and orders to lanes -/

theorem moves_reportFree : Moves L s (reportFree k s) := (Move.slot s _).one

theorem moves_enterIdle (h : L k) (r : Result) : Moves L s (enterIdle k r s) := by
  unfold enterIdle; dsimp only
  exact ((((((Move.leave s k h).one.tail (.lane _ k h _)).tail (.load _ k h _)).trans (moves_releaseAll _ h)).tail
    (.unbind _ k h)).tail (.lane _ k h _)).trans (moves_reportFree _)
theorem moves_enterOffline (h : L k) (r : Result) : Moves L s (enterOffline k r s) := by
  unfold enterOffline; dsimp only
  exact (((Move.lane s k h _).one.tail (.unbind _ k h)).tail (.load _ k h _)).trans (moves_reportFree _)
theorem moves_leaveFaulted (h : L k) (r : Result) : Moves L s (leaveFaulted k r s) := by
  unfold leaveFaulted; split
  · exact moves_enterOffline s h r
  · exact moves_enterIdle s h r
theorem moves_clearFaultLane (h : L k) (r : Result) : Moves L s (clearFaultLane k r s) := by
  unfold clearFaultLane; dsimp only; split
  · exact .refl
  · split
    · split
      · exact .refl
      · exact (Move.lane s k h _).one
    · exact moves_leaveFaulted s h r
theorem moves_haltLane (h : L k) (r : PauseReason) : Moves L s (haltLane k r s) := by
  unfold haltLane; dsimp only; split
  · exact moves_enterStopping s h _
  · exact (moves_openRelay s h).trans (moves_enterPaused _ h _ _)
  · exact (Move.leave s k h).one.trans (moves_enterPaused _ h _ _)
  iterate 4 exact moves_enterPaused s h _ _
  · exact (Move.lane s k h _).one
  iterate 3
    · split
      · exact .refl
      · exact (Move.lane s k h _).one
  all_goals exact .refl
theorem moves_cancelLane (h : L k) (r : Result) : Moves L s (cancelLane k r s) := by
  unfold cancelLane; dsimp only; split
  iterate 6 exact moves_enterIdle s h _
  · exact (moves_openRelay s h).trans (moves_enterIdle _ h _)
  · exact moves_enterStopping s h _
  iterate 3
    · split
      · exact .refl
      · exact (Move.lane s k h _).one
  · exact moves_clearFaultLane s h _
  all_goals exact .refl
theorem moves_afterDwell (h : L k) : Moves L s (afterDwell k s) := by
  unfold afterDwell; split
  · exact .refl
  · split
    · exact moves_enterIdle s h _
    · split
      · exact moves_enterWaitAdvance s h
      · exact moves_claimAtNext s h
theorem moves_resumeLane (h : L k) : Moves L s (resumeLane k s) := by
  unfold resumeLane; dsimp only; split
  · exact .refl
  · split
    · exact moves_armingDecision s h
    · exact moves_claim s h
    · exact (moves_enterWaitGate s h).trans (moves_testGate _ fun _ => h)
    · exact moves_afterDwell s h
    · exact moves_enterWaitAdvance s h
    · exact .refl
theorem moves_holdLane (h : L k) : Moves L s (holdLane k s) := by
  unfold holdLane; dsimp only; split
  · exact .refl
  · split
    · split
      · exact (Move.lane s k h _).one.trans (moves_armingDecision _ h)
      · exact (Move.lane s k h _).one
    · split
      · exact moves_claimAtNext s h
      · exact .refl
theorem moves_interlockLost (h : s.lanes[k].state = .moving → L k) : Moves L s (interlockLost s k) := by
  unfold interlockLost; split
  · next g => exact moves_enterStopping s (h g) _
  · exact .refl
theorem moves_supplyLowOnset (h : s.lanes[k].state = .moving ∨ s.lanes[k].state = .reversing → L k) :
    Moves L s (supplyLowOnset s k) := by
  unfold supplyLowOnset; split
  · next g => exact moves_enterStopping s (h (.inl g)) _
  · next g => exact (Move.drive s k (h (.inr g)) _).one.trans (moves_endBackOff _ (h (.inr g)) _)
  · exact .refl
/-- An order delivered to the lanes of a set. -/
theorem moves_deliver (f : LaneId → State → State) (ls : LaneSet)
    (h : ∀ (k : LaneId) (s : State), has ls k = true → Moves L s (f k s)) : Moves L s (deliver f ls s) := by
  refine Moves.foldl (fun s k => ?_) _
  split
  · next g => exact h k s g
  · exact .refl

/-! ### Fences and tunes -/

theorem moves_fenceLane (z : ZoneSet) (h : s.lanes[k].state = .moving ∨ s.lanes[k].state = .arming → L k) :
    Moves L s (fenceLane z s k) := by
  unfold fenceLane; split
  · split
    · next g => exact moves_enterStopping s (h (.inl g)) _
    · next g => exact (moves_openRelay s (h (.inr g))).trans (moves_enterFenced _ (h (.inr g)))
    · next g => exact (Move.timer s k g _).one
    · exact .refl
  · exact .refl

/-- A fence brings no lane into MOVING or ARMING. -/
theorem fenceLane_motion (z : ZoneSet) (m : LaneId) (h : (fenceLane z s k).lanes[m].state = .moving ∨
    (fenceLane z s k).lanes[m].state = .arming) : s.lanes[m].state = .moving ∨ s.lanes[m].state = .arming := by
  unfold fenceLane at h
  split at h
  · split at h
    · next g => by_cases e : m = k
                · exact .inl (e ▸ g)
                · simpa [-Fin.getElem_fin, put_other _ e] using h
    · next g => by_cases e : m = k
                · exact .inr (e ▸ g)
                · simpa [-Fin.getElem_fin, put_other _ e] using h
    · next g => by_cases e : m = k
                · subst e; simpa [-Fin.getElem_fin] using h
                · simpa [-Fin.getElem_fin, put_other _ e] using h
    · exact h
  · exact h

theorem moves_fenceLanes (z : ZoneSet) (xs : List LaneId)
    (h : ∀ k, s.lanes[k].state = .moving ∨ s.lanes[k].state = .arming → L k) : Moves L s (xs.foldl (fenceLane z) s) := by
  induction xs generalizing s with
  | nil => exact .refl
  | cons x xs ih => exact (moves_fenceLane s z (h x)).trans (ih _ fun k g => h k (fenceLane_motion s z k g))

/-- A change of the fenced view reaches lanes in MOVING and ARMING, FENCED lanes' clear timers, and waiting lanes. -/
theorem moves_fenceEvent (v w : FenceView) (h : ∀ k, s.lanes[k].state = .moving ∨ s.lanes[k].state = .arming → L k) :
    Moves L s (fenceEvent v w s) := by
  unfold fenceEvent; dsimp only; split
  · exact .refl
  · have fences := ((moves_mark (L := L) s .sets).trans (moves_fenceLanes _ (w.all &&& ~~~v.all) allLanes h)).trans
      (moves_deliverUnfence _ (v.all &&& ~~~w.all))
    split
    · exact fences.trans (moves_yieldTests _)
    · exact fences.trans (moves_scan _)

theorem moves_handOn (v : FenceView) (c : ChanId)
    (h : ∀ k, s.lanes[k].state = .moving ∨ s.lanes[k].state = .arming → L k) : Moves L s (handOn v c s) := by
  have a : Moves L s _ := (moves_fenceEvent s (v.within (s.ram.channels[c].guard))
    ((fenceView s).within (s.ram.channels[c].guard)) h).tail (.activate _)
  unfold handOn; dsimp only; split
  · exact a
  · exact a.tail (.dequeue _ c)

theorem moves_handOnAll (v : FenceView) (cs : List ChanId) : Moves (fun _ => True) s (handOnAll v cs s) := by
  unfold handOnAll
  suffices h : ∀ p : FenceView × State, Moves (fun _ => True) p.2 (cs.foldl (fun (p : FenceView × State) c =>
      (p.1.refreshed (fenceView p.2) (p.2.ram.channels[c].guard), handOn p.1 c p.2)) p).2 from h (v, s)
  induction cs with
  | nil => exact fun p => .refl
  | cons c cs ih =>
    intro p
    rw [List.foldl_cons]
    exact (moves_handOn p.2 p.1 c fun _ _ => trivial).trans (ih (_, _))

/-- No lane is in a motion state. -/
theorem anyMotion_eq_false (h : anyMotion s = false) (k : LaneId) : s.lanes[k].state.inMotion = false := by
  simp only [anyMotion, List.any_eq_false, Bool.not_eq_true] at h
  exact h k (mem_allLanes k)

theorem anyMotion_of (h : s.lanes[k].state.inMotion = true) : anyMotion s = true :=
  List.any_eq_true.2 ⟨k, mem_allLanes k, h⟩

/-- With a lane in a motion state no tune starts (R172). -/
theorem tryTune_of_motion (h : s.lanes[k].state.inMotion = true) : tryTune s = s := by
  unfold tryTune; split
  · rfl
  · rw [if_pos]; simp [anyMotion_of s h]

/-- The start of a tune, whose guard zones enter the fence set, reaches no lane of its own: none is in motion (R172). -/
theorem moves_tryTune : Moves L s (tryTune s) := by
  unfold tryTune; split
  · exact .refl
  · next c hc =>
    split
    · exact .refl
    · next g =>
      simp only [Bool.or_eq_true, decide_eq_true_eq, not_or, Bool.not_eq_true] at g
      have hq : has s.presence.queue c = true := by simpa using List.find?_some hc
      refine .trans (Move.tune s c _ hq rfl _).one (moves_handOn _ _ c fun k hk => ?_)
      have := anyMotion_eq_false s g.1.1.2 k
      rcases hk with hk | hk <;> simp only [updChan_lanes] at hk <;> rw [hk] at this <;> cases this

/-! ### Requests -/

theorem moves_refuse (st : Station) (tag kind : Byte) (o : Option ReqObject) (v : Verdict) :
    Moves L s (refuse st tag kind o v s) := (Move.reply s st tag kind o v _ _ _).one

theorem moves_startRecord (h : L k) (st : Station) (tag : Byte) (m : AdvanceMode) (d : Bool) (p : Option LaneId)
    (x : Track) : Moves L s (startRecord st tag m d p x k s) := by
  unfold startRecord; exact (Move.bind s k h _).one.tail (.lane _ k h _)

theorem Moves.foldl_mem {α : Type} {f : State → α → State} {xs : List α} (h : ∀ s, ∀ x ∈ xs, Moves L s (f s x)) :
    Moves L s (xs.foldl f s) := by
  induction xs generalizing s with
  | nil => exact .refl
  | cons x xs ih =>
    exact (h s x (List.mem_cons_self ..)).trans (ih _ fun s y hy => h s y (List.mem_cons_of_mem _ hy))

theorem mem_idleLanes : k ∈ idleLanes s ↔ s.lanes[k].state = .idle := by
  simp [idleLanes, mem_allLanes]

/-- An acceptance reaches IDLE lanes (R55). -/
theorem moves_accept (h : ∀ k, s.lanes[k].state = .idle → L k) (st : Station) (tag : Byte) (run : RunReq)
    (ts : List Track) : Moves L s (accept st tag run ts s) := by
  have hl : ∀ p ∈ ts.zip ((idleLanes s).take ts.length), L p.2 := fun p hp =>
    h _ ((mem_idleLanes s).1 (List.mem_of_mem_take (List.of_mem_zip hp).2))
  unfold accept; dsimp only
  exact (Moves.foldl_mem _ fun s p hp => moves_startRecord s (hl p hp) _ _ _ _ _ _).trans
    ((moves_quickenPeriod _).trans ((Moves.foldl_mem _ fun s p hp => moves_takeFirst s (hl p hp) _).tail (.reply ..)))

theorem moves_supersede : Moves L s (supersede s) := by
  unfold supersede; split
  · exact .refl
  · exact (Move.slot s _).one.trans (moves_refuse _ _ _ _ _ _)

theorem moves_preempt (st : Station) (tag : Byte) (run : RunReq) (acts : ActSet)
    (h : ∀ k, has (lanesBound s acts) k = true → L k) : Moves L s (preempt st tag run acts s) := by
  unfold preempt; dsimp only
  refine .trans (.tail (.trans (Moves.foldl (fun s k => ?_) _) (moves_supersede _)) (.slot _ _)) (moves_refuse _ _ _ _ _ _)
  split
  · next g => exact moves_cancelLane s (h k g) _
  · exact .refl

/-- The fresh evaluation of a pending preempt reaches lanes that are IDLE (R63). -/
theorem moves_settlePreempt (h : ∀ t : State, ∀ k, Moves (fun _ => False) s t → t.lanes[k].state = .idle → L k) :
    Moves L s (settlePreempt s) := by
  unfold settlePreempt; split
  · exact .refl
  · split
    · have a : ∀ {M : LaneId → Prop}, Moves M s (tryTune { s with request := { s.request with slot := none } }) :=
        (Move.slot s _).one.trans (moves_tryTune _)
      dsimp only; split
      · exact a.trans (moves_refuse _ _ _ _ _ _)
      · exact a.trans (moves_refuse _ _ _ _ _ _)
      · exact a.trans (moves_accept _ (fun k hk => h _ k a hk) _ _ _ _)
    · exact .refl

theorem moves_finish (h : ∀ t : State, ∀ k, Moves (fun _ => False) s t → t.lanes[k].state = .idle → L k) :
    Moves L s (finish s) := (moves_settlePreempt s h).trans (moves_tryTune _)

end
end Sys2Proof.Proofs
end

section
/-! What every sequence of elementary changes keeps: the lanes outside `L` that do not wait, the channels that are
neither queued nor tuned, the mode ACTIVE, the lack of a binding, and the bounds of rings and counters. -/

namespace Sys2Proof.Proofs

open Sys2Proof Sys2Proof.Machine Sys2Proof.Safety

/-! ### Folds and the unfence -/

/-- What each step of a fold keeps, the fold keeps. -/
theorem foldl_keeps {α β : Type} (p : State → β) {f : State → α → State} (h : ∀ s x, p (f s x) = p s) (xs : List α)
    (s : State) : p (xs.foldl f s) = p s := by
  induction xs generalizing s with
  | nil => rfl
  | cons x xs ih => rw [List.foldl_cons, ih, h]

section
variable {l k : LaneId} {s t u : State} {L : LaneId → Prop}

@[simp] theorem deliverUnfence_chans (z : ZoneSet) (s : State) : (deliverUnfence z s).chans = s.chans :=
  foldl_keeps State.chans (fun s k => by split <;> simp) _ s
@[simp] theorem deliverUnfence_presence (z : ZoneSet) (s : State) : (deliverUnfence z s).presence = s.presence :=
  foldl_keeps State.presence (fun s k => by split <;> simp) _ s
@[simp] theorem deliverUnfence_mode (z : ZoneSet) (s : State) : (deliverUnfence z s).power.mode = s.power.mode :=
  foldl_keeps (fun s => s.power.mode) (fun s k => by split <;> simp) _ s
@[simp] theorem bindAll_presence (as : List ActId) (s : State) : (bindAll k as s).presence = s.presence :=
  foldl_keeps State.presence (f := fun s a => { s with acts := put s.acts a { s.acts[a] with binding := some k } })
    (fun _ _ => rfl) as s
@[simp] theorem bindAll_power (as : List ActId) (s : State) : (bindAll k as s).power = s.power :=
  foldl_keeps State.power (f := fun s a => { s with acts := put s.acts a { s.acts[a] with binding := some k } })
    (fun _ _ => rfl) as s
@[simp] theorem bindAll_chans (as : List ActId) (s : State) : (bindAll k as s).chans = s.chans :=
  foldl_keeps State.chans (f := fun s a => { s with acts := put s.acts a { s.acts[a] with binding := some k } })
    (fun _ _ => rfl) as s
@[simp] theorem bindAll_lanes (as : List ActId) (s : State) : (bindAll k as s).lanes = s.lanes :=
  foldl_keeps State.lanes (f := fun s a => { s with acts := put s.acts a { s.acts[a] with binding := some k } })
    (fun _ _ => rfl) as s
@[simp] theorem unbindLane_presence (s : State) : (unbindLane k s).presence = s.presence :=
  foldl_keeps State.presence (fun s a => by split <;> rfl) _ s
@[simp] theorem unbindLane_power (s : State) : (unbindLane k s).power = s.power :=
  foldl_keeps State.power (fun s a => by split <;> rfl) _ s
@[simp] theorem unbindLane_chans (s : State) : (unbindLane k s).chans = s.chans :=
  foldl_keeps State.chans (fun s a => by split <;> rfl) _ s
@[simp] theorem unbindLane_lanes (s : State) : (unbindLane k s).lanes = s.lanes :=
  foldl_keeps State.lanes (fun s a => by split <;> rfl) _ s

/-- Only a FENCED lane's clear timer is started by an unfence. -/
theorem deliverUnfence_record (z : ZoneSet) (h : s.lanes[l].state ≠ .fenced) :
    (deliverUnfence z s).lanes[l] = s.lanes[l] := by
  unfold deliverUnfence
  generalize allLanes = xs
  induction xs generalizing s with
  | nil => rfl
  | cons x xs ih =>
    rw [List.foldl_cons]
    split
    · next g =>
      simp only [Bool.and_eq_true, decide_eq_true_eq] at g
      have e : l ≠ x := fun e => h (e ▸ g.1.1)
      have r : (updLane x (fun r => { r with clearTimer := some clearTime }) s).lanes[l] = s.lanes[l] := by
        rw [updLane_lanes, put_other _ e]
      rw [ih (by rw [r]; exact h), r]
    · exact ih h

theorem suspendTune_record (h : s.lanes[l].state ≠ .fenced) : (suspendTune s).lanes[l] = s.lanes[l] := by
  unfold suspendTune; split
  · rfl
  · rw [activate_lanes, deliverUnfence_record _ (by rw [markIf_lanes]; exact h), markIf_lanes]; rfl

theorem suspendTune_reseedCount (s : State) : (suspendTune s).presence.reseedCount = s.presence.reseedCount := by
  unfold suspendTune; split <;> simp
theorem suspendTune_queue (s : State) : (suspendTune s).presence.queue = s.presence.queue := by
  unfold suspendTune; split <;> simp
@[simp] theorem suspendTune_tune (s : State) : (suspendTune s).presence.tune = none := by
  unfold suspendTune; split
  · assumption
  · simp
theorem suspendTune_active (s : State) (h : s.power.mode = .active) : (suspendTune s).power.mode = .active := by
  unfold suspendTune; split
  · exact h
  · simp

/-- The order that a grant gives to its lane (R103, R118). -/
theorem enterArming_presence : (enterArming k s).presence.queue = s.presence.queue ∧
    (enterArming k s).presence.reseedCount = s.presence.reseedCount := by
  unfold enterArming; split
  · exact ⟨rfl, rfl⟩
  · exact ⟨(suspendTune_queue _).trans (by simp), (suspendTune_reseedCount _).trans (by simp)⟩

/-! ### Channels that are neither queued nor tuned -/

/-- The channel is neither in the tuning queue nor the one that is being tuned. -/
def Quiet (c : ChanId) (s : State) : Prop :=
  has s.presence.queue c = false ∧ s.presence.tune.all (fun k => k.channel != c) = true

/-- From s to t the channel's record is the same, and a quiet channel stays quiet. -/
structure Hushed (c : ChanId) (s t : State) : Prop where
  chan : t.chans[c] = s.chans[c]
  quiet : Quiet c t

theorem Hushed.of {c : ChanId} (q : Quiet c s) (h : t.chans[c] = s.chans[c])
    (hq : t.presence.queue = s.presence.queue) (ht : t.presence.tune = s.presence.tune ∨ t.presence.tune = none) :
    Hushed c s t := by
  refine ⟨h, by rw [hq]; exact q.1, ?_⟩
  rcases ht with ht | ht <;> rw [ht]
  · exact q.2
  · rfl

theorem hushed_suspendTune {c : ChanId} (q : Quiet c s) : Hushed c s (suspendTune s) := by
  refine .of q ?_ (suspendTune_queue s) (.inr (suspendTune_tune s))
  unfold suspendTune; split
  · rfl
  · next k hk =>
    have : c ≠ k.channel := by
      have := q.2; rw [hk] at this
      exact fun e => by simp [e] at this
    simp [-Fin.getElem_fin, put_other _ this]

theorem hushed_enterArming {c : ChanId} (q : Quiet c s) : Hushed c s (enterArming k s) := by
  unfold enterArming; split
  · exact ⟨rfl, q⟩
  · next d _ =>
    have h : Quiet c (updLane k (fun r => { r.leaving with state := .arming }) (armOrder k d.act s)) :=
      ⟨by simpa using q.1, by simpa using q.2⟩
    have := hushed_suspendTune h
    exact ⟨this.chan.trans (by simp [-Fin.getElem_fin]), this.quiet⟩

theorem hushed_grant {c : ChanId} (e : WaitEntry) (q : Quiet c s) : Hushed c s (grant e s) := by
  unfold grant; dsimp only
  split
  · have h := hushed_enterArming (k := e.lane) (s := leaveList e.lane (setHolders e.wanted (some e.lane) s)) q
    exact ⟨h.chan, h.quiet⟩
  · have h := hushed_enterArming (k := e.lane)
      (s := mark (.lane e.lane) (mark .sets (leaveList e.lane (setHolders e.wanted (some e.lane) s)))) q
    exact ⟨h.chan, h.quiet⟩

theorem Move.hushed {c : ChanId} (h : Move L s t) (q : Quiet c s) : Hushed c s t := by
  cases h with
  | suspend => exact hushed_suspendTune q
  | grant e _ _ => exact hushed_grant e q
  | dequeue d => exact ⟨rfl, by simp only [Machine.dequeue, has_and, q.1, Bool.false_and], q.2⟩
  | tune d k h hk f =>
    have e : c ≠ d := fun e => by rw [← e, q.1] at h; cases h
    exact ⟨by simp [-Fin.getElem_fin, put_other _ e], q.1, by simp [hk, Ne.symm e]⟩
  | lane k _ f => exact .of q (by simp) (by simp) (.inl (by simp))
  | timer k _ f => exact .of q (by simp) (by simp) (.inl (by simp))
  | activate => exact .of q (by simp) (by simp) (.inl (by simp))
  | bind k _ as => exact .of q (by simp) (by simp) (.inl (by simp))
  | unbind k _ => exact .of q (by simp) (by simp) (.inl (by simp))
  | log => exact .of q (by simp) (by simp) (.inl (by simp))
  | reply => exact .of q (by simp) (by simp) (.inl (by simp))
  | _ => exact ⟨rfl, q⟩

theorem Moves.hushed {c : ChanId} (h : Moves L s t) (q : Quiet c s) : Hushed c s t := by
  induction h with
  | refl => exact ⟨rfl, q⟩
  | tail _ m ih => exact ⟨(m.hushed ih.quiet).chan.trans ih.chan, (m.hushed ih.quiet).quiet⟩

/-! ### The mode ACTIVE -/

theorem enterArming_active (h : s.power.mode = .active) : (enterArming k s).power.mode = .active := by
  unfold enterArming; split
  · exact h
  · exact suspendTune_active _ (by simpa using h)

theorem Move.active (m : Move L s t) (h : s.power.mode = .active) : t.power.mode = .active := by
  cases m with
  | suspend => exact suspendTune_active s h
  | grant e _ _ =>
    unfold Machine.grant; dsimp only
    exact enterArming_active (by split <;> exact h)
  | reply => unfold Machine.reply; dsimp only; split <;> simp [h]
  | lane => simpa using h
  | timer => simpa using h
  | activate => simp
  | bind => simpa using h
  | unbind => simpa using h
  | log => simpa using h
  | _ => exact h

theorem Moves.active (m : Moves L s t) (h : s.power.mode = .active) : t.power.mode = .active :=
  m.keep (fun _ _ => Move.active) h

/-! ### Bindings -/

/-- No actuator is bound to the lane. -/
def Unbound (l : LaneId) (s : State) : Prop := ∀ a : ActId, s.acts[a].binding ≠ some l

theorem Unbound.of_calm (h : calm t = calm s) (u : Unbound l s) : Unbound l t := fun a => by
  rw [binding_of_calm h]; exact u a

theorem Unbound.foldl {α : Type} {f : State → α → State} (h : ∀ s x, Unbound l s → Unbound l (f s x)) (xs : List α)
    (u : Unbound l s) : Unbound l (xs.foldl f s) := by
  induction xs generalizing s with
  | nil => exact u
  | cons x xs ih => exact ih (h s x u)

theorem Unbound.put {x : ActRun} {a : ActId} (u : Unbound l s) (h : x.binding ≠ some l) :
    Unbound l { s with acts := put s.acts a x } := fun b => by
  show (Machine.put s.acts a x)[b].binding ≠ some l
  rw [put_get]; split
  · exact h
  · exact u b

theorem Move.unbound (m : Move L s t) (hl : ¬ L l) (u : Unbound l s) : Unbound l t := by
  cases m with
  | act a x _ hb => exact u.put (hb ▸ u a)
  | bind k h as =>
    have ne : some k ≠ some l := fun e => hl (Option.some.inj e ▸ h)
    exact Unbound.foldl (f := fun s a => { s with acts := put s.acts a { s.acts[a] with binding := some k } })
      (fun s a v => v.put ne) _ u
  | unbind k h =>
    refine Unbound.foldl (fun s a v => ?_) _ u
    split
    · exact v.put (by simp)
    · exact v
  | reply => intro a; rw [reply_acts]; exact u a
  | grant e _ _ => exact u.of_calm (by simp)
  | suspend => exact u.of_calm (by simp)
  | activate => exact u.of_calm (by simp)
  | lane => exact u.of_calm (by simp)
  | timer => exact u.of_calm (by simp)
  | log => intro a; rw [logEntry_acts]; exact u a
  | _ => exact u

theorem Moves.unbound (m : Moves L s t) (hl : ¬ L l) (u : Unbound l s) : Unbound l t :=
  m.keep (fun _ _ m => m.unbound hl) u

/-- The release of a lane's bindings leaves it none (R20). -/
theorem unbindLane_unbound (l : LaneId) (s : State) : Unbound l (unbindLane l s) := by
  suffices h : ∀ (xs : List ActId) (s : State), (∀ a, a ∉ xs → s.acts[a].binding ≠ some l) →
      Unbound l (xs.foldl (fun s a =>
        if s.acts[a].binding = some l then { s with acts := put s.acts a { s.acts[a] with binding := none } }
        else s) s) from h allActs s fun a ha => absurd (mem_allActs a) ha
  intro xs
  induction xs with
  | nil => exact fun s h a => h a (by simp)
  | cons x xs ih =>
    intro s h
    refine ih _ fun a ha => ?_
    dsimp only
    split
    · rw [put_get]; split
      · simp
      · next e => exact h a (by simp [ha, Ne.symm e])
    · next n =>
      by_cases e : a = x
      · exact e ▸ n
      · exact h a (by simp [ha, e])

/-! ### Lanes that no change reaches -/

/-- Nothing of the lane changes; in FENCED its clear timer may. -/
structure Spared (l : LaneId) (s t : State) : Prop where
  apart : Apart l s t
  record : s.lanes[l].state ≠ .fenced → t.lanes[l] = s.lanes[l]

theorem Spared.refl : Spared l s s := ⟨.refl, fun _ => rfl⟩
theorem Spared.trans (h : Spared l s t) (g : Spared l t u) : Spared l s u :=
  ⟨h.apart.trans g.apart, fun x => (g.record (by rw [h.apart.state]; exact x)).trans (h.record x)⟩
theorem Spared.of (h : Apart l s t) (e : t.lanes = s.lanes) : Spared l s t := ⟨h, fun _ => by rw [e]⟩
theorem Spared.of_same (h : t.lanes = s.lanes) (h2 : t.drives = s.drives) (h3 : t.loads = s.loads)
    (h4 : t.holders = s.holders) (h5 : t.waitList = s.waitList) : Spared l s t :=
  .of (.of (by rw [h]) (by rw [h2]) (by rw [h3]) h4 h5) h

theorem spared_suspendTune (s : State) : Spared l s (suspendTune s) := ⟨apart_suspendTune s, suspendTune_record⟩

theorem spared_enterArming (h : k ≠ l) : Spared l s (enterArming k s) := by
  refine ⟨apart_enterArming s h, fun g => ?_⟩
  unfold enterArming; split
  · rfl
  · next c hc =>
    have e : (updLane k (fun r => { r.leaving with state := .arming }) (armOrder k c.act s)).lanes[l] = s.lanes[l] := by
      rw [updLane_lanes, put_other _ (Ne.symm h)]; rfl
    rw [suspendTune_record (by rw [e]; exact g), e]

theorem spared_grant (e : WaitEntry) (h : e.lane ≠ l) (g : grantable s e.wanted = true) : Spared l s (grant e s) := by
  refine ⟨apart_grant s e h g, fun f => ?_⟩
  unfold grant; dsimp only
  have r : ∀ t : State, t.lanes = s.lanes → (enterArming e.lane t).lanes[l] = s.lanes[l] := fun t ht => by
    rw [(spared_enterArming h).record (by rw [ht]; exact f), ht]
  split <;> exact r _ rfl

/-- A lane outside `L` is left alone, or it waits and is granted its zones. -/
theorem Move.spared_or_granted (m : Move L s t) (hl : ¬ L l) :
    Spared l s t ∨ ∃ e, entryOf s l = some e ∧ grantable s e.wanted = true ∧ t = Machine.grant e s := by
  have ne : ∀ {k}, L k → k ≠ l := fun h e => hl (e ▸ h)
  cases m with
  | grant e he g =>
    by_cases h : e.lane = l
    · exact .inr ⟨e, h ▸ he, g, rfl⟩
    · exact .inl (spared_grant e h g)
  | report r => exact .inl (.of_same rfl rfl rfl rfl rfl)
  | activate => exact .inl (.of (apart_activate s) (by simp))
  | supplyTimer x => exact .inl (.of_same rfl rfl rfl rfl rfl)
  | slot x => exact .inl (.of_same rfl rfl rfl rfl rfl)
  | reply => exact .inl (.of_same (by simp) (by simp) (by simp) (by simp) (by simp))
  | lane k h f => exact .inl ⟨apart_updLane s (ne h) f, fun _ => by rw [updLane_lanes, put_other _ (Ne.symm (ne h))]⟩
  | drive k h f => exact .inl (.of (apart_updDrive s (ne h) f) rfl)
  | load k h f => exact .inl (.of (apart_updLoad s (ne h) f) rfl)
  | timer k h x =>
    refine .inl ⟨apart_clearTimer s x, fun g => ?_⟩
    rw [updLane_lanes, put_other _ fun e => g (by rw [e]; exact h)]
  | act a x _ _ => exact .inl (.of_same rfl rfl rfl rfl rfl)
  | bind k h as => exact .inl (.of (apart_bindAll s as) (by simp))
  | unbind k h => exact .inl (.of (apart_unbindLane s) (by simp))
  | free zs h =>
    refine .inl (.of (apart_setHolders s zs none (by simp) fun z hz e => ?_) rfl)
    obtain ⟨k, hk, e'⟩ := h z hz
    exact ne hk (Option.some.inj (e'.symm.trans e))
  | leave k h => exact .inl (.of (apart_leaveList s) rfl)
  | join e h =>
    refine .inl (.of ⟨rfl, fun v x hx => ?_⟩ rfl)
    rcases List.mem_append.1 hx with hx | hx
    · exact v x hx
    · rw [List.mem_singleton.1 hx]; exact ne h
  | relist f h =>
    refine .inl (.of ⟨rfl, fun v x hx => ?_⟩ rfl)
    obtain ⟨y, hy, rfl⟩ := List.mem_map.1 hx
    rw [h]; exact v y hy
  | suspend => exact .inl (spared_suspendTune s)
  | dequeue c => exact .inl (.of_same rfl rfl rfl rfl rfl)
  | tune c k h hk f => exact .inl (.of_same rfl rfl rfl rfl rfl)
  | write a f => exact .inl (.of_same rfl rfl rfl rfl rfl)
  | log => exact .inl (.of_same (by simp) (by simp) (by simp) (by simp) (by simp))

/-- A lane outside `L` that does not wait is left alone. -/
theorem Move.spared (m : Move L s t) (hl : ¬ L l) (u : Unlisted s l) : Spared l s t := by
  rcases m.spared_or_granted hl with h | ⟨e, he, -, -⟩
  · exact h
  · obtain ⟨mem, lane⟩ := entryOf_some s he
    exact absurd lane (u e mem)

theorem Moves.spared (m : Moves L s t) (hl : ¬ L l) (u : Unlisted s l) : Spared l s t := by
  induction m with
  | refl => exact .refl
  | tail _ m ih => exact ih.trans (m.spared hl (ih.apart.list u))

end
end Sys2Proof.Proofs
end

section
/-! The Drive Unit's operations and the lane's answers to them as sequences of elementary changes. -/

namespace Sys2Proof.Proofs

open Sys2Proof Sys2Proof.Machine Sys2Proof.Safety

section
variable {L : LaneId → Prop} (s : State) {k : LaneId}

/-! ### Drives -/

theorem moves_restartStall (a : ActId) (h : L k) : Moves L s (restartStall a s k) := by
  unfold restartStall; dsimp only; split
  · exact (Move.drive s k h _).one
  · exact .refl

theorem moves_slow (h : L k) (b : Prop) [Decidable b] (f : Drive → Drive) :
    Moves L s (if b then updDrive k f s else s) := by
  split
  · exact (Move.drive s k h _).one
  · exact .refl

theorem moves_evaluateDrive (h : L k) : Moves L s (evaluateDrive k s) := by
  have slow : ∀ (b : Prop) [Decidable b],
      Moves L s (if b then updDrive k (fun d => { d with slowed := true }) s else s) := fun b _ => moves_slow s h b _
  unfold evaluateDrive; dsimp only; split
  · split
    · exact .refl
    · split
      · split
        · refine .trans ?_ (moves_endBackOff _ h _); exact slow _
        · exact slow _
      · split
        · refine .trans ?_ (moves_enterSettling _ h); exact slow _
        · exact slow _
  · exact .refl

theorem moves_evaluateOn (a : ActId) (h : L k) : Moves L s (evaluateOn a s k) := by
  unfold evaluateOn; split
  · exact moves_evaluateDrive s h
  · exact .refl

theorem moves_countPulse (a : ActId) (h : ∀ k, L k) : Moves L s (countPulse a s) := by
  have m := Moves.foldl (L := L) (s := s) (fun s k => moves_restartStall s a (h k)) allLanes
  have p : ∀ (t : State) (n : Nat), Moves L t (updAct a (fun x => { x with position := n }) t) :=
    fun t n => moves_updAct t a _ (le_refl _) rfl
  unfold countPulse; dsimp only; split
  · exact m
  · exact (m.trans (p _ _)).trans (Moves.foldl (fun s k => moves_evaluateOn s a (h k)) _)

theorem moves_reportDriveStart (a : ActId) (d : Direction) : Moves L s (reportDriveStart a d s) := by
  unfold reportDriveStart
  exact moves_updAct s a _ (Nat.zero_le _) rfl

theorem moves_startChannel (h : L k) (m : MotionKind) (e : Option EndKind) (aim : Nat) (d : Direction)
    (c : SpeedClass) : Moves L s (startChannel k m e aim d c s) :=
  (Move.drive s k h _).one.tail (.supplyTimer _ _)

theorem moves_driveStart (h : L k) (c : StepCtx) : Moves L s (driveStart k c s) := by
  unfold driveStart; dsimp only
  exact ((((Move.write s c.act _).one.trans (moves_reportDriveStart _ _ _)).trans
    (moves_startChannel _ h _ _ _ _ _)).tail (.load _ k h _)).tail (.lane _ k h _) |>.trans (moves_evaluateDrive _ h)

theorem moves_armingEnd (h : L k) : Moves L s (armingEnd k s) := by
  have o := moves_openRelay s h
  have checks : ∀ (p : Bool) (c : StepCtx), Moves L s (
      if p && !s.acts[c.act].referenced then armingDecision k (openRelay k s)
      else if !interlock s then enterPaused k .interlock .motion (openRelay k s)
      else if s.supply.low then enterPaused k .supply .motion (openRelay k s)
      else if s.lanes[k].mode = some .hold && !s.lanes[k].holdCurrent then
        enterPaused k .holdLapsed .motion (openRelay k s)
      else driveStart k c s) := by
    intro p c
    split
    · exact o.trans (moves_armingDecision _ h)
    split
    · exact o.trans (moves_enterPaused _ h _ _)
    split
    · exact o.trans (moves_enterPaused _ h _ _)
    split
    · exact o.trans (moves_enterPaused _ h _ _)
    · exact moves_driveStart s h _
  unfold armingEnd; split
  · exact o
  · exact checks _ _

/-! ### Faults and contacts -/

theorem partnerOf_eq (j : LaneId) : partnerOf s k = some j ↔
    s.lanes[k].partner = some j ∧ s.lanes[j].partner = some k ∧ s.lanes[j].state.free = false := by
  unfold partnerOf; split
  · next e => simp [-Fin.getElem_fin, e]
  · next p e =>
    simp only [e, Option.some.injEq]
    constructor
    · intro g
      split at g
      · next x => simp only [Bool.and_eq_true, decide_eq_true_eq, Bool.not_eq_eq_eq_not, Bool.not_true] at x
                  cases g; exact ⟨rfl, x⟩
      · cases g
    · rintro ⟨rfl, x, y⟩; rw [if_pos (by simp [-Fin.getElem_fin, x, y])]

theorem moves_enterFaulted (h : ∀ k, L k) (r : FaultReason) : Moves L s (enterFaulted k r s) := by
  have a : Moves L s _ := ((Move.lane s k (h k) fun r' => { r'.leaving with
    state := .faulted, faultReason := some r, lastResult := some .faulted, ctx := none }).one.tail
      (.load _ k (h k) Load.stepEnded)).trans (moves_releaseAll _ (h k))
  have b : ∀ t, Moves L s t → Moves L s (match partnerOf t k with
      | some p => haltLane p .partnerFault t
      | none => t) := by
    intro t m; split
    · exact m.trans (moves_haltLane _ (h _) _)
    · exact m
  have c := b _ a
  unfold enterFaulted; dsimp only; split
  · split
    · exact c.trans (moves_clearFaultLane _ (h k) _)
    · exact c
  · exact c

theorem moves_firmContact (h : L k) : Moves L s (firmContact k s) := by
  unfold firmContact; dsimp only; split
  · exact (((((((moves_note s h _).tail (.load _ k h _)).trans (moves_brake _ h _ _)).tail (.drive _ k h _)).trans
      (moves_updCtx _ h _)).tail (.lane _ k h _)).tail (.log ..))
  · exact .refl

theorem moves_reverseBlocked (h : ∀ k, L k) : Moves L s (reverseBlocked k s) := by
  unfold reverseBlocked; dsimp only
  exact ((moves_brake s (h k) _ _).trans (moves_enterFaulted _ h _)).tail (.log ..)

theorem moves_firmReported (h : ∀ k, L k) : Moves L s (firmReported k s) := by
  unfold firmReported; split
  · exact moves_firmContact s (h k)
  · exact moves_reverseBlocked s h
  · exact .refl

theorem moves_softReported (h : L k) : Moves L s (softReported k s) := by
  have a : Moves L s _ := (moves_note s h incSoftSeen).tail (.load _ k h fun x => { x with eligible := false })
  unfold softReported; split
  · dsimp only; split
    · exact a
    · split
      · exact a.trans (moves_enterStopping _ h _)
      · exact ((a.trans (moves_updCtx _ h _)).tail (.drive _ k h _)).trans (moves_evaluateDrive _ h)
  · exact moves_note s h _
  · exact moves_note s h _
  · exact .refl

theorem moves_stopConnected (a : Option ActId) :
    Moves L s (match a with
      | some a => driveStop a s
      | none => s) := by
  split
  · exact moves_driveStop s _
  · exact .refl

theorem moves_driveFault (h : ∀ k, L k) (dev : Option Int) : Moves L s (driveFault k dev s) := by
  have a : Moves L s _ := ((((Move.drive s k (h k) fun d => { d.opened with failed := true }).one.trans
    (moves_stopConnected _ s.drives[k].connected)).trans (moves_resumeSupplyTimer _)).tail
      (.log _ .driveFault (some k) s.drives[k].connected (s.drives[k].connected.map fun a => s.acts[a].position) dev
        s.lanes[k].arrangementId none))
  unfold driveFault; dsimp only; split
  · exact a.trans (moves_enterFaulted _ h _)
  · exact a.trans (moves_enterFaulted _ h _)
  · exact a

theorem moves_rampDuty (h : L k) (n : Nat) : Moves L s (rampDuty k n s) := by
  unfold rampDuty; exact moves_slow s h _ _

theorem moves_reportOutcome (h : ∀ k, L k) (o : LoadOutcome) : Moves L s (reportOutcome k o s) := by
  unfold reportOutcome; split
  · exact .refl
  · exact moves_softReported s (h k)
  · exact moves_firmReported s h

/-! ### Stalls and brake ends -/

theorem moves_gateEvent (h : ∀ k, L k) : Moves L s (gateEvent s) :=
  Moves.foldl (fun s k => moves_testGate s fun _ => h k) _

theorem moves_referenceAtLow (a : ActId) (h : ∀ k, L k) : Moves L s (referenceAtLow k a s) := by
  have m : Moves L s _ := (moves_updAct s a (fun x => { x with position := 0, referenced := true, manualPulses := 0 })
    (Nat.zero_le _) rfl).trans (moves_enterSettling _ (h k))
  unfold referenceAtLow; dsimp only; split
  · exact m
  · exact m.trans (moves_gateEvent _ h)

theorem moves_takeStall (a : ActId) (m : MotionKind) (h : ∀ k, L k) : Moves L s (takeStall k a m s) := by
  have r := moves_referenceAtLow s (k := k) a h
  have c : Moves L s (completeAtHigh k a s) := by
    unfold completeAtHigh
    exact (moves_updAct s a _ (Nat.zero_le _) rfl).trans (moves_enterSettling _ (h k))
  have t : ∀ p q : Bool, Moves L s (if p then referenceAtLow k a s else if q then completeAtHigh k a s
      else firmReported k s) := by
    intro p q; split
    · exact r
    · split
      · exact c
      · exact moves_firmReported s h
  cases m with
  | homing => exact r
  | learnHome => exact r
  | learnRise => exact (Move.load s k (h k) _).one.trans (moves_enterSettling _ (h k))
  | step => exact t _ _
  | correction => exact t _ _
  | learnReturn => exact t _ _
  | backOff => exact moves_firmReported s h

theorem moves_noteIf (h : L k) (b : Bool) (i : BitVec 7) : Moves L s (if b then note k i s else s) := by
  split
  · exact moves_note s h i
  · exact .refl

theorem moves_noteUnless (h : L k) (b : Prop) [Decidable b] (i : BitVec 7) :
    Moves L s (if b then s else note k i s) := by
  split
  · exact .refl
  · exact moves_note s h i

theorem moves_completeStep (h : L k) (o : Option PendingOrder) (c : StepCtx) : Moves L s (completeStep k o c s) := by
  have a : Moves L s _ := (Move.lane s k h fun r => { r with stepsCompleted := r.stepsCompleted + 1 }).one
  have dwell : ∀ t, Moves L t (updLane k (fun r => { r.leaving with
      state := .dwell, dwellTimer := some (c.step.dwell * 10) }) t) := fun t => (Move.lane t k h _).one
  unfold completeStep; dsimp only; split
  · exact a.trans (moves_enterIdle _ h _)
  · split
    · split
      · exact a.trans (moves_enterIdle _ h _)
      · split
        · exact a.trans ((moves_updCtx _ h _).trans (moves_enterPaused _ h _ _))
        · exact a.trans ((moves_updCtx _ h _).trans (dwell _))
    · next n _ =>
      have b := ((a.trans (moves_loadStep _ h (s.ram.steps[n]) (.stored n))).trans (moves_computeSweep _ h))
      have c := fun zs => b.trans (moves_release _ h zs)
      simp only [updLane_ram]
      split
      · exact (c _).trans (moves_enterPaused _ h _ _)
      · split
        · exact (c _).trans (dwell _)
        · split
          · exact (c _).trans (moves_enterWaitAdvance _ h)
          · exact (c _).trans (moves_claimAtNext _ h)

theorem moves_homingEnd (h : L k) (o : Option PendingOrder) (c : StepCtx) : Moves L s (homingEnd k o c s) := by
  have pre : ∀ (b : Bool) (f : StepCtx → StepCtx) (g : Load → Load),
      Moves L s (computeSweep k (updLoad k g (updCtx k f (if b then note k incClamped s else s)))) := fun b f g =>
    (((moves_noteIf s h b _).trans (moves_updCtx _ h f)).tail (.load _ k h g)).trans (moves_computeSweep _ h)
  unfold homingEnd; dsimp only; split
  · exact (pre _ _ _).trans (moves_enterIdle _ h _)
  · exact (pre _ _ _).trans (moves_enterPaused _ h _ _)
  · exact (pre _ _ _).trans (moves_claimAtNext _ h)

theorem moves_adapt (h : L k) (a : ActId) : Moves L s (adapt k a s) := by
  unfold adapt; dsimp only; split
  · split
    · exact (Move.load s k h _).one
    · exact (Move.write s a _).one.tail (.load _ k h _)
  · exact .refl

theorem moves_stepEnd (h : L k) (o : Option PendingOrder) (c : StepCtx) : Moves L s (stepEnd k o c s) := by
  have a : Moves L s (if c.motion = .step then adapt k c.act s else s) := by
    split
    · exact moves_adapt s h _
    · exact .refl
  unfold stepEnd; dsimp only
  generalize (if c.motion = .step then adapt k c.act s else s) = t at a ⊢
  refine a.trans ?_
  split
  · exact moves_completeStep _ h _ _
  · split
    · exact (moves_note _ h _).trans (moves_completeStep _ h _ _)
    · generalize meets _ (guardLostZones t) = g
      have b := moves_noteIf t h g incGuardLost
      generalize (if g = true then note k incGuardLost t else t) = u at b ⊢
      refine b.trans ?_
      split
      · split
        · exact (moves_updCtx _ h _).trans (moves_enterIdle _ h _)
        · exact (moves_updCtx _ h _).trans (moves_enterPaused _ h _ _)
        · exact (moves_updCtx _ h _).trans (moves_armingDecision _ h)
      · exact (moves_note _ h _).trans (moves_completeStep _ h _ _)

theorem moves_learnNext (h : L k) (o : Option PendingOrder) : Moves L s (learnNext k o s) := by
  unfold learnNext; split
  · exact moves_enterIdle _ h _
  · exact moves_enterPaused _ h _ _
  · exact moves_armingDecision _ h

/-- The end of the rise's SETTLING (R154): the record and the position are taken, then the return is planned. -/
theorem moves_storeLearned (h : L k) (a : ActId) (lr : LearnRec) (t : Nat) : Moves L s (storeLearned k a lr t s) := by
  have place : ∀ (u : State) (p : Nat), Moves L s u →
      Moves L s { u with acts := put u.acts a { u.acts[a] with position := p } } := fun u p m =>
    m.tail (.act u a { u.acts[a] with position := p } (le_refl _) rfl)
  have taken : ∀ (w : ActuatorRec → ActuatorRec) (b : Bool) (f : Flag),
      Moves L s (markIf b f (writeActuator a w s)) := fun w b f => (Move.write s a w).one.trans (moves_markIf _ b f)
  have planned : ∀ (g : Bool) (u : State) (f : StepCtx → StepCtx) (x : Load → Load), Moves L s u →
      Moves L s (updLoad k x (updCtx k f (if g then note k incClamped u else u))) := fun g u f x m =>
    ((m.trans (moves_noteIf u h g _)).trans (moves_updCtx _ h f)).tail (.load _ k h x)
  unfold storeLearned; extract_lets _ pos _ _ _ u _ v
  exact planned _ v _ _ (place u pos (taken _ _ _))

theorem moves_learnEnd (h : ∀ k, L k) (o : Option PendingOrder) (c : StepCtx) : Moves L s (learnEnd k o c s) := by
  unfold learnEnd; split
  · exact .refl
  · split
    · exact ((moves_updCtx s (h k) _).tail (.load _ k (h k) _)).trans (moves_learnNext _ (h k) _)
    · dsimp only; split
      · exact (moves_storeLearned s (h k) _ _ _).trans (moves_learnNext _ (h k) _)
      · exact (Move.log s ..).one.trans (moves_enterFaulted _ h _)
    · dsimp only
      have b := moves_noteUnless s (h k)
        (s.acts[c.act].position - c.pt + (c.pt - s.acts[c.act].position) ≤ tolerance) incOffTarget
      generalize (if s.acts[c.act].position - c.pt + (c.pt - s.acts[c.act].position) ≤ tolerance then s
        else note k incOffTarget s) = t at b ⊢
      have e := fun r => (b.tail (.lane t k (h k) fun x => { x with stepsCompleted := 1 })).trans
        (moves_enterIdle _ (h k) r)
      split
      · exact e _
      · exact e _

theorem moves_settlingEnd (h : ∀ k, L k) : Moves L s (settlingEnd k s) := by
  unfold settlingEnd; dsimp only; split
  · exact .refl
  · split
    · exact moves_homingEnd s (h k) _ _
    iterate 3 exact moves_stepEnd s (h k) _ _
    iterate 3 exact moves_learnEnd s h _ _

theorem moves_stoppingEnd (h : L k) : Moves L s (stoppingEnd k s) := by
  unfold stoppingEnd; split
  · exact moves_enterIdle s h _
  · exact moves_enterPaused s h _ _
  · exact moves_enterFenced s h
  · exact .refl

theorem moves_brakeEnd (h : ∀ k, L k) : Moves L s (brakeEnd k s) := by
  have cap : Moves L s (match s.drives[k].connected with
      | some a => capture a s
      | none => s) := by
    split
    · exact (Move.write s _ _).one
    · exact .refl
  have pre := (cap.trans (moves_openRelay _ (h k))).trans (moves_gateEvent _ h)
  have main : Moves L s (if s.lanes[k].state = .settling then settlingEnd k (gateEvent (openRelay k
      (match s.drives[k].connected with
        | some a => capture a s
        | none => s))) else stoppingEnd k (gateEvent (openRelay k
      (match s.drives[k].connected with
        | some a => capture a s
        | none => s)))) := by
    split
    · exact pre.trans (moves_settlingEnd _ h)
    · exact pre.trans (moves_stoppingEnd _ (h k))
  unfold brakeEnd; dsimp only; split
  · exact main
  · exact main
  · split
    · exact (moves_openRelay s (h k)).trans (moves_leaveFaulted _ (h k) _)
    · exact moves_openRelay s (h k)

theorem moves_reversalBrakeEnd (h : L k) : Moves L s (reversalBrakeEnd k s) := by
  unfold reversalBrakeEnd; dsimp only; split
  · split
    · unfold skipBackOff; exact (Move.drive s k h _).one.trans (moves_endBackOff _ h _)
    · unfold startBackOff; dsimp only
      exact (((moves_reportDriveStart s _ _).trans (moves_startChannel _ h _ _ _ _ _)).tail (.load _ k h _)).trans
        (moves_evaluateDrive _ h)
  · exact .refl

end
end Sys2Proof.Proofs
end

section
/-! The bounds of rings and counters over every step: elementary changes keep them, and so do the operations beside
them, on supply, channels, store and power. -/

namespace Sys2Proof.Proofs

open Sys2Proof Sys2Proof.Machine Sys2Proof.Safety

/-- No restriction on the lanes that a change reaches. -/
abbrev Anyone : LaneId → Prop := fun _ => True

/-- A ring keeps at most eight entries. -/
theorem length_pushRing_le {α : Type} {ring : List α} (x : α) (h : ring.length ≤ 8) : (pushRing ring x).length ≤ 8 := by
  simp only [pushRing, List.length_drop, List.length_append, List.length_singleton]; omega

/-- The bounds of rings and counters as one property, which carries the lemmas below. -/
def InBounds (s : State) : Prop := Bounded s

section
variable {L : LaneId → Prop} {s t : State}

/-- The bounds are about what `outer` keeps, but for the reseed count. -/
theorem InBounds.of_outer (b : InBounds s) (h : outer t = outer s)
    (hr : t.presence.reseedCount = s.presence.reseedCount) : InBounds t := by
  have e := surr_of_outer h
  simpa only [InBounds, Bounded, history_of_outer h, ram_of_surr e, store_of_surr e, lowRun_of_surr e, now_of_surr e,
    manualPulses_of_surr e, hr] using b

theorem InBounds.of_calm (b : InBounds s) (h : calm t = calm s)
    (hr : t.presence.reseedCount = s.presence.reseedCount) : InBounds t := b.of_outer (outer_of_calm h) hr

theorem InBounds.enterArming {k : LaneId} (b : InBounds s) : InBounds (enterArming k s) :=
  b.of_calm (by simp) enterArming_presence.2

theorem InBounds.act (b : InBounds s) {a : ActId} {x : ActRun} (h : x.manualPulses ≤ 50) :
    InBounds { s with acts := put s.acts a x } := by
  obtain ⟨h1, h2, h3, h4, h5, h6, h7, h8, h9, h10, h11⟩ := b
  refine ⟨h1, h2, h3, h4, h5, h6, h7, h8, h9, h10, fun c => ?_⟩
  show (put s.acts a x)[c].manualPulses ≤ 50
  rw [put_get]; split
  · exact h
  · exact h11 c

theorem InBounds.logWith (b : InBounds s) (copies : List HistEntry) (k : LogKind) (l : Option LaneId) (a : Option ActId)
    (p : Option Nat) (d : Option Int) (r : Option (Station × Byte)) (g : Option Group) :
    InBounds (logWith copies k l a p d r g s) := by
  obtain ⟨h1, h2, h3, h4, h5, h6, h7, h8, h9, h10, h11⟩ := b
  exact ⟨h1, length_pushRing_le _ h2, length_pushRing_le _ h3, Nat.min_le_left .., Nat.min_le_left .., h6, h7, h8, h9,
    h10, h11⟩

theorem InBounds.reply (b : InBounds s) (st : Station) (tag kind : Byte) (o : Option ReqObject) (v : Verdict)
    (ls : LaneSet) (x y : Bool) : InBounds (reply st tag kind o v ls x y s) := by
  have a : InBounds (if v = .accepted then Machine.activate s else s) := by
    split
    · exact b.of_calm (by simp) (by simp)
    · exact b
  obtain ⟨h1, h2, h3, h4, h5, h6, h7, h8, h9, h10, h11⟩ := a
  exact ⟨length_pushRing_le _ h1, h2, h3, h4, h5, h6, h7, h8, h9, h10, h11⟩

theorem Move.bounded (m : Move L s t) (b : InBounds s) : InBounds t := by
  cases m with
  | activate => exact b.of_calm (by simp) (by simp)
  | reply => exact b.reply ..
  | lane k _ f => exact b.of_calm (by simp) (by simp)
  | timer k _ x => exact b.of_calm (by simp) (by simp)
  | act a x hp _ => exact b.act (hp.trans (b.2.2.2.2.2.2.2.2.2.2 a))
  | bind k _ as => exact b.of_outer (by simp) (by simp)
  | unbind k _ => exact b.of_outer (by simp) (by simp)
  | grant e _ _ =>
    unfold Machine.grant; dsimp only
    exact InBounds.enterArming (by split <;> exact b)
  | suspend => exact b.of_calm (by simp) (suspendTune_reseedCount s)
  | log => exact b.logWith ..
  | _ => exact b

/-- Elementary changes keep every ring and counter within its bounds. -/
theorem Moves.bounded (m : Moves L s t) (b : InBounds s) : InBounds t := m.keep (fun _ _ => Move.bounded) b

/-! ### Supply, power and restarts -/

theorem InBounds.foldl {α : Type} {f : State → α → State} (h : ∀ s x, InBounds s → InBounds (f s x)) (xs : List α)
    (b : InBounds s) : InBounds (xs.foldl f s) := by
  induction xs generalizing s with
  | nil => exact b
  | cons x xs ih => exact ih (h s x b)

theorem moves_supplyLow (s : State) : Moves Anyone s (allLanes.foldl supplyLowOnset s) :=
  Moves.foldl (fun s _ => moves_supplyLowOnset s fun _ => trivial) _

theorem InBounds.supply (b : InBounds s) {x : Supply} (h : x.lowRun ≤ 10) : InBounds { s with supply := x } := by
  obtain ⟨h1, h2, h3, h4, h5, h6, h7, h8, -, h10, h11⟩ := b
  exact ⟨h1, h2, h3, h4, h5, h6, h7, h8, h, h10, h11⟩

theorem InBounds.measure (b : InBounds s) (mv : Nat) : InBounds (measure mv s) := by
  unfold Machine.measure; dsimp only; split
  · have n : min lowRunLimit (s.supply.lowRun + 1) ≤ 10 := Nat.min_le_left ..
    split
    · exact (moves_supplyLow _).bounded ((moves_mark (L := Anyone) _ _).bounded (b.supply n))
    · exact b.supply n
  · exact (moves_markIf (L := Anyone) _ _ _).bounded (b.supply (Nat.zero_le _))

theorem InBounds.restartPart (b : InBounds s) (c : Cause) : InBounds (restartPart c s) := by
  have v : InBounds (restartValues s) := by
    obtain ⟨-, h2, h3, h4, h5, h6, h7, -⟩ := b
    refine ⟨Nat.zero_le _, h2, h3, h4, h5, h6, h7, Nat.zero_le _, Nat.zero_le _,
      Nat.two_pow_pos 32, fun a => ?_⟩
    simp only [restartValues, tab_get]; exact Nat.zero_le _
  unfold Machine.restartPart; dsimp only; split
  · exact v
  · have m : InBounds (Machine.measure (restartValues s).supply.pin { restartValues s with startUp := .loading c }) :=
      InBounds.measure (s := { restartValues s with startUp := .loading c }) v _
    exact m.supply m.2.2.2.2.2.2.2.2.1

theorem InBounds.wake (b : InBounds s) : InBounds (wake s) := by
  unfold Machine.wake; dsimp only
  generalize hu : mark .general _ = u
  have v : InBounds u := by
    rw [← hu]
    obtain ⟨h1, h2, h3, h4, h5, h6, h7, h8, -, h10, h11⟩ := b
    exact ⟨h1, h2, h3, h4, h5, h6, h7, h8, Nat.zero_le _, h10, h11⟩
  split
  · exact v.restartPart _
  · exact (v.measure _).supply (v.measure _).2.2.2.2.2.2.2.2.1

theorem InBounds.sleepEntry (b : InBounds s) : InBounds (sleepEntry s) := b

theorem InBounds.requestSleep (b : InBounds s) : InBounds (requestSleep s) := by
  unfold Machine.requestSleep; (repeat' split) <;> exact b

theorem InBounds.sleepIfWaiting (b : InBounds s) : InBounds (sleepIfWaiting s) := by
  unfold Machine.sleepIfWaiting; split <;> exact b

theorem InBounds.markIf (b : InBounds s) (x : Bool) (f : Flag) : InBounds (markIf x f s) :=
  (moves_markIf (L := Anyone) s x f).bounded b

theorem InBounds.interlockEvent (b : InBounds s) (x : Bool) : InBounds (interlockEvent x s) := by
  have lost : InBounds (allLanes.foldl interlockLost s) :=
    (Moves.foldl (L := Anyone) (fun s _ => moves_interlockLost s fun _ => trivial) _).bounded b
  unfold Machine.interlockEvent; dsimp only; split
  · exact lost.markIf _ _
  · exact b.markIf _ _

theorem InBounds.takeVehicleState (b : InBounds s) (v : VehicleState) : InBounds (takeVehicleState v s) := by
  unfold Machine.takeVehicleState; dsimp only
  generalize hu : Machine.interlockEvent _ _ = u
  have e : InBounds u := by subst hu; exact InBounds.interlockEvent (by exact b) _
  have f : InBounds (if 5 < v.speed && !u.vehicle.freeze then
      mark .general { u with vehicle := { u.vehicle with freeze := true } } else u) := by split <;> exact e
  split
  · exact f.requestSleep
  · exact f

theorem InBounds.enterDoze (b : InBounds s) : InBounds (enterDoze s) := by
  unfold Machine.enterDoze; dsimp only; split
  · exact InBounds.requestSleep b
  · exact b

/-! ### The settings store and the service operations -/

theorem InBounds.loadStore (b : InBounds s) (fails : Group → Bool) : InBounds (loadStore fails s) := by
  have st : ∀ (gs : List Group) (t : Settings), t.log.length ≤ 8 → t.lifetime ≤ 65535 → t.restartCount ≤ 65535 →
      let u := gs.foldl (fun t g => if fails g then t.takeGroup g factorySettings else t) t
      u.log.length ≤ 8 ∧ u.lifetime ≤ 65535 ∧ u.restartCount ≤ 65535 := by
    intro gs
    induction gs with
    | nil => exact fun t h1 h2 h3 => ⟨h1, h2, h3⟩
    | cons g gs ih =>
      intro t h1 h2 h3
      rw [List.foldl_cons]
      split
      · cases g with
        | counters => exact ih _ h1 (Nat.zero_le _) (Nat.zero_le _)
        | faultLog => exact ih _ (Nat.zero_le _) h2 h3
        | _ => exact ih _ h1 h2 h3
      · exact ih _ h1 h2 h3
  obtain ⟨h1, -, h3, -, h5, -, h7, h8, h9, h10, h11⟩ := b
  obtain ⟨g1, g2, g3⟩ := st allGroups s.store h3 h5 h7
  refine ⟨h1, g1, g1, g2, g2, g3, g3, Nat.zero_le _, h9, h10, fun a => ?_⟩
  simp only [Machine.loadStore, tab_get]; exact Nat.zero_le _

theorem InBounds.countRestart (b : InBounds s) (c : Cause) (fails : Group → Bool) : InBounds (countRestart c fails s) := by
  unfold Machine.countRestart; dsimp only
  refine InBounds.foldl (fun s g b => ?_) _ ?_
  · split
    · exact b.logWith ..
    · exact b
  · obtain ⟨h1, h2, h3, h4, h5, -, -, h8, h9, h10, h11⟩ := b
    exact ⟨h1, h2, h3, h4, h5, Nat.min_le_left .., Nat.min_le_left .., h8, h9, h10, h11⟩

/-- The settings that a write changes: never the log or a counter (R200). -/
theorem writeOf_keeps {f : FieldRef} {v : Nat} {g : Group} {w : Settings → Settings} (h : writeOf f v = some (g, w))
    (t : Settings) : (w t).log = t.log ∧ (w t).lifetime = t.lifetime ∧ (w t).restartCount = t.restartCount := by
  cases f <;> simp only [writeOf, Option.map_eq_some_iff, Prod.mk.injEq, reduceCtorEq] at h
  all_goals (obtain ⟨_, -, -, rfl⟩ := h; exact ⟨rfl, rfl, rfl⟩)

theorem InBounds.beginSeeding (b : InBounds s) (c : ChanId) : InBounds (beginSeeding c s) := b.of_calm (by simp) (by
  unfold Machine.beginSeeding; dsimp only; split
  · split <;> rfl
  · rfl)

theorem InBounds.driftTest (b : InBounds s) (c : ChanId) : InBounds (driftTest c s) := b.of_calm (by simp) (by
  unfold Machine.driftTest; dsimp only; (repeat' split) <;> rfl)

theorem InBounds.setGuardLost (b : InBounds s) (c : ChanId) (x : Bool) : InBounds (setGuardLost c x s) :=
  b.of_calm (by simp) (by simp)

theorem InBounds.fenceEvent (b : InBounds s) (v w : FenceView) : InBounds (fenceEvent v w s) :=
  (moves_fenceEvent (L := Anyone) s v w fun _ _ => trivial).bounded b

theorem InBounds.handOn (b : InBounds s) (v : FenceView) (c : ChanId) : InBounds (handOn v c s) :=
  (moves_handOn (L := Anyone) s v c fun _ _ => trivial).bounded b

theorem InBounds.handOnAll (b : InBounds s) (v : FenceView) (cs : List ChanId) : InBounds (handOnAll v cs s) :=
  (moves_handOnAll s v cs).bounded b

theorem InBounds.tryTune (b : InBounds s) : InBounds (tryTune s) := (moves_tryTune (L := Anyone) s).bounded b

theorem InBounds.finish (b : InBounds s) : InBounds (finish s) :=
  (moves_finish (L := Anyone) s fun _ _ _ _ => trivial).bounded b

theorem InBounds.unreference (b : InBounds s) (a : ActId) (n : Nat) : InBounds (unreference a n s) := by
  have p : ∀ q : Nat, InBounds { s with acts := put s.acts a { s.acts[a] with position := q, referenced := false } } :=
    fun q => b.act (b.2.2.2.2.2.2.2.2.2.2 a)
  unfold Machine.unreference; dsimp only
  refine (moves_gateEvent (L := Anyone) _ fun _ => trivial).bounded (.markIf (.markIf ?_ _ _) _ _)
  exact (Move.write (L := Anyone) _ a _).bounded (p _)

theorem InBounds.writeConsequences (b : InBounds s) (u : State) (f : FieldRef) : InBounds (writeConsequences u f s) := by
  unfold Machine.writeConsequences; split
  · exact b.unreference ..
  · exact b.unreference ..
  · exact b.fenceEvent ..
  · exact ((b.setGuardLost _ _).beginSeeding _).handOn _ _
  · exact b.driftTest _
  · exact b

theorem InBounds.completeWrite (b : InBounds s) (tag : Byte) (f : FieldRef) (v : BitVec 16) :
    InBounds (completeWrite tag f v s) := by
  unfold Machine.completeWrite; dsimp only; split
  · exact InBounds.sleepIfWaiting b
  · split
    · exact InBounds.sleepIfWaiting b
    · next g w h =>
      refine (InBounds.writeConsequences ?_ _ _).tryTune.sleepIfWaiting
      obtain ⟨h1, h2, h3, h4, h5, h6, h7, hs⟩ := b
      obtain ⟨r1, r2, r3⟩ := writeOf_keeps h s.ram
      obtain ⟨q1, q2, q3⟩ := writeOf_keeps h s.store
      exact ⟨h1, r1 ▸ h2, q1 ▸ h3, r2 ▸ h4, q2 ▸ h5, r3 ▸ h6, q3 ▸ h7, hs⟩

theorem InBounds.completeClearLog (b : InBounds s) (tag : Byte) : InBounds (completeClearLog tag s) := by
  unfold Machine.completeClearLog; dsimp only; split
  · exact InBounds.sleepIfWaiting b
  · refine InBounds.sleepIfWaiting ?_
    obtain ⟨h1, -, -, hs⟩ := b
    exact ⟨h1, Nat.zero_le _, Nat.zero_le _, hs⟩

theorem InBounds.completeFactoryProfile (b : InBounds s) (tag : Byte) (a : ActId) :
    InBounds (completeFactoryProfile tag a s) := by
  unfold Machine.completeFactoryProfile; dsimp only; split <;> exact InBounds.sleepIfWaiting b

/-! ### Requests and service frames -/

theorem InBounds.refuse (b : InBounds s) (st : Station) (tag kind : Byte) (o : Option ReqObject) (v : Verdict) :
    InBounds (refuse st tag kind o v s) := b.reply ..

theorem InBounds.accept (b : InBounds s) (st : Station) (tag : Byte) (run : RunReq) (ts : List Track) :
    InBounds (accept st tag run ts s) := (moves_accept (L := Anyone) s (fun _ _ => trivial) st tag run ts).bounded b

theorem InBounds.preempt (b : InBounds s) (st : Station) (tag : Byte) (run : RunReq) (acts : ActSet) :
    InBounds (preempt st tag run acts s) :=
  (moves_preempt (L := Anyone) s st tag run acts fun _ _ => trivial).bounded b

theorem InBounds.deliver (b : InBounds s) {f : LaneId → State → State} (h : ∀ k s, Moves Anyone s (f k s))
    (ls : LaneSet) : InBounds (deliver f ls s) :=
  (moves_deliver s f ls fun k s _ => h k s).bounded b

theorem InBounds.serveRun (b : InBounds s) (st : Station) (kind : Byte) (body : List Byte) :
    InBounds (serveRun st kind body s) := by
  unfold Machine.serveRun; split
  · exact b.refuse ..
  · dsimp only; split
    · exact b.refuse ..
    · split
      · exact (b.preempt ..).finish
      · exact b.refuse ..
    · exact (b.accept ..).tryTune

theorem InBounds.serveHalt (b : InBounds s) (st : Station) (body : List Byte) : InBounds (serveHalt st body s) := by
  have d : ∀ (drops : Bool) (ls : LaneSet), InBounds (Machine.deliver (fun l => haltLane l .halted) ls
      (if drops then supersede s else s)) := by
    intro drops ls
    refine InBounds.deliver ?_ (fun k s => moves_haltLane s trivial _) ls
    split
    · exact (moves_supersede (L := Anyone) s).bounded b
    · exact b
  unfold Machine.serveHalt; dsimp only; split
  · exact b.refuse ..
  · split
    · exact b.refuse ..
    · split
      · exact ((d _ _).reply ..).tryTune
      · exact (d _ _).refuse ..

theorem InBounds.serveResume (b : InBounds s) (st : Station) (body : List Byte) : InBounds (serveResume st body s) := by
  unfold Machine.serveResume; dsimp only; (repeat' split)
  iterate 5 exact b.refuse ..
  exact ((b.reply ..).deliver (fun k s => moves_resumeLane s trivial) _).finish

theorem InBounds.serveCancel (b : InBounds s) (st : Station) (body : List Byte) : InBounds (serveCancel st body s) := by
  unfold Machine.serveCancel; dsimp only; (repeat' split)
  iterate 3 exact b.refuse ..
  exact ((b.reply ..).deliver (fun k s => moves_cancelLane s trivial _) _).finish

theorem InBounds.serveClearFault (b : InBounds s) (st : Station) (body : List Byte) :
    InBounds (serveClearFault st body s) := by
  unfold Machine.serveClearFault; dsimp only; (repeat' split)
  iterate 3 exact b.refuse ..
  exact ((b.reply ..).deliver (fun k s => moves_clearFaultLane s trivial _) _).finish

theorem InBounds.serveAckRestart (b : InBounds s) (st : Station) (body : List Byte) :
    InBounds (serveAckRestart st body s) := by
  unfold Machine.serveAckRestart; dsimp only; (repeat' split)
  iterate 3 exact b.refuse ..
  exact InBounds.reply (s := mark .general { s with power := { s.power with notice := none } }) b ..

theorem InBounds.serveHold (b : InBounds s) (st : Station) (body : List Byte) : InBounds (serveHold st body s) := by
  unfold Machine.serveHold; dsimp only; (repeat' split)
  · exact b
  · exact (b.deliver (fun k s => moves_holdLane s trivial) _).tryTune
  · exact b

theorem InBounds.serveUnknown (b : InBounds s) (st : Station) (kind : Byte) (body : List Byte) :
    InBounds (serveUnknown st kind body s) := b.refuse ..

theorem InBounds.serveRequest (b : InBounds s) (st : Station) (kind : Byte) (body : List Byte) :
    InBounds (serveRequest st kind body s) := by
  unfold Machine.serveRequest; (repeat' split)
  · exact b.serveRun ..
  · exact b.serveHold ..
  · exact b.serveHalt ..
  · exact b.serveResume ..
  · exact b.serveCancel ..
  · exact b.serveClearFault ..
  · exact b.serveAckRestart ..
  · exact b.serveUnknown ..

/-- A received request keeps the bounds when serving it does. -/
theorem InBounds.receiveRequest (b : InBounds s) (st : Station) (kind : Byte) (body : List Byte)
    {serve : State → State} (h : ∀ s, InBounds s → InBounds (serve s)) :
    InBounds (receiveRequest st kind body serve s) := by
  unfold Machine.receiveRequest; dsimp only; split
  · split <;> exact b.wake
  · split
    · exact h _ b
    · exact InBounds.refuse (s := busTraffic s) b ..

theorem InBounds.serveService (b : InBounds s) (op : Byte) (body : List Byte) : InBounds (serveService op body s) := by
  have restart : InBounds (serveRestart body s) := by
    unfold Machine.serveRestart; dsimp only; split
    · exact b
    · exact InBounds.restartPart (s := serviceAnswer _ _ _ s) b _
  unfold Machine.serveService; (repeat' split)
  · unfold serveRead; dsimp only; (repeat' split) <;> exact b
  · unfold serveWrite; dsimp only; (repeat' split) <;> exact b
  · unfold serveClearLog; dsimp only; (repeat' split) <;> exact b
  · unfold serveFactoryProfile; dsimp only; (repeat' split) <;> exact b
  · exact restart
  · exact b

theorem InBounds.receiveService (b : InBounds s) (op : Byte) (body : List Byte) {serve : State → State}
    (h : ∀ s, InBounds s → InBounds (serve s)) : InBounds (receiveService op body serve s) := by
  unfold Machine.receiveService; dsimp only; split
  · split <;> exact b.wake
  · split
    · exact h _ b
    · exact b

/-! ### Presence events -/

theorem InBounds.seedAll (b : InBounds s) (v : FenceView) : InBounds (seedAll v s) :=
  InBounds.handOnAll (InBounds.foldl (fun _ c b => b.beginSeeding c) _ (by exact b)) _ _

theorem InBounds.sampleRound (b : InBounds s) (counts : Vector (BitVec 16) 12) : InBounds (sampleRound counts s) := by
  unfold Machine.sampleRound; dsimp only
  refine InBounds.handOnAll (InBounds.foldl (fun s c b => ?_) _ (by exact b)) _ _
  unfold workChannel; dsimp only; split
  · exact b
  · exact b
  iterate 3 exact InBounds.driftTest (s := updChan c _ s) b c

theorem InBounds.tuneFailure (b : InBounds s) (c : ChanId) : InBounds (tuneFailure c s) :=
  (InBounds.beginSeeding (InBounds.setGuardLost (by exact b) _ _) _).handOn _ _

theorem InBounds.tuneSuccess (b : InBounds s) (c : ChanId) (g n : Nat) : InBounds (tuneSuccess c g n s) :=
  (InBounds.driftTest (InBounds.setGuardLost (by exact b) _ _) _).handOn _ _

theorem InBounds.trialEnd (b : InBounds s) (k : Tune) : InBounds (trialEnd k s) := by
  unfold Machine.trialEnd; dsimp only; split
  · exact b
  · split
    · split
      · exact b.tuneSuccess ..
      · exact b.tuneFailure _
    · exact b.tuneFailure _

theorem InBounds.reseed (b : InBounds s) (c : ChanId) : InBounds (reseed c s) := by
  refine InBounds.handOn ?_ _ _
  obtain ⟨h1, h2, h3, h4, h5, h6, h7, -, h9, h10, h11⟩ := b
  exact ⟨h1, h2, h3, h4, h5, h6, h7, Nat.le_of_lt_succ (Nat.mod_lt _ (by decide)), h9, h10, h11⟩

/-! ### Every command -/

theorem InBounds.manualPulse (b : InBounds s) (a : ActId) : InBounds (manualPulse a s) := by
  have up : ∀ f : ActRun → ActRun, (f s.acts[a]).manualPulses ≤ 50 → InBounds (updAct a f s) := fun f h => by
    unfold updAct; exact InBounds.markIf (InBounds.markIf (b.act h) _ _) _ _
  unfold Machine.manualPulse; dsimp only; split
  · exact b
  · next g =>
    have one := up (fun x => { x with manualPulses := x.manualPulses + 1 })
      (by have : ¬ 50 ≤ s.acts[a].manualPulses := g; show s.acts[a].manualPulses + 1 ≤ 50; omega)
    split
    · refine (moves_gateEvent (L := Anyone) _ fun _ => trivial).bounded
        ((Move.write (L := Anyone) _ a _).bounded ((moves_updAct (L := Anyone) _ a _ (le_refl _) rfl).bounded one))
    · exact one

theorem InBounds.takeSample (b : InBounds s) (l : LaneId) (a : ActId) (k : MotionKind) (i mv : Nat) :
    InBounds (takeSample l a k i mv s) := by
  have m : ∀ (x : Load) (n : Nat), InBounds (updLoad l (fun _ => x) (updDrive l (fun d =>
      { d with saturation := n }) s)) := fun _ _ => b
  unfold Machine.takeSample; dsimp only
  generalize (if min fullScale i = fullScale then s.drives[l].saturation + 1 else 0) = n
  split
  · exact ((moves_driveFault (L := Anyone) _ (fun _ => trivial) _).bounded (m _ _)).measure _
  · exact ((moves_rampDuty (L := Anyone) _ trivial _).bounded
      ((moves_reportOutcome (L := Anyone) _ (fun _ => trivial) _).bounded (m _ _))).measure _

theorem InBounds.sendFrame (b : InBounds s) (p : Place) (f : Frame) : InBounds (sendFrame p f s) := b

theorem InBounds.sendMarked (b : InBounds s) (r : Reporter) : InBounds (sendMarked r s) := by
  have lanes : InBounds (allLanes.foldl (fun s l => if has r.lanes l then sendLane s l else s) s) := by
    refine InBounds.foldl (fun s x b => ?_) _ b
    split
    · exact (b.sendFrame _ _).sendFrame _ _
    · exact b
  have one : ∀ {u : State} (c : Bool) (p : Place) (f : Frame), InBounds u →
      InBounds (if c then Machine.sendFrame p f u else u) := by
    intro u c p f b; split
    · exact b.sendFrame _ _
    · exact b
  have three := fun f g => one r.sets .sets f (one r.positions .positions g lanes)
  unfold Machine.sendMarked; dsimp only; split
  · exact ((three _ _).sendFrame _ _).sendFrame _ _
  · exact three _ _

theorem InBounds.passTime (b : InBounds s) (ms : Nat) : InBounds (passTime ms s) := by
  obtain ⟨h1, h2, h3, h4, h5, h6, h7, h8, h9, -, h11⟩ := b
  refine ⟨h1, h2, h3, h4, h5, h6, h7, h8, h9, Nat.mod_lt _ (Nat.two_pow_pos 32), fun a => ?_⟩
  simp only [Machine.passTime, tab_get]; exact h11 a


/-- The commands of the outside's frames (chapters 3 and 10). -/
theorem InBounds.exec (b : InBounds s) (i : Instr) (h : exec i s = .next t) : InBounds t := by
  cases i with
  | runRecipe st body => cases h; exact b.receiveRequest _ _ _ fun _ b => b.serveRun ..
  | runStep st body => cases h; exact b.receiveRequest _ _ _ fun _ b => b.serveRun ..
  | learn st body => cases h; exact b.receiveRequest _ _ _ fun _ b => b.serveRun ..
  | hold st body =>
    cases h; split
    · exact b.wake
    · dsimp only; split
      · exact InBounds.serveHold (s := busTraffic s) b ..
      · exact b
  | halt st body => cases h; exact b.receiveRequest _ _ _ fun _ b => b.serveHalt ..
  | resume st body => cases h; exact b.receiveRequest _ _ _ fun _ b => b.serveResume ..
  | cancel st body => cases h; exact b.receiveRequest _ _ _ fun _ b => b.serveCancel ..
  | clearFault st body => cases h; exact b.receiveRequest _ _ _ fun _ b => b.serveClearFault ..
  | ackRestart st body => cases h; exact b.receiveRequest _ _ _ fun _ b => b.serveAckRestart ..
  | unknownKindRequest st kind body =>
    simp only [Machine.exec, execUnknownKindRequest] at h; split at h
    · cases h
    · cases h; exact b.receiveRequest _ _ _ fun _ b => b.serveUnknown ..
  | discardedFrame ident data =>
    simp only [Machine.exec, execDiscardedFrame] at h; split at h
    · cases h; split
      · exact b.wake
      · exact b
    · cases h
  | vehicleState data =>
    cases h; split
    · exact b.wake
    · dsimp only; split
      · exact b
      · exact InBounds.takeVehicleState (s := busTraffic s) b _
  | readField body => cases h; exact b.receiveService _ _ fun _ b => b.serveService opRead _
  | writeField body => cases h; exact b.receiveService _ _ fun _ b => b.serveService opWrite _
  | clearLog body => cases h; exact b.receiveService _ _ fun _ b => b.serveService opClearLog _
  | factoryProfile body => cases h; exact b.receiveService _ _ fun _ b => b.serveService opFactoryProfile _
  | restart body => cases h; exact b.receiveService _ _ fun _ b => b.serveService opRestart _
  | unknownServiceOperation data =>
    simp only [Machine.exec, execUnknownServiceOperation] at h; split at h
    · cases h
    · split at h
      · cases h; exact b.receiveService _ _ fun _ b => b
      · cases h
  | serviceWriteCompletion =>
    simp only [Machine.exec, execServiceWriteCompletion] at h; split at h <;> cases h
    · exact b.completeWrite ..
    · exact b
  | clearLogCompletion =>
    simp only [Machine.exec, execClearLogCompletion] at h; split at h <;> cases h
    · exact b.completeClearLog _
    · exact b
  | factoryProfileCompletion =>
    simp only [Machine.exec, execFactoryProfileCompletion] at h; split at h <;> cases h
    · exact b.completeFactoryProfile ..
    · exact b
  | powerOn mv =>
    simp only [Machine.exec, execPowerOn] at h; split at h <;> cases h
    exact InBounds.restartPart (by exact b) _
  | brownout mv =>
    simp only [Machine.exec, execBrownout] at h; split at h <;> cases h
    exact InBounds.restartPart (by exact b) _
  | resetLine => cases h; exact b.restartPart _
  | brownoutRecovery mv =>
    simp only [Machine.exec, execBrownoutRecovery] at h; split at h <;> cases h
    split
    · exact InBounds.restartPart (by exact b) _
    · exact b
  | wakeLine =>
    cases h; split
    · exact b.wake
    · exact b
  | storeCheckComplete damaged =>
    cases h; split
    · exact InBounds.seedAll (by exact (b.loadStore _).countRestart _ _) _
    · exact b
  | wakeStartUpComplete =>
    have held : InBounds (serveHeldService (serveHeldRequest (setReady s))) := by
      have r : InBounds (serveHeldRequest (setReady s)) := by
        unfold serveHeldRequest; split
        · exact b
        · dsimp only; split
          · exact b
          · exact InBounds.serveRequest (by exact b) ..
      unfold serveHeldService; split
      · exact r
      · dsimp only; split
        · exact r
        · exact InBounds.serveService (by exact r) ..
    cases h; split
    · dsimp only; split
      · exact (held.seedAll _).tryTune
      · exact held
    · exact b
  | hallPulse a =>
    cases h; split
    · exact b
    · exact b
    all_goals
      split
      · exact ((moves_countPulse (L := Anyone) s a fun _ => trivial).bounded b).tryTune
      · exact ((moves_countPulse (L := Anyone) s a fun _ => trivial).bounded b).tryTune
      · exact b.manualPulse a
  | loadSample l reading mv =>
    cases h; dsimp only; split
    · split
      · exact (b.takeSample ..).finish
      · exact b
    · exact b
  | blankingEnd l => cases h; dsimp only; split <;> exact b
  | stall l =>
    cases h; dsimp only; split
    · split
      · exact ((moves_takeStall (L := Anyone) s _ _ fun _ => trivial).bounded b).finish
      · exact b
    · exact b
  | relayMade l =>
    cases h; split
    · exact ((moves_armingEnd (L := Anyone) _ trivial).bounded (by exact b)).tryTune
    · exact b
  | brakeEnd l =>
    cases h; dsimp only; split
    · exact ((moves_brakeEnd (L := Anyone) s fun _ => trivial).bounded b).finish
    · exact b
  | reversalBrakeEnd l =>
    cases h; dsimp only; split
    · exact ((moves_reversalBrakeEnd (L := Anyone) s trivial).bounded b).tryTune
    · exact b
  | runOnEnd a =>
    cases h; split
    · exact (moves_updAct (L := Anyone) s a _ (le_refl _) rfl).bounded b
    · exact b
  | gateTimerExpiry l =>
    cases h; split
    · exact (moves_enterPaused (L := Anyone) s trivial _ _).bounded b
    · exact b
  | claimTimerExpiry l =>
    cases h; split
    · exact ((moves_enterPaused (L := Anyone) _ trivial _ _).bounded (by exact b)).tryTune
    · exact b
  | dwellTimerExpiry l =>
    cases h; split
    · exact ((moves_afterDwell (L := Anyone) s trivial).bounded b).finish
    · exact b
  | pauseTimerExpiry l =>
    cases h; split
    · exact ((moves_enterIdle (L := Anyone) s trivial _).bounded b).finish
    · exact b
  | holdLapse l =>
    have a := fun f => (Move.lane (L := Anyone) s l trivial f).bounded b
    cases h; dsimp only; split
    · split
      · exact (moves_enterStopping (L := Anyone) _ trivial _).bounded (a _)
      · exact a _
    · exact b
  | clearTimerExpiry l =>
    cases h; dsimp only; split
    · split
      · exact (moves_enterPaused (L := Anyone) s trivial _ _).bounded b
      · exact ((moves_armingDecision (L := Anyone) s trivial).bounded b).tryTune
    · exact b
  | totalTimerExpiry l =>
    cases h; split
    · exact (moves_enterPaused (L := Anyone) s trivial _ _).bounded b
    · exact b
  | yieldTimerExpiry l =>
    cases h; split
    · exact b
    · split
      · refine InBounds.tryTune ?_
        exact (moves_rescanned (L := Anyone) _ _).bounded ((moves_yieldTest (L := Anyone) _ _).bounded (by exact b))
      · exact b
  | haltTimeout c =>
    cases h; split
    · exact (b.reseed c).tryTune
    · exact b
  | driftTimerExpiry c =>
    cases h; split
    · exact InBounds.tryTune (by exact b)
    · exact b
  | freshnessTimerExpiry =>
    cases h; split
    · exact InBounds.interlockEvent (by exact b) _
    · exact b
  | dozeTimerExpiry =>
    cases h; split
    · exact b.enterDoze
    · exact b
  | silenceTimerExpiry =>
    cases h; split
    · exact InBounds.requestSleep (by exact b)
    · exact b
  | supplyMeasurement mv =>
    cases h; split
    · exact (b.measure mv).supply (b.measure mv).2.2.2.2.2.2.2.2.1
    · exact b
  | presenceSampleRound counts =>
    cases h; split
    · exact (b.sampleRound counts).tryTune
    · exact b
  | seedingEnd c =>
    cases h; split
    · exact ((InBounds.driftTest (by exact b) c).handOn _ c).tryTune
    · exact b
  | tuneTrialEnd =>
    cases h; split
    · exact b
    · split
      · exact (b.trialEnd _).tryTune
      · exact b
  | coalescingTimerExpiry =>
    cases h; split
    · dsimp only; split
      · exact InBounds.sendMarked (by exact b) _
      · exact b
    · exact b
  | periodTimerExpiry =>
    cases h; split
    · dsimp only; split
      · exact InBounds.sendMarked (by exact b) _
      · exact b
    · exact b

/-- Settles O55: every command and every passing of time is made of changes that keep the bounds. -/
theorem ringsAndCountersStayBounded : Obligations.RingsAndCountersStayBounded := by
  intro s t b h
  unfold step at h; split at h
  · cases h; exact InBounds.passTime b _
  · next c rest _ => exact InBounds.exec (s := { s with pending := rest }) b c h

end
end Sys2Proof.Proofs
end

section
/-! Targets and sweep sets (R12 to R14). -/

namespace Sys2Proof.Proofs

open Sys2Proof Sys2Proof.Machine Sys2Proof.Safety

/-- A quarter of the sweep map counts when it is touched (R14). -/
theorem has_quarterUnion (r : ActuatorRec) (p : Fin 4 → Bool) (z : ZoneId) :
    has (quarterUnion r p) z = true ↔ ∃ q : Fin 4, p q = true ∧ has r.sweep[q] z = true := by
  have one : ∀ (b : Bool) (x : ZoneSet), has (if b then x else 0#12) z = true ↔ b = true ∧ has x z = true := by
    intro b x; cases b <;> simp
  simp only [quarterUnion, has_or, Bool.or_eq_true, one]
  constructor
  · rintro (((h | h) | h) | h) <;> exact ⟨_, h⟩
  · rintro ⟨q, h⟩
    match q with
    | 0 => exact .inl (.inl (.inl h))
    | 1 => exact .inl (.inl (.inr h))
    | 2 => exact .inl (.inr h)
    | 3 => exact .inr h

/-- A quarter of a travel of at least 200 is touched exactly when it contains a position of the span: the quarter's
first position or the span's, whichever is the higher (R13). -/
theorem quarterTouched_iff {T lo hi : Nat} (hT : 200 ≤ T) (hlo : lo ≤ hi) (hhi : hi ≤ T) (q : Fin 4) :
    quarterTouched T lo hi q = true ↔
      ∃ p, lo ≤ p ∧ p ≤ hi ∧ q.val * T / 4 ≤ p ∧ (q.val < 3 → p < (q.val + 1) * T / 4) := by
  have hq : q.val ≤ 3 := Nat.le_of_lt_succ q.isLt
  have next : q.val * T / 4 < (q.val + 1) * T / 4 := by rw [Nat.add_mul]; omega
  have top : q.val * T / 4 ≤ T := by
    have := Nat.mul_le_mul_right T hq; omega
  simp only [quarterTouched, Bool.and_eq_true, decide_eq_true_eq]
  constructor
  · rintro ⟨h1, h2⟩
    refine ⟨max lo (q.val * T / 4), le_max_left .., max_le hlo h1, le_max_right .., fun h => ?_⟩
    rw [if_neg (by omega)] at h2
    exact max_lt (by simpa using h2) next
  · rintro ⟨p, h1, h2, h3, h4⟩
    refine ⟨h3.trans h2, ?_⟩
    split
    · simp only [decide_eq_true_eq]; omega
    · next h => simp only [decide_eq_true_eq]; have := h4 (by omega); omega

/-- Settles O50: the table of R12 branch by branch, and the sweep set by the quarters that the clamped span touches. -/
theorem targetsResolveAndSweepsCoverTheSpan : Obligations.TargetsResolveAndSweepsCoverTheSpan := by
  refine ⟨fun T n hT => ⟨rfl, rfl, ?_, ?_, ?_, ?_⟩, fun r p0 pt z hT h0 ht => ?_⟩
  · intro h; simp [resolve, endWindow, h]
  · intro h1 h2
    rw [resolve, if_neg (by simpa [endWindow] using h1), if_neg (by omega),
      if_neg (by simp only [endWindow]; omega)]
  · intro h1 h2
    rw [resolve, if_neg (by simp only [endWindow]; omega), if_neg (by omega), if_pos (by simpa [endWindow] using h1)]
  · intro h; rw [resolve, if_neg (by simp only [endWindow]; omega), if_pos h]
  · have lo : min p0 pt - 24 ≤ min (max p0 pt + 24) r.travel := by omega
    rw [spanSweep, has_quarterUnion]
    simp only [sweepMargin, quarterTouched_iff hT lo (Nat.min_le_right ..)]
    constructor
    · rintro ⟨q, ⟨p, h1, h2, h3, h4⟩, h5⟩
      exact ⟨p, q, h1, h2.trans (Nat.min_le_left ..), h2.trans (Nat.min_le_right ..), h3, h4, h5⟩
    · rintro ⟨p, q, h1, h2, h3, h4, h5, h6⟩
      exact ⟨q, ⟨p, h1, le_min h2 h3, h4, h5⟩, h6⟩

end Sys2Proof.Proofs
end

section
/-! What requests, lane timers and presence events leave of the surroundings (R8, R88, R104, R168, R194). -/

namespace Sys2Proof.Proofs

open Sys2Proof Sys2Proof.Machine Sys2Proof.Safety

section
variable {s t : State}

theorem sameSurroundings_of_surr (h : surr t = surr s) : SameSurroundings s t :=
  ⟨⟨ram_of_surr h, store_of_surr h, checksums_of_surr h⟩, fun a => ⟨position_of_surr h a, referenced_of_surr h a⟩,
    ⟨vehicle_of_surr h, measured_of_surr h, low_of_surr h, notice_of_surr h, startUp_of_surr h⟩, service_of_surr h,
    now_of_surr h⟩

/-- The Request Unit of a state that the calm operations keep. -/
theorem sameRequests_of_calm (h : calm t = calm s) : SameRequests s t := by
  have o := outer_of_calm h
  refine ⟨congrArg Tx.replies (tx_of_outer o), ?_⟩
  have parts : ∀ x y : RequestUnit, x.ready = y.ready → x.held = y.held → x.slot = y.slot → x.history = y.history →
      x = y := by
    rintro ⟨⟩ ⟨⟩ rfl rfl rfl rfl; rfl
  exact parts _ _ (ready_of_outer o) (held_of_outer o) (slot_of_calm h) (history_of_outer o)

/-- A request served outside SLEEP keeps the surroundings when its serving does. -/
theorem surr_receiveRequest (hs : s.power.mode ≠ .sleep) (st : Station) (kind : Byte) (body : List Byte)
    {serve : State → State} (h : ∀ s, surr (serve s) = surr s) : surr (receiveRequest st kind body serve s) = surr s := by
  unfold receiveRequest; rw [if_neg hs]; dsimp only; split
  · rw [h, surr_busTraffic]
  · rw [surr_refuse, surr_busTraffic]

theorem surr_hold (hs : s.power.mode ≠ .sleep) (st : Station) (body : List Byte)
    (h : exec (.hold st body) s = .next t) : surr t = surr s := by
  cases h; rw [if_neg hs]; dsimp only; split
  · rw [surr_serveHold, surr_busTraffic]
  · exact surr_busTraffic s

/-- R88, R104: a request or a lane timer keeps the surroundings of a part that is awake. -/
theorem surr_laneCommand {i : Instr} (hi : laneCommand i = true) (hs : s.power.mode ≠ .sleep)
    (h : exec i s = .next t) : surr t = surr s := by
  have timer : ∀ {b : Bool} {u : State}, surr u = surr s → surr (if b then u else s) = surr s := by
    intro b u hu; split
    · exact hu
    · rfl
  cases i <;> simp only [laneCommand, Bool.false_eq_true] at hi
  case hold st body => exact surr_hold hs st body h
  case clearTimerExpiry l =>
    cases h; dsimp only; refine timer ?_; split
    · exact surr_eq (outer_eq (calm_enterPaused s l _ _))
    · rw [surr_tryTune]; exact surr_eq (outer_armingDecision s l)
  case holdLapse l =>
    cases h; dsimp only; refine timer ?_; split
    · exact surr_eq (outer_eq (by simp))
    · exact surr_eq (outer_eq (by simp))
  case yieldTimerExpiry l =>
    cases h; split
    · rfl
    · exact timer (surr_eq (outer_eq (by simp)))
  all_goals cases h
  case runRecipe st body => exact surr_receiveRequest hs _ _ _ fun s => surr_serveRun s ..
  case runStep st body => exact surr_receiveRequest hs _ _ _ fun s => surr_serveRun s ..
  case learn st body => exact surr_receiveRequest hs _ _ _ fun s => surr_serveRun s ..
  case halt st body => exact surr_receiveRequest hs _ _ _ fun s => surr_serveHalt s ..
  case resume st body => exact surr_receiveRequest hs _ _ _ fun s => surr_serveResume s ..
  case cancel st body => exact surr_receiveRequest hs _ _ _ fun s => surr_serveCancel s ..
  case clearFault st body => exact surr_receiveRequest hs _ _ _ fun s => surr_serveClearFault s ..
  case gateTimerExpiry l => exact timer (surr_eq (outer_eq (calm_enterPaused s l _ _)))
  case claimTimerExpiry l => exact timer (surr_eq (outer_eq (by simp)))
  case dwellTimerExpiry l => exact timer ((surr_finish _).trans (surr_eq (outer_afterDwell s l)))
  case pauseTimerExpiry l => exact timer ((surr_finish _).trans (surr_eq (outer_enterIdle s l _)))
  case totalTimerExpiry l => exact timer (surr_eq (outer_eq (calm_enterPaused s l _ _)))

/-- A sample round keeps what the calm operations keep: it writes channels alone, and hands their changes on. -/
theorem calm_sampleRound (counts : Vector (BitVec 16) 12) (s : State) : calm (sampleRound counts s) = calm s := by
  unfold sampleRound; dsimp only
  rw [calm_handOnAll, calm_foldl (fun s c => ?_)]
  · rfl
  · unfold workChannel; dsimp only; split
    · rfl
    · rfl
    all_goals rw [calm_updChan, calm_driftTest, calm_updChan]

/-- R168: a presence event keeps what the calm operations keep. -/
theorem calm_presenceCommand {i : Instr} (hi : presenceCommand i = true) (h : exec i s = .next t) :
    calm t = calm s := by
  cases i <;> simp only [presenceCommand, Bool.false_eq_true] at hi
  all_goals cases h; split
  case presenceSampleRound.refl.isTrue => rw [calm_tryTune, calm_sampleRound]
  case seedingEnd.refl.isTrue c _ => rw [calm_tryTune]; unfold seedingEnd; simp
  case haltTimeout.refl.isTrue c _ => rw [calm_tryTune]; unfold reseed; dsimp only; rw [calm_handOn]; rfl
  case driftTimerExpiry.refl.isTrue c _ => rw [calm_tryTune]; rfl
  all_goals rfl

/-- Settles O49: requests and lane timers keep `surr`, presence events keep `calm`. -/
theorem laneAndPresenceCommandsKeepTheSurroundings : Obligations.LaneAndPresenceCommandsKeepTheSurroundings := by
  intro i s t h
  refine ⟨fun hi hs => sameSurroundings_of_surr (surr_laneCommand hi hs h), fun hi => ?_⟩
  have c := calm_presenceCommand hi h
  exact ⟨sameSurroundings_of_surr (surr_of_outer (outer_of_calm c)), sameRequests_of_calm c⟩

end
end Sys2Proof.Proofs
end

section
/-! Hall pulses and the lane and drive timers' ends: the exact next states (R4, R5, R84, R125) and what a wait's end
leaves (R73, R74, R112). -/

namespace Sys2Proof.Proofs

open Sys2Proof Sys2Proof.Machine Sys2Proof.Safety

section
variable {s : State} {a : ActId} {l : LaneId}

/-! ### Updates that mark nothing -/

/-- An update of an actuator's record that keeps position and reference marks no frame (R10, R206). -/
theorem updAct_unmarked (a : ActId) (f : ActRun → ActRun) (s : State)
    (hp : (f s.acts[a]).position = s.acts[a].position) (hr : (f s.acts[a]).referenced = s.acts[a].referenced) :
    updAct a f s = { s with acts := put s.acts a (f s.acts[a]) } := by
  simp only [updAct, hp, hr, bne_self_eq_false, markIf, Bool.false_eq_true, if_false]

/-- An update of a lane's record that keeps its state and all that is shown marks no frame and moves no timer (R187,
R206). -/
theorem updLane_unmarked (l : LaneId) (f : Lane → Lane) (s : State) (hs : s.lanes[l].sameShown (f s.lanes[l]) = true) :
    updLane l f s = { s with lanes := put s.lanes l (f s.lanes[l]) } := by
  have st : (f s.lanes[l]).state = s.lanes[l].state := by
    simp only [Lane.sameShown, Bool.and_eq_true, beq_iff_eq] at hs
    exact hs.1.1.1.1.1.1.1.1.symm
  have idle : allIdle { s with lanes := put s.lanes l (f s.lanes[l]) } = allIdle s := by
    have : ∀ k : LaneId, (put s.lanes l (f s.lanes[l]))[k].state = s.lanes[k].state := fun k => by
      rw [put_get]; split
      · next e => rw [st, e]
      · rfl
    simp only [allIdle, this]
  simp only [updLane, hs, st, bne_self_eq_false, Bool.not_true, markIf, Bool.false_eq_true, if_false, followIdle, idle,
    Bool.and_not_self, Bool.not_and_self, Bool.false_and]

/-! ### Manual pulses -/

/-- A pulse once the store is loaded (R3 to R5, R133). -/
theorem exec_hallPulse_loaded (h : s.startUp = .running ∨ s.startUp = .wake) :
    exec (.hallPulse a) s = .next (match s.acts[a].cond with
      | .driven | .inRunOn => tryTune (countPulse a s)
      | .atRest => manualPulse a s) := by
  rcases h with h | h <;> simp only [exec, execHallPulse, h] <;> rfl

theorem exec_hallPulse_atRest (h : s.startUp = .running ∨ s.startUp = .wake) (hc : s.acts[a].cond = .atRest) :
    exec (.hallPulse a) s = .next (manualPulse a s) := by
  rw [exec_hallPulse_loaded h]; simp only [hc]

/-- Settles O29: below 50 the count rises alone, at 50 nothing changes, and the fiftieth unreferences. -/
theorem manualPulsesUnreferenceAtTheFiftieth : Obligations.ManualPulsesUnreferenceAtTheFiftieth := by
  intro s a hu hc
  simp only [exec_hallPulse_atRest hu hc]
  refine ⟨fun lt hr => ?_, fun ge => ?_, fun h49 hr => ?_⟩
  · have one : updAct a (fun x => { x with manualPulses := x.manualPulses + 1 }) s = _ :=
      updAct_unmarked a _ s rfl rfl
    have no : (decide (s.acts[a].manualPulses + 1 = manualLimit) && s.acts[a].referenced) = false := by
      by_cases h : s.acts[a].manualPulses = 49
      · rw [hr h, Bool.and_false]
      · rw [decide_eq_false (by simp only [manualLimit]; omega), Bool.false_and]
    rw [manualPulse]; dsimp only
    rw [if_neg (by simp only [manualLimit]; omega), no, one]; rfl
  · rw [manualPulse, if_pos ge]
  · have fifty : manualPulse a s = gateEvent (writeActuator a (fun r =>
        { r with storedPosition := s.acts[a].position, storedReferenced := false })
        (updAct a (fun x => { x with referenced := false })
          (updAct a (fun x => { x with manualPulses := x.manualPulses + 1 }) s))) := by
      rw [manualPulse]; dsimp only
      rw [if_neg (by rw [h49]; decide), if_pos (by rw [h49, hr]; rfl)]
    refine ⟨_, rfl, ?_⟩
    have c := calm_gateEvent (writeActuator a (fun r =>
        { r with storedPosition := s.acts[a].position, storedReferenced := false })
        (updAct a (fun x => { x with referenced := false })
          (updAct a (fun x => { x with manualPulses := x.manualPulses + 1 }) s)))
    have e := surr_of_outer (outer_of_calm c)
    rw [fifty]
    refine ⟨?_, ?_, ?_, ?_, fun b => ⟨?_, fun ne => ?_⟩⟩
    · rw [manualPulses_of_surr e]; simp [-Fin.getElem_fin, h49]
    · rw [referenced_of_surr e]; simp [-Fin.getElem_fin]
    · rw [ram_of_surr e]; simp [-Fin.getElem_fin, writeActuator, writeGroup, Settings.onActuator]
    · rw [store_of_surr e]; simp [-Fin.getElem_fin, writeActuator, writeGroup, Settings.onActuator]
    · rw [position_of_surr e]
      by_cases h : b = a
      · subst h; simp [-Fin.getElem_fin]
      · simp [-Fin.getElem_fin, put_other _ h]
    · rw [referenced_of_surr e]; simp [-Fin.getElem_fin, put_other _ ne]

/-! ### Timers' ends -/

theorem pausedAt_enterPaused (l : LaneId) (r : PauseReason) (p : ResumePoint) (s : State) :
    PausedAt (enterPaused l r p s).lanes[l] r p := by
  rw [enterPaused_lanes, put_self]; exact ⟨rfl, rfl, rfl, rfl⟩

/-- An entry into PAUSED leaves the zones, the wait list and every other lane. -/
theorem enterPaused_others (l : LaneId) (r : PauseReason) (p : ResumePoint) (s : State) :
    (enterPaused l r p s).holders = s.holders ∧ (enterPaused l r p s).waitList = s.waitList ∧
      ∀ k : LaneId, k ≠ l → (enterPaused l r p s).lanes[k] = s.lanes[k] :=
  ⟨by simp, by simp, fun k h => by rw [enterPaused_lanes, put_other _ h]⟩

theorem unlisted_leaveList (l : LaneId) (s : State) : Unlisted (leaveList l s) l := fun e he => by
  simpa using (List.mem_filter.1 he).2

/-- The start of a tune leaves a lane off the wait list alone, but a FENCED lane's clear timer. -/
theorem spared_tryTune {s : State} (u : Unlisted s l) : Spared l s (tryTune s) :=
  (moves_tryTune (L := fun _ => False) s).spared id u

/-- The stop order to a DRIVING channel (R124). -/
theorem braking_brake {ms : Nat} {rev : Bool} (h : s.drives[l].phase = .driving) : Braking (brake l ms rev s) l ms rev := by
  simp only [Braking, brake_drives, if_pos h, put_self, and_self]

/-- Entry into STOPPING on a DRIVING channel: the lane, its brake, and what stays (R77, R124). -/
theorem enterStopping_driving (d : StopDest) (h : s.drives[l].phase = .driving) :
    (enterStopping l d s).lanes[l] = { s.lanes[l].leaving with state := .stopping, stopDest := some d } ∧
    Braking (enterStopping l d s) l 50 false ∧ (enterStopping l d s).holders = s.holders ∧
    ∀ k : LaneId, k ≠ l → (enterStopping l d s).lanes[k] = s.lanes[k] ∧ (enterStopping l d s).drives[k] = s.drives[k] := by
  refine ⟨by rw [enterStopping_lanes, put_self], ?_, by simp, fun k hk => ⟨?_, ?_⟩⟩
  · have := braking_brake (ms := brakeTime) (rev := false) h
    simpa only [Braking, enterStopping_drives] using this
  · rw [enterStopping_lanes, put_other _ hk]
  · rw [enterStopping_drives, brake_drives, if_pos h, put_other _ hk]

/-- Settles O32: each end either has its effect, or finds its timer stopped and changes nothing. -/
theorem watchesWindowsAndWaitsEnd : Obligations.WatchesWindowsAndWaitsEnd := by
  intro s l a
  refine ⟨fun h1 h2 h3 => ?_, fun h => ?_, fun h => ?_, fun h => ?_, fun h1 h2 => ?_, fun h1 h2 h3 h4 => ?_, fun h => ?_,
    fun h1 h2 => ?_, fun h => ?_, fun h1 h2 => ?_, fun h => ?_, fun h1 h2 => ?_, fun h => ?_⟩
  · simp only [exec, execBlankingEnd]
    rw [if_pos (by simp [-Fin.getElem_fin, blankingOver, h1, h2, h3])]; rfl
  · simp only [exec, execBlankingEnd]
    rw [if_neg]
    simp only [blankingOver, Bool.and_eq_true, decide_eq_true_eq, not_and, Nat.not_le]
    rintro ⟨g1, g2⟩
    rcases h with h | h | h
    · exact absurd g1 h
    · rw [h] at g2; cases g2
    · exact h
  · simp only [exec, execRunOnEnd]
    rw [if_pos h, updAct_unmarked a (fun x => { x with cond := .atRest, runOn := none }) s rfl rfl]
  · simp only [exec, execRunOnEnd]; rw [if_neg h]
  · simp only [exec, execHoldLapse]
    rw [if_pos h1, if_neg (by simpa [-Fin.getElem_fin] using h2),
      updLane_unmarked l (fun r => { r with lapseTimer := none }) s (by simp [Lane.sameShown])]
  · have e : exec (.holdLapse l) s = .next (enterStopping l (.paused .holdLapsed)
        (updLane l (fun r => { r with lapseTimer := none }) s)) := by
      simp only [exec, execHoldLapse]
      rw [if_pos h1, if_pos (by simp [-Fin.getElem_fin, h2, h3])]
    obtain ⟨r, b, z, o⟩ := enterStopping_driving (s := updLane l (fun r => { r with lapseTimer := none }) s)
      (.paused .holdLapsed) (l := l) (by simpa using h4)
    refine ⟨_, e, by rw [r], by rw [r], ?_, b, by rw [z]; simp, fun k hk => ?_⟩
    · rw [r, updLane_lanes, put_self]; rfl
    · obtain ⟨o1, o2⟩ := o k hk
      exact ⟨by rw [o1, updLane_lanes, put_other _ hk], by rw [o2, updLane_drives]⟩
  · simp only [exec, execHoldLapse]; rw [if_neg (by simp [-Fin.getElem_fin, h])]
  · have e : exec (.gateTimerExpiry l) s = .next (enterPaused l .gateTimeout .gate s) := by
      simp only [exec, execGateTimerExpiry]; rw [if_pos (by simp [-Fin.getElem_fin, h1, h2])]
    exact ⟨_, e, pausedAt_enterPaused .., enterPaused_others ..⟩
  · simp only [exec, execGateTimerExpiry]; rw [if_neg (by simp [-Fin.getElem_fin, h])]
  · have e : exec (.claimTimerExpiry l) s = .next (tryTune (enterPaused l .claimTimeout .claim (leaveList l s))) := by
      simp only [exec, execClaimTimerExpiry]; rw [if_pos (by simp [-Fin.getElem_fin, h1, h2])]
    have p := pausedAt_enterPaused l .claimTimeout .claim (leaveList l s)
    obtain ⟨oz, ow, -⟩ := enterPaused_others l .claimTimeout .claim (leaveList l s)
    have u : Unlisted (enterPaused l .claimTimeout .claim (leaveList l s)) l := by
      rw [Unlisted, ow]; exact unlisted_leaveList l s
    have sp := spared_tryTune u
    refine ⟨_, e, ?_, sp.apart.list u, fun z hz => (sp.apart.holder z).2 (by rw [oz]; exact hz)⟩
    rw [sp.record (by rw [p.1]; decide)]; exact p
  · simp only [exec, execClaimTimerExpiry]; rw [if_neg (by simp [-Fin.getElem_fin, h])]
  · have e : exec (.totalTimerExpiry l) s = .next (enterPaused l .fenceTimeout .motion s) := by
      simp only [exec, execTotalTimerExpiry]; rw [if_pos (by simp [-Fin.getElem_fin, h1, h2])]
    exact ⟨_, e, pausedAt_enterPaused .., enterPaused_others ..⟩
  · simp only [exec, execTotalTimerExpiry]; rw [if_neg (by simp [-Fin.getElem_fin, h])]

end
end Sys2Proof.Proofs
end

section
/-! The wake from SLEEP (R50, R98, R133, R191). -/

namespace Sys2Proof.Proofs

open Sys2Proof Sys2Proof.Machine Sys2Proof.Safety

section
variable {s : State}

/-- One measurement after a run of 0 changes the supply record alone: it is no onset of supply low (R184, R185). -/
theorem measure_first (mv : Nat) (h : s.supply.lowRun = 0) (hl : s.supply.low = false) :
    ∃ x, Machine.measure mv s = { s with supply := x } := by
  unfold Machine.measure; dsimp only; rw [h, hl]; split
  · exact ⟨_, rfl⟩
  · exact ⟨_, rfl⟩

theorem mark_general_general (s : State) : (mark .general s).report.general = true := by
  unfold mark; dsimp only; split <;> rfl

/-- The wake with the supply at or above 6.0 V: the wake start-up begins, and what was held stays held (R191). -/
theorem wake_woken (hp : 6000 ≤ s.supply.pin) :
    Woken s (wake s) ∧ (wake s).request.held = s.request.held ∧ (wake s).service.held = s.service.held := by
  unfold wake; dsimp only
  rw [if_neg (by simp only [mark_supply, brownoutSupply]; omega)]
  generalize hu : mark .general _ = u
  obtain ⟨x, hx⟩ := measure_first (s := u) u.supply.pin (by rw [← hu]; rfl) (by rw [← hu]; rfl)
  rw [hx]; subst hu
  refine ⟨⟨rfl, rfl, rfl, rfl, rfl, rfl, rfl, rfl, ?_, ⟨rfl, rfl, rfl, rfl⟩, ⟨rfl, rfl, rfl⟩, fun _ => ⟨rfl, rfl⟩,
    rfl, rfl⟩, rfl, rfl⟩
  exact mark_general_general _

/-- In SLEEP a request other than HOLD wakes the part and is held (R50, R191). -/
theorem receiveRequest_asleep (hs : s.power.mode = .sleep) (hp : 6000 ≤ s.supply.pin) {i : Instr} {st : Station}
    {kind : Byte} {body : List Byte} {f : State → State} (hi : exec i s = .next (receiveRequest st kind body f s)) :
    ∃ t, exec i s = .next t ∧ Woken s t ∧ t.request.held = some (st, kind :: body) ∧
      t.service.held = s.service.held := by
  obtain ⟨w, -, hv⟩ := wake_woken hp
  refine ⟨_, hi, ?_⟩
  unfold receiveRequest; rw [if_pos hs]; dsimp only; rw [if_pos w.1]
  exact ⟨w, rfl, hv⟩

/-- In SLEEP a service frame wakes the part and is held (R191). -/
theorem receiveService_asleep (hs : s.power.mode = .sleep) (hp : 6000 ≤ s.supply.pin) {i : Instr} {op : Byte}
    {body : List Byte} {f : State → State} (hi : exec i s = .next (receiveService op body f s)) :
    ∃ t, exec i s = .next t ∧ Woken s t ∧ t.service.held = some (op :: body) ∧
      t.request.held = s.request.held := by
  obtain ⟨w, hr, -⟩ := wake_woken hp
  refine ⟨_, hi, ?_⟩
  unfold receiveService; rw [if_pos hs]; dsimp only; rw [if_pos w.1]
  exact ⟨w, rfl, hr⟩

/-- A frame that is not held only wakes the part (R191). -/
theorem woken_unheld (hp : 6000 ≤ s.supply.pin) {i : Instr} (hi : exec i s = .next (wake s)) :
    ∃ t, exec i s = .next t ∧ Woken s t ∧ t.request.held = s.request.held ∧ t.service.held = s.service.held :=
  ⟨_, hi, wake_woken hp⟩

/-- Settles O17: each frame is a request, a service frame, or one that is held by none. -/
theorem framesAndTheWakeLineWakeTheSleepingPart : Obligations.FramesAndTheWakeLineWakeTheSleepingPart := by
  intro s st body kind ident
  refine ⟨?_, ?_, ?_, ?_, ?_, ?_, ?_, ?_, ?_, ?_, ?_, ?_, ?_, ?_, ?_, ?_, ?_, ?_, ?_, ?_⟩
  iterate 8 exact fun hs hp => receiveRequest_asleep hs hp rfl
  · refine fun hs hp hk => receiveRequest_asleep (f := serveUnknown st kind body) hs hp ?_
    simp only [exec, execUnknownKindRequest, hk, Bool.false_eq_true, if_false]
  iterate 5 exact fun hs hp => receiveService_asleep hs hp rfl
  · refine fun hs hp hb => receiveService_asleep (f := serveUnknownService kind body) hs hp ?_
    simp only [exec, execUnknownServiceOperation, hb, if_true]
  · exact fun hs hp => woken_unheld hp (by simp only [exec, execHold, hs, if_true])
  · exact fun hs hp => woken_unheld hp (by simp only [exec, execVehicleState, hs, if_true])
  · exact fun hs hp hd => woken_unheld hp (by simp only [exec, execDiscardedFrame, hd, hs, if_true])
  · exact fun hs hp => woken_unheld hp (by simp only [exec, execWakeLine, hs, if_true])
  · exact fun hs => by simp only [exec, execWakeLine, if_neg hs]

end
end Sys2Proof.Proofs
end

section
/-! Hall pulses of a driven actuator (R3, R4, R120 to R122, R125, R128): the pulse as one change of the count, and the
evaluation of the remaining distance on the one channel that drives the actuator. -/

namespace Sys2Proof.Proofs

open Sys2Proof Sys2Proof.Machine Sys2Proof.Safety

/-! ### Folds over lanes -/

theorem foldl_same {α : Type} {f : State → α → State} {s : State} {xs : List α} (h : ∀ x ∈ xs, f s x = s) :
    xs.foldl f s = s := by
  induction xs with
  | nil => rfl
  | cons x xs ih =>
    rw [List.foldl_cons, h x (List.mem_cons_self ..)]
    exact ih fun y hy => h y (List.mem_cons_of_mem _ hy)

/-- A fold over the lanes in which every lane but one has nothing to do. -/
theorem foldl_allLanes_only {f : State → LaneId → State} {s : State} {l : LaneId} (before : ∀ m, m ≠ l → f s m = s)
    (after : ∀ m, m ≠ l → f (f s l) m = f s l) : allLanes.foldl f s = f s l := by
  obtain ⟨xs, ys, e⟩ := List.append_of_mem (mem_allLanes l)
  have nd : (xs ++ l :: ys).Nodup := e ▸ (by decide : allLanes.Nodup)
  rw [List.nodup_middle, List.nodup_cons, List.mem_append, not_or] at nd
  obtain ⟨⟨hx, hy⟩, -⟩ := nd
  rw [e, List.foldl_append, foldl_same fun m hm => before m fun e => hx (e ▸ hm), List.foldl_cons,
    foldl_same fun m hm => after m fun e => hy (e ▸ hm)]

section
variable {s : State} {a : ActId} {l : LaneId}

/-! ### The evaluation of the remaining distance -/

/-- The slow-down test of a channel at distance `r` in class `c` (R121). -/
def slowTested (l : LaneId) (r : Int) (c : SpeedClass) (s : State) : State :=
  if r ≤ (slowDistance c : Int) then updDrive l (fun d => { d with slowed := true }) s else s

theorem slowTested_drive (l : LaneId) (r : Int) (c : SpeedClass) (s : State) :
    (slowTested l r c s).drives[l] =
      { s.drives[l] with slowed := s.drives[l].slowed || decide (r ≤ (slowDistance c : Int)) } := by
  have e : slowTested l r c s =
      if r ≤ (slowDistance c : Int) then updDrive l (fun d => { d with slowed := true }) s else s := rfl
  by_cases h : r ≤ (slowDistance c : Int)
  · rw [e.trans (if_pos h), updDrive_drives, put_self, decide_eq_true h, Bool.or_true]
  · rw [e.trans (if_neg h), decide_eq_false h, Bool.or_false]

theorem slowTested_drive_other (r : Int) (c : SpeedClass) (s : State) {m : LaneId} (h : m ≠ l) :
    (slowTested l r c s).drives[m] = s.drives[m] := by
  refine iteInduction (motive := fun u : State => u.drives[m] = s.drives[m]) (fun _ => ?_) fun _ => rfl
  rw [updDrive_drives, put_other _ h]

@[simp] theorem slowTested_lanes (r : Int) (c : SpeedClass) (s : State) : (slowTested l r c s).lanes = s.lanes := by
  unfold slowTested; split <;> rfl
@[simp] theorem slowTested_acts (r : Int) (c : SpeedClass) (s : State) : (slowTested l r c s).acts = s.acts := by
  unfold slowTested; split <;> rfl
@[simp] theorem slowTested_holders (r : Int) (c : SpeedClass) (s : State) :
    (slowTested l r c s).holders = s.holders := by unfold slowTested; split <;> rfl
@[simp] theorem slowTested_loads (r : Int) (c : SpeedClass) (s : State) : (slowTested l r c s).loads = s.loads := by
  unfold slowTested; split <;> rfl
@[simp] theorem slowTested_supply (r : Int) (c : SpeedClass) (s : State) :
    (slowTested l r c s).supply = s.supply := by unfold slowTested; split <;> rfl
@[simp] theorem calm_slowTested (r : Int) (c : SpeedClass) (s : State) : calm (slowTested l r c s) = calm s := by
  unfold slowTested; split <;> rfl

/-- The evaluation of a DRIVING channel: the slow-down test, then the cut or the end of the back-off (R121, R122,
R128). -/
theorem evaluateDrive_driving {c : SpeedClass} (hc : s.drives[l].connected = some a) (hk : s.drives[l].cls = some c)
    (hd : s.drives[l].phase = .driving) :
    evaluateDrive l s =
      (let r := remaining s.drives[l] s.acts[a].position s.ram.actuators[a].travel
       let u := slowTested l r c s
       if s.drives[l].kind = some .backOff then
         if r ≤ (coast .creep : Int) then endBackOff l (s.lanes[l].stopDest.getD (.paused .firmContact)) u else u
       else if cuts s.drives[l] && decide (r ≤ (coast c : Int)) then enterSettling l u else u) := by
  unfold evaluateDrive; simp only [hc, hk]
  rw [if_neg (by rw [hd]; exact fun h => h rfl)]
  have lanes : (if remaining s.drives[l] s.acts[a].position s.ram.actuators[a].travel ≤ (slowDistance c : Int) then
      updDrive l (fun d => { d with slowed := true }) s else s).lanes = s.lanes := slowTested_lanes _ c s
  simp only [lanes]; rfl

/-- Only a DRIVING channel with an actuator and a class is evaluated. -/
theorem evaluateDrive_cases (l : LaneId) (s : State) : evaluateDrive l s = s ∨
    ∃ a c, s.drives[l].connected = some a ∧ s.drives[l].cls = some c ∧ s.drives[l].phase = .driving := by
  unfold evaluateDrive; dsimp only; split
  · next a c ha hc =>
    by_cases hd : s.drives[l].phase = .driving
    · exact .inr ⟨a, c, ha, hc, hd⟩
    · exact .inl (if_pos hd)
  · exact .inl rfl

theorem evaluateDrive_drive_other {m : LaneId} (h : m ≠ l) : (evaluateDrive l s).drives[m] = s.drives[m] := by
  have b : ∀ u : State, (brake l brakeTime false u).drives[m] = u.drives[m] := fun u => by
    by_cases g : u.drives[l].phase = .driving
    · rw [brake_drives, if_pos g, put_other _ h]
    · rw [brake_drives, if_neg g]
  rcases evaluateDrive_cases l s with e | ⟨a, c, hc, hk, hd⟩
  · rw [e]
  · rw [evaluateDrive_driving hc hk hd]
    have o := fun r => slowTested_drive_other (l := l) r c s h
    refine iteInduction (motive := fun u : State => u.drives[m] = s.drives[m]) (fun _ => ?_) fun _ => ?_
    · refine iteInduction (motive := fun u : State => u.drives[m] = s.drives[m]) (fun _ => ?_) fun _ => o _
      rw [endBackOff_drives, b, o]
    · refine iteInduction (motive := fun u : State => u.drives[m] = s.drives[m]) (fun _ => ?_) fun _ => o _
      rw [enterSettling_drives, b, o]

@[simp] theorem calm_evaluateDrive (l : LaneId) (s : State) : calm (evaluateDrive l s) = calm s := by
  rcases evaluateDrive_cases l s with e | ⟨a, c, hc, hk, hd⟩
  · rw [e]
  · rw [evaluateDrive_driving hc hk hd]; dsimp only; (repeat' split) <;> simp

/-! ### The pulse -/

/-- The state after a pulse has been counted, before any channel evaluates its distance. -/
def pulsed (a : ActId) (p : Nat) (s : State) : State :=
  updAct a (fun x => { x with position := p }) s

theorem pulsed_act (a : ActId) (p : Nat) (s : State) : (pulsed a p s).acts[a] = { s.acts[a] with position := p } := by
  rw [pulsed, updAct_acts, put_self]
theorem pulsed_act_other {b : ActId} (h : b ≠ a) (p : Nat) (s : State) : (pulsed a p s).acts[b] = s.acts[b] := by
  rw [pulsed, updAct_acts, put_other _ h]

@[simp] theorem calm_restartStall (a : ActId) (s : State) (l : LaneId) : calm (restartStall a s l) = calm s := by
  unfold restartStall; dsimp only; split <;> rfl
theorem restartStall_acts (a : ActId) (s : State) (l : LaneId) : (restartStall a s l).acts = s.acts := by
  unfold restartStall; dsimp only; split <;> rfl
@[simp] theorem calm_evaluateOn (a : ActId) (s : State) (l : LaneId) : calm (evaluateOn a s l) = calm s := by
  unfold evaluateOn; split
  · exact calm_evaluateDrive l s
  · rfl

/-- What the operations keep of the state in which the count has changed, all of a pulse keeps. -/
theorem calm_countPulse (a : ActId) (s : State) :
    ∃ u, calm u = calm s ∧ u.acts = s.acts ∧
      calm (countPulse a s) = calm (pulsed a (counted s.acts[a] s.ram.actuators[a]) u) := by
  have cu := calm_foldl (fun s l => calm_restartStall a s l) allLanes s
  have au : (allLanes.foldl (restartStall a) s).acts = s.acts :=
    foldl_keeps State.acts (fun s l => restartStall_acts a s l) allLanes s
  refine ⟨_, cu, au, ?_⟩
  unfold countPulse; dsimp only; split
  · next h =>
    refine (calm_updAct _ a _ ?_ rfl).symm
    rw [ActRun.count, ActRun.count, h, au]
  · exact calm_foldl (fun s l => calm_evaluateOn a s l) _ _

/-! ### The one channel that drives the actuator -/

/-- A channel's record once a pulse has restarted a running stall measurement (R125). -/
def Restalled (d : Drive) : Drive := { d with stallTime := d.stallTime.map fun _ => 0 }

theorem restartStall_only (hc : s.drives[l].connected = some a) (hd : s.drives[l].phase = .driving)
    (ho : ∀ m : LaneId, m ≠ l → s.drives[m].connected ≠ some a) :
    allLanes.foldl (restartStall a) s = updDrive l Restalled s := by
  have one : restartStall a s l = updDrive l Restalled s := by
    unfold restartStall; dsimp only
    cases ht : s.drives[l].stallTime with
    | none =>
      have e : ∀ d : Drive, d.stallTime = none → Restalled d = d := by
        intro d h; cases d; simp only at h; subst h; rfl
      rw [if_neg (by simp), updDrive, e _ ht, put_same]
    | some n =>
      rw [if_pos (by simp [-Fin.getElem_fin, hc, hd])]
      simp only [updDrive, Restalled, ht, Option.map_some]
  have skip : ∀ u : State, ∀ m : LaneId, u.drives[m].connected ≠ some a → restartStall a u m = u := by
    intro u m h; unfold restartStall; dsimp only; rw [if_neg (by simp [-Fin.getElem_fin, h])]
  rw [← one]
  refine foldl_allLanes_only (fun m h => skip s m (ho m h)) fun m h => skip _ m ?_
  rw [one, updDrive_drives, put_other _ h]; exact ho m h

theorem evaluateOn_only (hc : s.drives[l].connected = some a) (hd : s.drives[l].phase = .driving)
    (ho : ∀ m : LaneId, m ≠ l → s.drives[m].connected ≠ some a) :
    allLanes.foldl (evaluateOn a) s = evaluateDrive l s := by
  have one : evaluateOn a s l = evaluateDrive l s := by
    unfold evaluateOn; rw [if_pos (by simp [-Fin.getElem_fin, hc, hd])]
  have skip : ∀ u : State, ∀ m : LaneId, u.drives[m].connected ≠ some a → evaluateOn a u m = u := by
    intro u m h; unfold evaluateOn; rw [if_neg (by simp [-Fin.getElem_fin, h])]
  rw [← one]
  refine foldl_allLanes_only (fun m h => skip s m (ho m h)) fun m h => skip _ m ?_
  rw [one, evaluateDrive_drive_other h]; exact ho m h

/-- The pulse of an actuator that one channel drives (R3, R121, R125). -/
theorem countPulse_only (hc : s.drives[l].connected = some a) (hd : s.drives[l].phase = .driving)
    (ho : ∀ m : LaneId, m ≠ l → s.drives[m].connected ≠ some a) :
    countPulse a s =
      if counted s.acts[a] s.ram.actuators[a] = s.acts[a].position then updDrive l Restalled s
      else evaluateDrive l (pulsed a (counted s.acts[a] s.ram.actuators[a]) (updDrive l Restalled s)) := by
  unfold countPulse; dsimp only; rw [restartStall_only hc hd ho]
  split
  · rfl
  · refine evaluateOn_only ?_ ?_ fun m h => ?_
    · rw [updAct_drives, updDrive_drives, put_self]; exact hc
    · rw [updAct_drives, updDrive_drives, put_self]; exact hd
    · rw [updAct_drives, updDrive_drives, put_other _ h]; exact ho m h

/-! ### What a pulse brings to the lane that drives -/

theorem exec_hallPulse_driven (h : s.startUp = .running ∨ s.startUp = .wake) (hc : s.acts[a].cond ≠ .atRest) :
    exec (.hallPulse a) s = .next (tryTune (countPulse a s)) := by
  rw [exec_hallPulse_loaded h]
  cases e : s.acts[a].cond with
  | atRest => exact absurd e hc
  | driven => rfl
  | inRunOn => rfl

/-- The pulse of an actuator that one channel drives for a lane in a motion state: no tune starts, and the channel is
evaluated when the count has changed. -/
theorem exec_hallPulse_only (hu : s.startUp = .running ∨ s.startUp = .wake) (hr : s.acts[a].cond ≠ .atRest)
    (hc : s.drives[l].connected = some a) (hd : s.drives[l].phase = .driving)
    (ho : ∀ m : LaneId, m ≠ l → s.drives[m].connected ≠ some a) {p : Nat}
    (hp : counted s.acts[a] s.ram.actuators[a] = p) :
    exec (.hallPulse a) s = .next (tryTune (if p = s.acts[a].position then updDrive l Restalled s
      else evaluateDrive l (pulsed a p (updDrive l Restalled s)))) := by
  rw [exec_hallPulse_driven hu hr, countPulse_only hc hd ho, hp]

/-- Before the evaluation: the count, the lanes and the channel. -/
theorem pulsed_restalled (p : Nat) (s : State) :
    (pulsed a p (updDrive l Restalled s)).lanes = s.lanes ∧
    (pulsed a p (updDrive l Restalled s)).drives[l] = Restalled s.drives[l] ∧
    (pulsed a p (updDrive l Restalled s)).acts[a].position = p ∧
    (pulsed a p (updDrive l Restalled s)).holders = s.holders ∧
    (pulsed a p (updDrive l Restalled s)).ram = s.ram :=
  ⟨by simp [pulsed], by rw [pulsed, updAct_drives, updDrive_drives, put_self], by rw [pulsed_act], by simp [pulsed],
    by simp [pulsed]⟩

section
variable {p : Nat} {c : SpeedClass} {r : Int}

/-- A pulse that leaves the count at an end evaluates nothing (R3, R125). -/
theorem pulse_atEnd (hu : s.startUp = .running ∨ s.startUp = .wake) (hr : s.acts[a].cond ≠ .atRest)
    (hc : s.drives[l].connected = some a) (hd : s.drives[l].phase = .driving)
    (ho : ∀ m : LaneId, m ≠ l → s.drives[m].connected ≠ some a) (hl : s.lanes[l].state.inMotion = true)
    (e : counted s.acts[a] s.ram.actuators[a] = s.acts[a].position) :
    ∃ t, exec (.hallPulse a) s = .next t ∧ t.acts[a].position = s.acts[a].position ∧ t.lanes = s.lanes ∧
      t.drives[l] = Restalled s.drives[l] := by
  refine ⟨updDrive l Restalled s, ?_, rfl, rfl, by rw [updDrive_drives, put_self]⟩
  rw [exec_hallPulse_only hu hr hc hd ho e, if_pos rfl, tryTune_of_motion (updDrive l Restalled s) (k := l) hl]

/-- The evaluation after a pulse that has changed the count, with `r` the distance that remains. -/
theorem evaluateDrive_pulsed (hc : s.drives[l].connected = some a) (hd : s.drives[l].phase = .driving)
    (hk : s.drives[l].cls = some c) (hp : remaining s.drives[l] p s.ram.actuators[a].travel = r) :
    evaluateDrive l (pulsed a p (updDrive l Restalled s)) =
      if s.drives[l].kind = some .backOff then
        if r ≤ 4 then endBackOff l (s.lanes[l].stopDest.getD (.paused .firmContact))
          (slowTested l r c (pulsed a p (updDrive l Restalled s)))
        else slowTested l r c (pulsed a p (updDrive l Restalled s))
      else if cuts s.drives[l] && decide (r ≤ (coast c : Int)) then
        enterSettling l (slowTested l r c (pulsed a p (updDrive l Restalled s)))
      else slowTested l r c (pulsed a p (updDrive l Restalled s)) := by
  obtain ⟨el, ed, ep, -, er⟩ := pulsed_restalled (a := a) (l := l) p s
  rw [evaluateDrive_driving (a := a) (c := c) (by rw [ed]; exact hc) (by rw [ed]; exact hk) (by rw [ed]; exact hd), ed,
    ep, er, el, show remaining (Restalled s.drives[l]) p s.ram.actuators[a].travel = r from hp]
  rfl

theorem pulse_evaluates (hu : s.startUp = .running ∨ s.startUp = .wake) (hr : s.acts[a].cond ≠ .atRest)
    (hc : s.drives[l].connected = some a) (hd : s.drives[l].phase = .driving)
    (ho : ∀ m : LaneId, m ≠ l → s.drives[m].connected ≠ some a) (hp : counted s.acts[a] s.ram.actuators[a] = p)
    (e : p ≠ s.acts[a].position) :
    exec (.hallPulse a) s = .next (tryTune (evaluateDrive l (pulsed a p (updDrive l Restalled s)))) := by
  rw [exec_hallPulse_only hu hr hc hd ho hp, if_neg e]

/-- After the slow-down test the lanes and zones are as before the pulse, and the channel has the new count's test. -/
theorem slowTested_pulsed (r : Int) (c : SpeedClass) (p : Nat) (s : State) :
    (slowTested l r c (pulsed a p (updDrive l Restalled s))).lanes = s.lanes ∧
    (slowTested l r c (pulsed a p (updDrive l Restalled s))).drives[l] = { Restalled s.drives[l] with
      slowed := s.drives[l].slowed || decide (r ≤ (slowDistance c : Int)) } ∧
    (slowTested l r c (pulsed a p (updDrive l Restalled s))).acts[a] = { s.acts[a] with position := p } ∧
    (slowTested l r c (pulsed a p (updDrive l Restalled s))).holders = s.holders := by
  obtain ⟨el, ed, -, eh, -⟩ := pulsed_restalled (a := a) (l := l) p s
  exact ⟨by rw [slowTested_lanes, el], by rw [slowTested_drive, ed]; rfl,
    by rw [slowTested_acts, pulsed_act, updDrive_acts], by rw [slowTested_holders, eh]⟩

/-- A pulse that neither cuts the drive nor ends a back-off leaves the lanes, restarts a running stall measurement and
makes the slow-down test (R121, R125). -/
theorem pulse_goesOn (hu : s.startUp = .running ∨ s.startUp = .wake) (hr : s.acts[a].cond ≠ .atRest)
    (hc : s.drives[l].connected = some a) (hd : s.drives[l].phase = .driving)
    (ho : ∀ m : LaneId, m ≠ l → s.drives[m].connected ≠ some a) (hl : s.lanes[l].state.inMotion = true)
    (hk : s.drives[l].cls = some c) (hp : counted s.acts[a] s.ram.actuators[a] = p)
    (hrm : remaining s.drives[l] p s.ram.actuators[a].travel = r) (e : p ≠ s.acts[a].position)
    (hb : s.drives[l].kind = some .backOff → ¬ r ≤ 4)
    (hcut : (cuts s.drives[l] && decide (r ≤ (coast c : Int))) = false) :
    ∃ t, exec (.hallPulse a) s = .next t ∧ t.acts[a].position = p ∧ t.lanes = s.lanes ∧
      t.drives[l] = { Restalled s.drives[l] with
        slowed := s.drives[l].slowed || decide (r ≤ (slowDistance c : Int)) } := by
  obtain ⟨el, ed, ea, -⟩ := slowTested_pulsed (a := a) (l := l) r c p s
  have q : evaluateDrive l (pulsed a p (updDrive l Restalled s)) =
      slowTested l r c (pulsed a p (updDrive l Restalled s)) := by
    rw [evaluateDrive_pulsed hc hd hk hrm]
    by_cases k : s.drives[l].kind = some .backOff
    · rw [if_pos k, if_neg (hb k)]
    · rw [if_neg k, hcut]; rfl
  refine ⟨_, pulse_evaluates hu hr hc hd ho hp e, ?_⟩
  rw [q, tryTune_of_motion _ (k := l) (by rw [el]; exact hl)]
  exact ⟨by rw [ea], el, ed⟩

/-- A pulse within the coast allowance of an INTERIOR aim cuts the drive (R122). -/
theorem pulse_cut (hu : s.startUp = .running ∨ s.startUp = .wake) (hr : s.acts[a].cond ≠ .atRest)
    (hc : s.drives[l].connected = some a) (hd : s.drives[l].phase = .driving)
    (ho : ∀ m : LaneId, m ≠ l → s.drives[m].connected ≠ some a)
    (hk : s.drives[l].cls = some c) (hp : counted s.acts[a] s.ram.actuators[a] = p)
    (hrm : remaining s.drives[l] p s.ram.actuators[a].travel = r) (e : p ≠ s.acts[a].position)
    (hb : s.drives[l].kind ≠ some .backOff) (hcut : cuts s.drives[l] = true) (hle : r ≤ (coast c : Int)) :
    ∃ t, exec (.hallPulse a) s = .next t ∧ t.acts[a].position = p ∧ t.lanes[l].state = .settling ∧
      Braking t l 50 false ∧ t.acts[a].cond = .inRunOn ∧ KeepsZones s t l := by
  obtain ⟨el, ed, ea, eh⟩ := slowTested_pulsed (a := a) (l := l) r c p s
  have q : evaluateDrive l (pulsed a p (updDrive l Restalled s)) =
      enterSettling l (slowTested l r c (pulsed a p (updDrive l Restalled s))) := by
    rw [evaluateDrive_pulsed hc hd hk hrm, if_neg hb, hcut, if_pos (by simpa using hle)]
  refine ⟨_, pulse_evaluates hu hr hc hd ho hp e, ?_⟩
  generalize slowTested l r c (pulsed a p (updDrive l Restalled s)) = u at q el ed ea eh
  have hd' : u.drives[l].phase = .driving := by rw [ed]; exact hd
  have hc' : u.drives[l].connected = some a := by rw [ed]; exact hc
  have st : (enterSettling l u).lanes[l].state = .settling := by rw [enterSettling_lanes, put_self]
  have ac : (enterSettling l u).acts[a] = { u.acts[a] with cond := .inRunOn, runOn := some runOnTime } := by
    rw [enterSettling_acts, brake_acts]; simp only [hd', hc', put_self]
  rw [q, tryTune_of_motion _ (k := l) (by rw [st]; rfl)]
  refine ⟨by rw [ac, ea], st, ?_, by rw [ac], fun z hz => by rw [enterSettling_holders, eh]; exact hz⟩
  simpa only [Braking, enterSettling_drives] using braking_brake (ms := brakeTime) (rev := false) hd'

/-- A pulse within 4 counts of the stop point ends a back-off (R128). -/
theorem pulse_backOffEnd (hu : s.startUp = .running ∨ s.startUp = .wake) (hr : s.acts[a].cond ≠ .atRest)
    (hc : s.drives[l].connected = some a) (hd : s.drives[l].phase = .driving)
    (ho : ∀ m : LaneId, m ≠ l → s.drives[m].connected ≠ some a)
    (hk : s.drives[l].cls = some c) (hp : counted s.acts[a] s.ram.actuators[a] = p)
    (hrm : remaining s.drives[l] p s.ram.actuators[a].travel = r) (e : p ≠ s.acts[a].position)
    (hb : s.drives[l].kind = some .backOff) (hle : r ≤ 4) {d : StopDest} (hdest : s.lanes[l].stopDest = some d) :
    ∃ t, exec (.hallPulse a) s = .next t ∧ t.acts[a].position = p ∧ t.lanes[l].state = .stopping ∧
      t.lanes[l].stopDest = some d ∧ Braking t l 50 false ∧ t.acts[a].cond = .inRunOn ∧ KeepsZones s t l := by
  obtain ⟨el, ed, ea, eh⟩ := slowTested_pulsed (a := a) (l := l) r c p s
  have q : evaluateDrive l (pulsed a p (updDrive l Restalled s)) =
      endBackOff l d (slowTested l r c (pulsed a p (updDrive l Restalled s))) := by
    rw [evaluateDrive_pulsed hc hd hk hrm, if_pos hb, if_pos hle, hdest]; rfl
  refine ⟨_, pulse_evaluates hu hr hc hd ho hp e, ?_⟩
  generalize slowTested l r c (pulsed a p (updDrive l Restalled s)) = u at q el ed ea eh
  have hd' : u.drives[l].phase = .driving := by rw [ed]; exact hd
  have hc' : u.drives[l].connected = some a := by rw [ed]; exact hc
  have st : (endBackOff l d u).lanes[l].state = .stopping := by rw [endBackOff_lanes, put_self]
  have ac : (endBackOff l d u).acts[a] = { u.acts[a] with cond := .inRunOn, runOn := some runOnTime } := by
    rw [endBackOff_acts, brake_acts]; simp only [hd', hc', put_self]
  rw [q, tryTune_of_motion _ (k := l) (by rw [st]; rfl)]
  refine ⟨by rw [ac, ea], st, by rw [endBackOff_lanes, put_self], ?_, by rw [ac],
    fun z hz => by rw [endBackOff_holders, eh]; exact hz⟩
  simpa only [Braking, endBackOff_drives] using braking_brake (ms := brakeTime) (rev := false) hd'

end

/-! ### The obligation -/

/-- A pulse leaves settings, vehicle and requests, every reference, and every other actuator's position (R3). -/
theorem pulse_frame (hu : s.startUp = .running ∨ s.startUp = .wake) (hr : s.acts[a].cond ≠ .atRest) :
    ∃ t, exec (.hallPulse a) s = .next t ∧ t.acts[a].position = counted s.acts[a] s.ram.actuators[a] ∧
      (∀ b : ActId, t.acts[b].referenced = s.acts[b].referenced ∧
        (b ≠ a → t.acts[b].position = s.acts[b].position)) ∧
      SameSettings s t ∧ SameVehicle s t ∧ SameRequests s t := by
  obtain ⟨u, cu, au, ct⟩ := calm_countPulse a s
  generalize counted s.acts[a] s.ram.actuators[a] = p at ct
  have c : calm (tryTune (countPulse a s)) = calm (pulsed a p u) := by rw [calm_tryTune, ct]
  have e := surr_of_outer (outer_of_calm c)
  have pe : ∀ b : ActId, (pulsed a p u).acts[b].referenced = s.acts[b].referenced := fun b => by
    by_cases h : b = a
    · rw [h, pulsed_act, au]
    · rw [pulsed_act_other h, au]
  obtain ⟨⟨r1, r2, r3⟩, -, ⟨v1, v2, v3, v4, v5⟩, -⟩ := sameSurroundings_of_surr (surr_of_outer (outer_of_calm cu))
  obtain ⟨⟨q1, q2, q3⟩, -, ⟨w1, w2, w3, w4, w5⟩, -⟩ := sameSurroundings_of_surr e
  obtain ⟨x1, x2⟩ := sameRequests_of_calm cu
  obtain ⟨y1, y2⟩ := sameRequests_of_calm c
  have k : ∀ {α : Type} (f : State → α), f (pulsed a p u) = f u → f u = f s → f (tryTune (countPulse a s)) =
    f (pulsed a p u) → f (tryTune (countPulse a s)) = f s := fun f h1 h2 h3 => h3.trans (h1.trans h2)
  refine ⟨_, exec_hallPulse_driven hu hr, ?_, fun b => ⟨?_, fun h => ?_⟩, ⟨?_, ?_, ?_⟩, ⟨?_, ?_, ?_, ?_, ?_⟩, ?_, ?_⟩
  · rw [position_of_surr e, pulsed_act]
  · rw [referenced_of_surr e, pe]
  · rw [position_of_surr e, pulsed_act_other h, au]
  · exact k State.ram (updAct_ram ..) r1 q1
  · exact k State.store (updAct_store ..) r2 q2
  · exact k State.checksums (updAct_checksums ..) r3 q3
  · exact k State.vehicle (updAct_vehicle ..) v1 w1
  · exact k (fun s => s.supply.measured) (by simp [pulsed]) v2 w2
  · exact k (fun s => s.supply.low) (by simp [pulsed]) v3 w3
  · exact k (fun s => s.power.notice) (by simp [pulsed]) v4 w4
  · exact k State.startUp (updAct_startUp ..) v5 w5
  · exact k (fun s => s.tx.replies) (by simp [pulsed]) x1 y1
  · exact k State.request (updAct_request ..) x2 y2

/-- The coast allowance and the slow-down distance of a class, as numbers of the statement (R120). -/
theorem coast_eq (c : SpeedClass) : (coast c : Int) = match c with
    | .creep => 4
    | .normal => 12
    | .fast => 24 := by cases c <;> rfl
theorem slowDistance_eq (c : SpeedClass) : (slowDistance c : Int) = match c with
    | .creep => 0
    | .normal => 80
    | .fast => 120 := by cases c <;> rfl

/-- The remaining distance of each kind of drive (R121). -/
theorem remaining_interior {d : Drive} {k : MotionKind} {dir : Direction} (hk : d.kind = some k)
    (h : k = .step ∨ k = .correction ∨ k = .learnReturn) (he : d.endKind = some .interior)
    (hd : d.direction = some dir) (p T : Nat) : remaining d p T = leftTo dir p d.aim := by
  rcases h with rfl | rfl | rfl <;> simp only [remaining, hk, he, hd] <;> cases dir <;> rfl
theorem remaining_end {d : Drive} {k : MotionKind} {e : EndKind} (hk : d.kind = some k)
    (h : k = .step ∨ k = .correction ∨ k = .learnReturn) (he : d.endKind = some e) (hne : e ≠ .interior) (p T : Nat) :
    remaining d p T = if e = .low then (p : Int) else (T : Int) - (p : Int) := by
  cases e with
  | interior => exact absurd rfl hne
  | low => rcases h with rfl | rfl | rfl <;> simp [remaining, hk, he]
  | high => rcases h with rfl | rfl | rfl <;> simp [remaining, hk, he]
theorem remaining_homing {d : Drive} {k : MotionKind} (hk : d.kind = some k)
    (h : k = .homing ∨ k = .learnHome ∨ k = .learnRise) (p T : Nat) :
    remaining d p T = if k = .homing ∨ k = .learnHome then (p : Int) else (T : Int) - (p : Int) := by
  rcases h with rfl | rfl | rfl <;> simp [remaining, hk]
theorem remaining_backOff {d : Drive} {dir : Direction} (hk : d.kind = some .backOff) (hd : d.direction = some dir)
    (p T : Nat) : remaining d p T = leftTo dir p d.stopPoint := by
  simp only [remaining, hk, hd]; cases dir <;> rfl

/-- Settles O28: the frame of a pulse, and by kind of drive the cut, the slow-down, or the end of the back-off. -/
theorem hallPulsesCountAndSlowCutOrEndTheDrive : Obligations.HallPulsesCountAndSlowCutOrEndTheDrive := by
  intro s a l
  refine ⟨pulse_frame, ?_, ?_, ?_, ?_, fun k h => by simp only [exec, execHallPulse, h]⟩
  · intro cls hcls k hk dir hdir hu hr hd hc ho hl hkk he
    have hm : s.lanes[l].state.inMotion = true := by rw [hl]; rfl
    have hnb : s.drives[l].kind ≠ some .backOff := by rw [hk]; rcases hkk with rfl | rfl | rfl <;> simp
    have hct : cuts s.drives[l] = true := by
      simp only [cuts, he, hk]; rcases hkk with rfl | rfl | rfl <;> rfl
    by_cases e : counted s.acts[a] s.ram.actuators[a] = s.acts[a].position
    · obtain ⟨t, ht, tp, tr⟩ := pulse_atEnd hu hr hc hd ho hm e
      exact ⟨t, ht, (if_pos tp).mpr tr⟩
    · have hrm := remaining_interior hk hkk he hdir (counted s.acts[a] s.ram.actuators[a]) s.ram.actuators[a].travel
      by_cases hle : leftTo dir (counted s.acts[a] s.ram.actuators[a]) s.drives[l].aim ≤ (coast cls : Int)
      · obtain ⟨t, ht, tp, tr⟩ := pulse_cut hu hr hc hd ho hcls rfl hrm e hnb hct hle
        rw [coast_eq] at hle
        refine ⟨t, ht, ?_⟩; rw [tp, if_neg e]
        exact (if_pos hle).mpr tr
      · obtain ⟨t, ht, tp, tl, td⟩ := pulse_goesOn hu hr hc hd ho hm hcls rfl hrm e (fun h => absurd h hnb)
          (by rw [decide_eq_false hle, Bool.and_false])
        rw [coast_eq] at hle; rw [slowDistance_eq] at td
        refine ⟨t, ht, ?_⟩; rw [tp, if_neg e]
        exact (if_neg hle).mpr ⟨tl, td⟩
  · intro cls hcls k hk f hf hu hr hd hc ho hl hkk hf'
    have hm : s.lanes[l].state.inMotion = true := by rw [hl]; rfl
    have hnb : s.drives[l].kind ≠ some .backOff := by rw [hk]; rcases hkk with rfl | rfl | rfl <;> simp
    have hct : cuts s.drives[l] = false := by
      simp only [cuts, hf]
      cases f with
      | interior => exact absurd rfl hf'
      | low => rfl
      | high => rfl
    by_cases e : counted s.acts[a] s.ram.actuators[a] = s.acts[a].position
    · obtain ⟨t, ht, tp, tr⟩ := pulse_atEnd hu hr hc hd ho hm e
      exact ⟨t, ht, (if_pos tp).mpr tr⟩
    · obtain ⟨t, ht, tp, tl, td⟩ := pulse_goesOn hu hr hc hd ho hm hcls rfl (remaining_end hk hkk hf hf' _ _) e
        (fun h => absurd h hnb) (by rw [hct, Bool.false_and])
      rw [slowDistance_eq] at td
      refine ⟨t, ht, ?_⟩; rw [tp, if_neg e]
      exact ⟨tl, td⟩
  · intro cls hcls k hk hu hr hd hc ho hl hkk
    have hm : s.lanes[l].state.inMotion = true := by rw [hl]; rfl
    have hnb : s.drives[l].kind ≠ some .backOff := by rw [hk]; rcases hkk with rfl | rfl | rfl <;> simp
    have hct : cuts s.drives[l] = false := by
      simp only [cuts, hk]; rcases hkk with rfl | rfl | rfl <;> simp
    by_cases e : counted s.acts[a] s.ram.actuators[a] = s.acts[a].position
    · obtain ⟨t, ht, tp, tr⟩ := pulse_atEnd hu hr hc hd ho hm e
      exact ⟨t, ht, (if_pos tp).mpr tr⟩
    · obtain ⟨t, ht, tp, tl, td⟩ := pulse_goesOn hu hr hc hd ho hm hcls rfl (remaining_homing hk hkk _ _) e
        (fun h => absurd h hnb) (by rw [hct, Bool.false_and])
      rw [slowDistance_eq] at td
      refine ⟨t, ht, ?_⟩; rw [tp, if_neg e]
      exact ⟨tl, td⟩
  · intro dir hdir dest hdest hu hr hd hc ho hl hk hcls
    have hm : s.lanes[l].state.inMotion = true := by rw [hl]; rfl
    have hct : cuts s.drives[l] = false := by simp only [cuts, hk]; simp
    by_cases e : counted s.acts[a] s.ram.actuators[a] = s.acts[a].position
    · obtain ⟨t, ht, tp, tl, td⟩ := pulse_atEnd hu hr hc hd ho hm e
      refine ⟨t, ht, (if_neg fun h => h.1 tp).mpr ⟨tl, ?_, ?_⟩⟩ <;> rw [td]
      · exact hd
      · exact hk
    · have hrm := remaining_backOff hk hdir (counted s.acts[a] s.ram.actuators[a]) s.ram.actuators[a].travel
      by_cases hle : leftTo dir (counted s.acts[a] s.ram.actuators[a]) s.drives[l].stopPoint ≤ 4
      · obtain ⟨t, ht, tp, tr⟩ := pulse_backOffEnd hu hr hc hd ho hcls rfl hrm e hk hle hdest
        exact ⟨t, ht, (if_pos ⟨fun h => e (tp.symm.trans h), tp ▸ hle⟩).mpr tr⟩
      · obtain ⟨t, ht, tp, tl, td⟩ := pulse_goesOn hu hr hc hd ho hm hcls rfl hrm e (fun _ => hle)
          (by rw [hct, Bool.false_and])
        refine ⟨t, ht, (if_neg fun h => hle (tp ▸ h.2)).mpr ⟨tl, ?_, ?_⟩⟩ <;> rw [td]
        · exact hd
        · exact hk

end
end Sys2Proof.Proofs
end

section
/-! The end of ARMING and the drive start (R76, R118, R119, R122, R134, R135, R139, R149). -/

namespace Sys2Proof.Proofs

open Sys2Proof Sys2Proof.Machine Sys2Proof.Safety

section
variable {s : State} {l : LaneId} {c : StepCtx}

/-! ### The state that the drive order leaves, before the cut test -/

/-- The direction of the drive of a step context from the present position (R119). -/
def startDirection (c : StepCtx) (s : State) : Direction :=
  driveDirection c.motion c.endKind c.pt s.acts[c.act].position

/-- A load context as the drive order leaves it (R134, R139, R149). -/
def startedLoad (c : StepCtx) (s : State) (y : Load) : Load :=
  let x := s.acts[c.act]
  let m := modeOf c.motion x.referenced y.mode
  let y := y.driveStart c.motion m (margins s.ram.actuators[c.act] c.guardLost)
  { y with
    eligible := y.eligible && !(c.motion = .step && (driveClass c ≠ .normal || m = .absolute))
    origin := match y.origin with
      | some o => some o
      | none => some x.position }

/-- The state in which the channel drives, before its distance is evaluated for the first time (R76, R119). -/
def started (l : LaneId) (c : StepCtx) (s : State) : State :=
  let s := setMotionMark c.act s
  let u := startChannel l c.motion (some c.endKind) c.pt (startDirection c s) (driveClass c)
    (reportDriveStart c.act (startDirection c s) s)
  updLane l (fun r => { r.leaving with state := .moving }) (updLoad l (startedLoad c s) u)

theorem driveStart_eq (l : LaneId) (c : StepCtx) (s : State) : driveStart l c s = evaluateDrive l (started l c s) := rfl

theorem started_lane (l : LaneId) (c : StepCtx) (s : State) : (started l c s).lanes[l].state = .moving := by
  rw [started, updLane_lanes, put_self]
theorem started_drive (l : LaneId) (c : StepCtx) (s : State) : (started l c s).drives[l] = { s.drives[l] with
    phase := .driving, direction := some (startDirection c s), duty := 250, kind := some c.motion
    endKind := some c.endKind, aim := c.pt, cls := some (driveClass c), slowed := false, blanking := true
    stallTime := none, saturation := 0, makeTimer := none, brakeTimer := none, reversal := false } := by
  simp [-Fin.getElem_fin, started, startChannel, reportDriveStart, startDirection]
theorem started_load (l : LaneId) (c : StepCtx) (s : State) :
    (started l c s).loads[l] = startedLoad c (setMotionMark c.act s) s.loads[l] := by
  simp [-Fin.getElem_fin, started, startChannel, reportDriveStart]
theorem started_acts (l : LaneId) (c : StepCtx) (s : State) : (started l c s).acts = put s.acts c.act { s.acts[c.act] with
    manualPulses := 0, lastPolarity := bridge s.ram.actuators[c.act].sense (startDirection c s), cond := .driven
    runOn := none } := by
  simp [-Fin.getElem_fin, started, startChannel, reportDriveStart, startDirection, setMotionMark, writeActuator,
    writeGroup, Settings.onActuator]
theorem started_ram (l : LaneId) (c : StepCtx) (s : State) : (started l c s).ram.actuators =
    put s.ram.actuators c.act { s.ram.actuators[c.act] with motionMark := true } := by
  simp [-Fin.getElem_fin, started, startChannel, reportDriveStart, setMotionMark, writeActuator, writeGroup,
    Settings.onActuator]
theorem started_store (l : LaneId) (c : StepCtx) (s : State) : (started l c s).store.actuators =
    put s.store.actuators c.act { s.store.actuators[c.act] with motionMark := true } := by
  simp [-Fin.getElem_fin, started, startChannel, reportDriveStart, setMotionMark, writeActuator, writeGroup,
    Settings.onActuator]
theorem started_frame (l : LaneId) (c : StepCtx) (s : State) : (started l c s).holders = s.holders ∧
    (started l c s).supply.timer = none ∧ SameRequests s (started l c s) := by
  refine ⟨?_, ?_, ?_, ?_⟩ <;> simp [started, startChannel, reportDriveStart]

theorem started_position (l : LaneId) (c : StepCtx) (s : State) : SamePositions s (started l c s) := fun b => by
  rw [started_acts, put_get]; split
  · next e => subst e; exact ⟨rfl, rfl⟩
  · exact ⟨rfl, rfl⟩

/-! ### The load context of a drive start -/

/-- A drive start other than a back-off leaves the load context as R134, R135 and R139 say. -/
theorem started_loadStarted (hr : c.motion = .homing ∨ c.motion = .learnHome ∨ s.acts[c.act].referenced = true)
    (hb : c.motion ≠ .backOff) : LoadStarted s (started l c s) l c.act 60
      (if c.motion = .step ∨ c.motion = .correction ∨ c.motion = .learnReturn then .profile else .absolute)
      c.guardLost := by
  have md : modeOf c.motion s.acts[c.act].referenced s.loads[l].mode =
      if c.motion = .step ∨ c.motion = .correction ∨ c.motion = .learnReturn then .profile else .absolute := by
    cases e : c.motion with
    | backOff => exact absurd e hb
    | homing => rfl
    | learnHome => rfl
    | learnRise => rfl
    | _ => rw [e] at hr; simp only [reduceCtorEq, false_or] at hr; rw [hr]; rfl
  have ra : (setMotionMark c.act s).ram.actuators[c.act] = { s.ram.actuators[c.act] with motionMark := true } := by
    simp [-Fin.getElem_fin, setMotionMark, writeActuator, writeGroup, Settings.onActuator]
  rw [LoadStarted, started_load]
  refine ⟨rfl, rfl, if_neg hb, rfl, rfl, rfl, rfl, md, ?_⟩
  simp only [startedLoad, Load.driveStart, ra, margins]
  split
  · exact ⟨rfl, rfl⟩
  · exact ⟨rfl, rfl⟩

/-- R149: a step drive whose class is not NORMAL loses adaptation. -/
theorem started_eligible (hr : c.motion = .homing ∨ c.motion = .learnHome ∨ s.acts[c.act].referenced = true) :
    (started l c s).loads[l].eligible = (if c.motion = .step ∧ c.cls ≠ .normal then false else s.loads[l].eligible) := by
  rw [started_load]
  simp only [startedLoad, Load.driveStart, setMotionMark_acts]
  by_cases e : c.motion = .step
  · have rf : s.acts[c.act].referenced = true := by rw [e] at hr; simpa using hr
    simp only [e, rf, modeOf, driveClass, if_true]
    by_cases n : c.cls = .normal <;> simp [n]
  · simp [e]

theorem started_origin (l : LaneId) (c : StepCtx) (s : State) :
    (started l c s).loads[l].origin = some (s.loads[l].origin.getD s.acts[c.act].position) := by
  rw [started_load]
  simp only [startedLoad, Load.driveStart, setMotionMark_acts]
  cases s.loads[l].origin <;> rfl

/-! ### The end of ARMING -/

/-- With the reference where the motion needs it, the interlock, the supply and the hold, the drive starts (R76). -/
theorem armingEnd_starts (hc : s.lanes[l].ctx = some c) (hi : interlock s = true) (hv : s.supply.low = false)
    (hh : ¬ (s.lanes[l].mode = some .hold ∧ s.lanes[l].lapseTimer = none))
    (hr : c.motion = .homing ∨ c.motion = .learnHome ∨ s.acts[c.act].referenced = true) (hb : c.motion ≠ .backOff) :
    armingEnd l s = driveStart l c s := by
  have hold : (decide (s.lanes[l].mode = some .hold) && !s.lanes[l].holdCurrent) = false := by
    by_cases m : s.lanes[l].mode = some .hold
    · have : s.lanes[l].lapseTimer ≠ none := fun t => hh ⟨m, t⟩
      rw [Lane.holdCurrent, Option.isSome_iff_ne_none.2 this, Bool.not_true, Bool.and_false]
    · rw [decide_eq_false m, Bool.false_and]
  have goOn : ∀ p : Bool, (p && !s.acts[c.act].referenced) = false →
      (if p && !s.acts[c.act].referenced then armingDecision l (openRelay l s)
      else if !interlock s then enterPaused l .interlock .motion (openRelay l s)
      else if s.supply.low then enterPaused l .supply .motion (openRelay l s)
      else if s.lanes[l].mode = some .hold && !s.lanes[l].holdCurrent then
        enterPaused l .holdLapsed .motion (openRelay l s)
      else driveStart l c s) = driveStart l c s := fun p hp => by rw [hp, hi, hv, hold]; rfl
  unfold armingEnd; simp only [hc]
  refine goOn _ ?_
  cases e : c.motion with
  | backOff => exact absurd e hb
  | homing => rfl
  | learnHome => rfl
  | _ => rw [e] at hr; simp only [reduceCtorEq, false_or] at hr; rw [hr]; rfl

theorem exec_relayMade (hm : s.drives[l].phase = .making) (hc : s.lanes[l].ctx = some c) (hi : interlock s = true)
    (hv : s.supply.low = false) (hh : ¬ (s.lanes[l].mode = some .hold ∧ s.lanes[l].lapseTimer = none))
    (hr : c.motion = .homing ∨ c.motion = .learnHome ∨ s.acts[c.act].referenced = true) (hb : c.motion ≠ .backOff) :
    exec (.relayMade l) s = .next (tryTune (evaluateDrive l (started l c
      (updDrive l (fun d => { d with makeTimer := none }) s)))) := by
  simp only [exec, execRelayMade]; rw [if_pos hm]
  have a := armingEnd_starts (s := updDrive l (fun d => { d with makeTimer := none }) s) (c := c) hc hi hv hh hr hb
  rw [a, driveStart_eq]

/-- The first evaluation of a started drive: the slow-down test, and the cut when the target is within the coast
allowance (R76, R122). -/
theorem evaluateDrive_started (hc : s.drives[l].connected = some c.act) (hb : c.motion ≠ .backOff) :
    ∃ r, (c.motion = .step ∨ c.motion = .correction ∨ c.motion = .learnReturn → c.endKind = .interior →
        r = leftTo (startDirection c s) s.acts[c.act].position c.pt) ∧
      evaluateDrive l (started l c s) =
        if cuts (started l c s).drives[l] && decide (r ≤ (coast (driveClass c) : Int)) then
          enterSettling l (slowTested l r (driveClass c) (started l c s))
        else slowTested l r (driveClass c) (started l c s) := by
  have d := started_drive l c s
  have kind : (started l c s).drives[l].kind = some c.motion := by rw [d]
  refine ⟨remaining (started l c s).drives[l] (started l c s).acts[c.act].position
    (started l c s).ram.actuators[c.act].travel, fun hk he => ?_, ?_⟩
  · obtain ⟨p, -⟩ := started_position l c s c.act
    rw [remaining_interior kind hk (dir := startDirection c s) (by rw [d, he]) (by rw [d]), p, d]
  · rw [evaluateDrive_driving (a := c.act) (c := driveClass c) (by rw [d]; exact hc) (by rw [d]) (by rw [d])]
    dsimp only
    rw [if_neg (by rw [kind]; exact fun h => hb (Option.some.inj h))]

/-- The distance to an INTERIOR target at the drive start (R119, R121). -/
theorem leftTo_startDirection (hk : c.motion = .step ∨ c.motion = .correction ∨ c.motion = .learnReturn)
    (he : c.endKind = .interior) : leftTo (startDirection c s) s.acts[c.act].position c.pt =
      if s.acts[c.act].position < c.pt then (c.pt : Int) - (s.acts[c.act].position : Int)
      else (s.acts[c.act].position : Int) - (c.pt : Int) := by
  have e : startDirection c s = if s.acts[c.act].position < c.pt then .increasing else .decreasing := by
    rw [startDirection, he]; rcases hk with h | h | h <;> rw [h] <;> rfl
  rw [e]; split <;> rfl

theorem coastAllowance_eq (x : SpeedClass) : coastAllowance x = coast x := by cases x <;> rfl

theorem cuts_started (l : LaneId) (c : StepCtx) (s : State) : cuts (started l c s).drives[l] = true ↔
    c.endKind = .interior ∧ (c.motion = .step ∨ c.motion = .correction ∨ c.motion = .learnReturn) := by
  rw [started_drive]; simp [cuts, or_assoc]

/-- A drive whose INTERIOR target is farther than the coast allowance goes on (R122). -/
theorem evaluateDrive_started_far (hc : s.drives[l].connected = some c.act) (hb : c.motion ≠ .backOff)
    (hfar : c.endKind = .interior → (c.motion = .step ∨ c.motion = .correction ∨ c.motion = .learnReturn) →
      s.acts[c.act].position + coastAllowance (driveClass c) < c.pt ∨
        c.pt + coastAllowance (driveClass c) < s.acts[c.act].position) :
    ∃ r, evaluateDrive l (started l c s) = slowTested l r (driveClass c) (started l c s) := by
  obtain ⟨r, hrem, ev⟩ := evaluateDrive_started hc hb
  refine ⟨r, ev.trans (if_neg fun h => ?_)⟩
  simp only [Bool.and_eq_true, decide_eq_true_eq] at h
  obtain ⟨hcut, hle⟩ := h
  obtain ⟨hi, hk⟩ := (cuts_started l c s).1 hcut
  have far := hfar hi hk
  rw [hrem hk hi, leftTo_startDirection hk hi] at hle
  rw [coastAllowance_eq] at far
  split at hle <;> omega

/-- A drive whose INTERIOR target lies within the coast allowance is cut at once (R76, R122). -/
theorem evaluateDrive_started_near (hc : s.drives[l].connected = some c.act)
    (hk : c.motion = .step ∨ c.motion = .correction ∨ c.motion = .learnReturn) (hi : c.endKind = .interior)
    (hlo : s.acts[c.act].position ≤ c.pt + coastAllowance (driveClass c))
    (hhi : c.pt ≤ s.acts[c.act].position + coastAllowance (driveClass c)) :
    ∃ r, evaluateDrive l (started l c s) = enterSettling l (slowTested l r (driveClass c) (started l c s)) := by
  have hb : c.motion ≠ .backOff := by rcases hk with h | h | h <;> rw [h] <;> decide
  obtain ⟨r, hrem, ev⟩ := evaluateDrive_started hc hb
  refine ⟨r, ev.trans (if_pos ?_)⟩
  rw [(cuts_started l c s).2 ⟨hi, hk⟩, hrem hk hi, leftTo_startDirection hk hi, Bool.true_and, decide_eq_true_eq]
  rw [coastAllowance_eq] at hlo hhi
  split <;> omega

/-- The slow-down test writes the drive channels alone. -/
theorem slowTested_eq (l : LaneId) (r : Int) (x : SpeedClass) (s : State) :
    slowTested l r x s = { s with drives := (slowTested l r x s).drives } := by
  unfold slowTested; split <;> rfl

/-- Entry into SETTLING from a drive: the lane, its 50 ms brake and the actuator's run-on (R77, R122, R124). -/
theorem enterSettling_driving {a : ActId} (hd : s.drives[l].phase = .driving) (hc : s.drives[l].connected = some a) :
    (enterSettling l s).lanes[l].state = .settling ∧ Braking (enterSettling l s) l 50 false ∧
    (enterSettling l s).acts = put s.acts a { s.acts[a] with cond := .inRunOn, runOn := some runOnTime } := by
  refine ⟨by rw [enterSettling_lanes, put_self], ?_, by rw [enterSettling_acts, brake_acts]; simp only [hd, hc]⟩
  simpa only [Braking, enterSettling_drives] using braking_brake (ms := brakeTime) (rev := false) hd

/-- Settles O35: a started drive goes on after its first evaluation, or is cut at once. -/
theorem relayMadeStartsTheDrive : Obligations.RelayMadeStartsTheDrive := by
  intro s l
  refine ⟨fun c hc hm _ hcon hi hv hh hr hb hfar => ?_, fun c hc hm _ hcon hi hv hh hk hr he hlo hhi => ?_⟩
  · have e := exec_relayMade hm hc hi hv hh hr hb
    have hcu : (updDrive l (fun d => { d with makeTimer := none }) s).drives[l].connected = some c.act := by
      rw [updDrive_drives, put_self]; exact hcon
    obtain ⟨r, ev⟩ := evaluateDrive_started_far hcu hb hfar
    have drv := started_drive l c (updDrive l (fun d => { d with makeTimer := none }) s)
    have act := started_acts l c (updDrive l (fun d => { d with makeTimer := none }) s)
    have ram := started_ram l c (updDrive l (fun d => { d with makeTimer := none }) s)
    have str := started_store l c (updDrive l (fun d => { d with makeTimer := none }) s)
    have pos := started_position l c (updDrive l (fun d => { d with makeTimer := none }) s)
    have lod := started_loadStarted (l := l) (s := updDrive l (fun d => { d with makeTimer := none }) s) hr hb
    have eli := started_eligible (l := l) (s := updDrive l (fun d => { d with makeTimer := none }) s) hr
    have ori := started_origin l c (updDrive l (fun d => { d with makeTimer := none }) s)
    obtain ⟨hol, tim, req⟩ := started_frame l c (updDrive l (fun d => { d with makeTimer := none }) s)
    have lan := started_lane l c (updDrive l (fun d => { d with makeTimer := none }) s)
    have sd := slowTested_drive l r (driveClass c) (started l c (updDrive l (fun d => { d with makeTimer := none }) s))
    rw [ev, tryTune_of_motion _ (k := l) (by rw [slowTested_lanes, lan]; rfl), slowTested_eq] at e
    refine ⟨_, e, lan, ?_⟩
    generalize (slowTested l r (driveClass c) (started l c
      (updDrive l (fun d => { d with makeTimer := none }) s))).drives = d at sd
    rw [drv, updDrive_drives, put_self] at sd
    dsimp only
    have act' := (congrArg (·[c.act]) act).trans (put_self ..)
    exact ⟨congrArg (·.phase) sd, congrArg (·.duty) sd, (congrArg (·.connected) sd).trans hcon, congrArg (·.kind) sd,
      congrArg (·.endKind) sd, congrArg (·.aim) sd, congrArg (·.blanking) sd, congrArg (·.saturation) sd, tim,
      congrArg (·.direction) sd, congrArg (·.cls) sd, lod, eli, ori, congrArg (·.cond) act',
      congrArg (·.manualPulses) act', congrArg (·.runOn) act', congrArg (·.lastPolarity) act', ram, str, pos, hol, req⟩
  · have hr' : c.motion = .homing ∨ c.motion = .learnHome ∨ s.acts[c.act].referenced = true := .inr (.inr hr)
    have hb : c.motion ≠ .backOff := by rcases hk with h | h | h <;> rw [h] <;> decide
    have e := exec_relayMade hm hc hi hv hh hr' hb
    have hcu : (updDrive l (fun d => { d with makeTimer := none }) s).drives[l].connected = some c.act := by
      rw [updDrive_drives, put_self]; exact hcon
    obtain ⟨r, ev⟩ := evaluateDrive_started_near hcu hk he hlo hhi
    have drv := started_drive l c (updDrive l (fun d => { d with makeTimer := none }) s)
    have act := started_acts l c (updDrive l (fun d => { d with makeTimer := none }) s)
    have ram := started_ram l c (updDrive l (fun d => { d with makeTimer := none }) s)
    have pos := started_position l c (updDrive l (fun d => { d with makeTimer := none }) s)
    have lod := started_loadStarted (l := l) (s := updDrive l (fun d => { d with makeTimer := none }) s) hr' hb
    obtain ⟨hol, -, -⟩ := started_frame l c (updDrive l (fun d => { d with makeTimer := none }) s)
    have sd := slowTested_drive l r (driveClass c) (started l c (updDrive l (fun d => { d with makeTimer := none }) s))
    rw [if_pos hk] at lod
    rw [ev, slowTested_eq, tryTune_of_motion _ (k := l) (by rw [enterSettling_lanes, put_self]; rfl)] at e
    refine ⟨_, e, ?_⟩
    generalize (slowTested l r (driveClass c) (started l c
      (updDrive l (fun d => { d with makeTimer := none }) s))).drives = d at sd ⊢
    generalize started l c (updDrive l (fun d => { d with makeTimer := none }) s) = v at *
    obtain ⟨set, brk, cut⟩ := enterSettling_driving (l := l) (s := { v with drives := d }) (a := c.act)
      (by dsimp only; rw [sd, drv]) (by dsimp only; rw [sd, drv]; exact hcu)
    refine ⟨set, brk, by rw [cut, put_self], ?_, by rw [enterSettling_ram]; exact ram, fun b => ?_,
      by rw [enterSettling_holders]; exact hol⟩
    · rw [LoadStarted, enterSettling_loads]; exact lod
    · obtain ⟨p, q⟩ := pos b
      rw [cut, put_get]; split
      · next h => subst h; exact ⟨p, q⟩
      · exact ⟨p, q⟩

end
end Sys2Proof.Proofs
end

section
/-! The stall that ends a motion (R6, R7, R124, R125, R126, R154). -/

namespace Sys2Proof.Proofs

open Sys2Proof Sys2Proof.Machine Sys2Proof.Safety

section
variable {s t : State} {l : LaneId} {a : ActId} {k : MotionKind}

/-! ### Waiting lanes and pending preempts -/

/-- A lane outside CLAIMING has no entry on the wait list (R99). -/
theorem unlisted_of_state (w : WaitListFits s) (h : s.lanes[l].state ≠ .claiming) : Unlisted s l := fun e he q => by
  obtain ⟨-, -, listed, -⟩ := w
  subst q; exact h (listed e he)

theorem preemptWaits_of_calm (e : calm t = calm s) (h : PreemptWaits s) : PreemptWaits t := by
  rw [PreemptWaits, slot_of_calm e]; exact h

/-- A preempt that still awaits a lane is not evaluated (R63). -/
theorem settlePreempt_of_waits (h : PreemptWaits s) : settlePreempt s = s := by
  unfold settlePreempt
  split
  · rfl
  · next p hp =>
    rw [PreemptWaits, hp, Option.all_some, bne_iff_ne] at h
    rw [if_neg h]

theorem finish_of_waits (h : PreemptWaits s) : finish s = tryTune s := by rw [finish, settlePreempt_of_waits h]

theorem sameSettings_of_calm (e : calm t = calm s) : SameSettings s t := by
  have e := surr_of_outer (outer_of_calm e)
  exact ⟨ram_of_surr e, store_of_surr e, checksums_of_surr e⟩

/-! ### A drive that ends in SETTLING -/

/-- A drive of `s` ended into SETTLING, with the changes of a gate re-evaluation at most after it (R73, R77, R124). -/
structure SettledFrom (l : LaneId) (v t : State) : Prop where
  state : t.lanes[l].state = .settling
  braking : Braking t l 50 false
  load : t.loads[l] = v.loads[l]
  calm : calm t = calm v

/-- A drive whose lane enters SETTLING; a gate re-evaluation event may follow. -/
theorem settledFrom_enterSettling {v : State} (hd : v.drives[l].phase = .driving) (hc : v.drives[l].connected = some a) :
    SettledFrom l v (enterSettling l v) := by
  obtain ⟨set, brk, -⟩ := enterSettling_driving hd hc
  exact ⟨set, brk, by rw [enterSettling_loads], calm_enterSettling ..⟩

theorem SettledFrom.gateEvent {v : State} (h : SettledFrom l v t) (u : Unlisted t l) : SettledFrom l v (gateEvent t) := by
  have ap := apart_gateEvent t (l := l) (by rw [h.state]; decide) u
  refine ⟨by rw [ap.state, h.state], ?_, by rw [ap.load, h.load], (calm_gateEvent t).trans h.calm⟩
  rw [Braking, ap.drive]; exact h.braking

/-- A lane in SETTLING keeps a tune from starting, and a preempt that waits is left waiting (R63, R172). -/
theorem SettledFrom.finish_eq {v : State} (h : SettledFrom l v t) (p : PreemptWaits v) : finish t = t := by
  rw [finish_of_waits (preemptWaits_of_calm h.calm p), tryTune_of_motion t (k := l) (by rw [h.state]; rfl)]

/-! ### What a stall is taken as -/

theorem exec_stall (hc : s.drives[l].connected = some a) (hk : s.drives[l].kind = some k)
    (hd : s.drives[l].phase = .driving) (hm : StallMeasured s.drives[l]) (hb : s.drives[l].blanking = false) :
    exec (.stall l) s = .next (finish (takeStall l a k s)) := by
  simp only [exec, execStall, hc, hk]
  rw [if_pos]
  simp only [Bool.and_eq_true, decide_eq_true_eq, hd, hb, true_and, Bool.not_false, Drive.stalled, stallLimit]
  exact hm

theorem exec_stall_none (h : s.drives[l].phase ≠ .driving ∨ s.drives[l].blanking = true ∨ ¬ StallMeasured s.drives[l]) :
    exec (.stall l) s = .next s := by
  have off : (decide (s.drives[l].phase = .driving) && !s.drives[l].blanking && s.drives[l].stalled) = false := by
    rcases h with h | h | h
    · rw [decide_eq_false h, Bool.false_and, Bool.false_and]
    · rw [h, Bool.not_true, Bool.and_false, Bool.false_and]
    · rw [Drive.stalled, stallLimit, Bool.eq_false_iff.2 h, Bool.and_false]
  simp only [exec, execStall]
  split
  · rw [off]; rfl
  · rfl

/-- R126: a homing, a learn homing, and a motion to END_LOW that stalls at the low end reference the actuator. -/
theorem takeStall_low (h : k = .homing ∨ k = .learnHome ∨ ((k = .step ∨ k = .correction ∨ k = .learnReturn) ∧
    s.drives[l].endKind = some .low ∧ s.drives[l].direction = some .decreasing ∧ s.acts[a].position ≤ 30)) :
    takeStall l a k s = referenceAtLow l a s := by
  rcases h with rfl | rfl | ⟨hk, he, hd, hp⟩
  · rfl
  · rfl
  · have low : (decide (s.drives[l].endKind = some .low) && decide (s.drives[l].direction = some .decreasing) &&
        decide (s.acts[a].position ≤ endWindow)) = true := by simp [-Fin.getElem_fin, he, hd, endWindow, hp]
    rcases hk with rfl | rfl | rfl <;> exact if_pos low

/-- R126: a motion to END_HIGH that stalls at the high end completes there. -/
theorem takeStall_high (hk : k = .step ∨ k = .correction ∨ k = .learnReturn) (he : s.drives[l].endKind = some .high)
    (hd : s.drives[l].direction = some .increasing) (hp : s.ram.actuators[a].travel - 30 ≤ s.acts[a].position) :
    takeStall l a k s = completeAtHigh l a s := by
  have low : ¬ (decide (s.drives[l].endKind = some .low) && decide (s.drives[l].direction = some .decreasing) &&
      decide (s.acts[a].position ≤ endWindow)) = true := by simp [-Fin.getElem_fin, he]
  have high : (decide (s.drives[l].endKind = some .high) && decide (s.drives[l].direction = some .increasing) &&
      decide (s.ram.actuators[a].travel - endWindow ≤ s.acts[a].position)) = true := by
    simp [-Fin.getElem_fin, he, hd, endWindow]; simpa using hp
  rcases hk with rfl | rfl | rfl <;> exact (if_neg low).trans (if_pos high)

/-- A homing completion settles the lane, and is followed by a gate re-evaluation where the reference is new (R7). -/
theorem settledFrom_referenceAtLow (u : Unlisted s l) (hd : s.drives[l].phase = .driving)
    (hc : s.drives[l].connected = some a) :
    SettledFrom l (updAct a (fun x => { x with position := 0, referenced := true, manualPulses := 0 }) s)
      (referenceAtLow l a s) := by
  have h := settledFrom_enterSettling (l := l) (a := a)
    (v := updAct a (fun x => { x with position := 0, referenced := true, manualPulses := 0 }) s)
    (by rw [updAct_drives]; exact hd) (by rw [updAct_drives]; exact hc)
  have u' : Unlisted (enterSettling l
      (updAct a (fun x => { x with position := 0, referenced := true, manualPulses := 0 }) s)) l := by
    rw [Unlisted, enterSettling_waitList, updAct_waitList]; exact u
  unfold referenceAtLow; dsimp only
  split
  · exact h
  · exact h.gateEvent u'

/-- Settles O33: each of the stalls that end a motion settles the lane with the counts of R7 and R154. -/
theorem stallAtTheEndCompletesTheMotion : Obligations.StallAtTheEndCompletesTheMotion := by
  intro s l w p
  refine ⟨fun a hc k hk hd hm hb hs h => ?_, fun a hc k hk hd hm hb hs h he hdir hp => ?_,
    fun a hc k hk hd hm hb hs h => ?_, exec_stall_none⟩
  · have e := exec_stall hc hk hd hm hb
    have u : Unlisted s l := unlisted_of_state w (by rw [hs]; decide)
    have st := settledFrom_referenceAtLow u hd hc
    rw [takeStall_low h, st.finish_eq (by rw [PreemptWaits, updAct_request]; exact p)] at e
    have su := surr_of_outer (outer_of_calm st.calm)
    refine ⟨_, e, st.state, st.braking, ?_, ?_, ?_, ?_, fun b hb => ?_⟩
    · have := sameSettings_of_calm st.calm
      rwa [SameSettings, updAct_ram, updAct_store, updAct_checksums] at this
    · rw [position_of_surr su, updAct_acts, put_self]
    · rw [referenced_of_surr su, updAct_acts, put_self]
    · rw [manualPulses_of_surr su, updAct_acts, put_self]
    · rw [position_of_surr su, referenced_of_surr su, updAct_acts, put_other _ hb]; exact ⟨rfl, rfl⟩
  · have e := exec_stall hc hk hd hm hb
    have st : SettledFrom l (updAct a (fun x => { x with position := s.ram.actuators[a].travel, manualPulses := 0 }) s)
        (completeAtHigh l a s) := settledFrom_enterSettling (a := a) (by rw [updAct_drives]; exact hd)
          (by rw [updAct_drives]; exact hc)
    rw [takeStall_high h he hdir hp, st.finish_eq (by rw [PreemptWaits, updAct_request]; exact p)] at e
    have su := surr_of_outer (outer_of_calm st.calm)
    refine ⟨_, e, st.state, st.braking, ?_, ?_, ?_, fun b => ⟨?_, fun ne => ?_⟩⟩
    · have := sameSettings_of_calm st.calm
      rwa [SameSettings, updAct_ram, updAct_store, updAct_checksums] at this
    · rw [position_of_surr su, updAct_acts, put_self]
    · rw [manualPulses_of_surr su, updAct_acts, put_self]
    · rw [referenced_of_surr su, updAct_acts, put_get]; split
      · next q => subst q; rfl
      · rfl
    · rw [position_of_surr su, updAct_acts, put_other _ ne]
  · have e := exec_stall hc hk hd hm hb
    have st : SettledFrom l (updLoad l (fun x => { x with learn := x.learn.map fun r =>
        { r with travel := some s.acts[a].position } }) s) (riseEnd l a s) := settledFrom_enterSettling (a := a) hd hc
    have eq : takeStall l a k s = riseEnd l a s := by rw [h]; rfl
    rw [eq, st.finish_eq p] at e
    have c := st.calm.trans (calm_updLoad s l _)
    have su := surr_of_outer (outer_of_calm c)
    refine ⟨_, e, st.state, st.braking, sameSettings_of_calm c,
      fun b => ⟨position_of_surr su b, referenced_of_surr su b⟩, ?_⟩
    rw [st.load, updLoad_loads, put_self]

end
end Sys2Proof.Proofs
end

section
/-! The fence clear timer of a lane in FENCED (R109, R110): it runs exactly while no zone that the lane holds is fenced, and
the start of a tune, with the suspensions and grants that follow it, keeps it so. -/

namespace Sys2Proof.Proofs

open Sys2Proof Sys2Proof.Machine Sys2Proof.Safety

section
variable {s t : State} {l k : LaneId}

theorem fenced_congr (h : t.chans = s.chans) (g : t.ram.channels = s.ram.channels) : fenced t = fenced s := by
  simp only [fenced, fenceView, guardUnion, h, g]

theorem heldBy_congr (h : t.holders = s.holders) (l : LaneId) : heldBy t l = heldBy s l := by simp only [heldBy, h]

/-- A lane in FENCED, off the wait list, whose clear timer runs exactly while no zone it holds is fenced; the channel of a
tune in progress is outside CLEAR. -/
structure Fencing (l : LaneId) (s : State) : Prop where
  state : s.lanes[l].state = .fenced
  list : Unlisted s l
  timer : s.lanes[l].clearTimer = if meets (heldBy s l) (fenced s) then none else some clearTime
  tune : ∀ k : Tune, s.presence.tune = some k → s.chans[k.channel].state ≠ .clear

/-- What the fence of a lane depends on is the same. -/
structure SameFences (l : LaneId) (s t : State) : Prop where
  lane : t.lanes[l] = s.lanes[l]
  held : heldBy t l = heldBy s l
  chans : t.chans = s.chans
  guards : t.ram.channels = s.ram.channels
  tune : t.presence.tune = s.presence.tune
  list : Unlisted s l → Unlisted t l

theorem SameFences.refl : SameFences l s s := ⟨rfl, rfl, rfl, rfl, rfl, id⟩

theorem Fencing.same (f : Fencing l s) (h : SameFences l s t) : Fencing l t := by
  obtain ⟨lane, held, chans, guards, tune, list⟩ := h
  refine ⟨by rw [lane, f.state], list f.list, ?_, fun k hk => ?_⟩
  · rw [lane, held, fenced_congr chans guards, f.timer]
  · rw [chans]; rw [tune] at hk; exact f.tune k hk

theorem SameFences.of (h1 : t.lanes[l] = s.lanes[l]) (h2 : t.holders = s.holders) (h3 : t.chans = s.chans)
    (h4 : t.ram = s.ram) (h5 : t.presence.tune = s.presence.tune) (h6 : t.waitList = s.waitList) : SameFences l s t :=
  ⟨h1, heldBy_congr h2 l, h3, by rw [h4], h5, fun u => by rw [Unlisted, h6]; exact u⟩

theorem sameFences_activate (s : State) : SameFences l s (activate s) := by
  refine .of ?_ ?_ ?_ ?_ ?_ ?_ <;> simp

/-! ### Unfences and fences -/

/-- An unfence of zones starts the lane's clear timer (R110). -/
def unfences (left : ZoneSet) (s : State) (l : LaneId) : Bool :=
  s.lanes[l].state = .fenced && meets left (heldBy s l) && !meets (heldBy s l) (fenced s)

/-- The unfence starts the clear timer of a FENCED lane whose last fenced zone has cleared (R110). -/
theorem deliverUnfence_lane (left : ZoneSet) (s : State) (l : LaneId) :
    (deliverUnfence left s).lanes[l] =
      if unfences left s l then { s.lanes[l] with clearTimer := some clearTime } else s.lanes[l] := by
  suffices h : ∀ (xs : List LaneId) (s : State), (xs.foldl (fun s l => if unfences left s l then
      updLane l (fun r => { r with clearTimer := some clearTime }) s else s) s).lanes[l] =
      if l ∈ xs ∧ unfences left s l = true then { s.lanes[l] with clearTimer := some clearTime } else s.lanes[l] by
    refine (h allLanes s).trans ?_; simp only [mem_allLanes, true_and]
  intro xs
  induction xs with
  | nil => intro s; simp
  | cons x xs ih =>
    intro s
    rw [List.foldl_cons, ih]
    split
    · next g =>
      by_cases e : l = x
      · subst e
        have lane : (updLane l (fun r => { r with clearTimer := some clearTime }) s).lanes[l] =
            { s.lanes[l] with clearTimer := some clearTime } := by rw [updLane_lanes, put_self]
        rw [lane, if_pos (⟨List.mem_cons_self .., g⟩ : l ∈ l :: xs ∧ _)]
        split <;> rfl
      · have lane : (updLane x (fun r => { r with clearTimer := some clearTime }) s).lanes[l] = s.lanes[l] := by
          rw [updLane_lanes, put_other _ e]
        have un : unfences left (updLane x (fun r => { r with clearTimer := some clearTime }) s) l = unfences left s l := by
          rw [unfences, lane, heldBy_congr (s := s) (by simp) l, fenced_congr (s := s) (by simp) (by simp)]; rfl
        rw [lane, un]; simp only [List.mem_cons, e, false_or]
    · next g =>
      by_cases e : l = x
      · subst e
        have off (p : Prop) : ¬ (p ∧ unfences left s l = true) := fun h => g h.2
        exact (if_neg (off _)).trans (if_neg (off _)).symm
      · simp only [List.mem_cons, e, false_or]

theorem deliverUnfence_sameBut (left : ZoneSet) (s : State) : (deliverUnfence left s).holders = s.holders ∧
    (deliverUnfence left s).chans = s.chans ∧ (deliverUnfence left s).ram = s.ram ∧
    (deliverUnfence left s).presence = s.presence ∧ (deliverUnfence left s).waitList = s.waitList := by
  refine ⟨foldl_keeps State.holders (fun s a => ?_) _ s, foldl_keeps State.chans (fun s a => ?_) _ s,
    foldl_keeps State.ram (fun s a => ?_) _ s, foldl_keeps State.presence (fun s a => ?_) _ s,
    foldl_keeps State.waitList (fun s a => ?_) _ s⟩ <;> (split <;> simp)

/-- An unfence of all the zones that have left the fence set `F` sets the timer right. -/
theorem fencing_deliverUnfence {F : ZoneSet} (hs : s.lanes[l].state = .fenced) (u : Unlisted s l)
    (hF : ∀ z : ZoneId, has (fenced s) z = true → has F z = true)
    (ht : s.lanes[l].clearTimer = if meets (heldBy s l) F then none else some clearTime)
    (hk : ∀ k : Tune, s.presence.tune = some k → s.chans[k.channel].state ≠ .clear) :
    Fencing l (deliverUnfence (F &&& ~~~fenced s) s) := by
  obtain ⟨hol, cha, ram, pre, wl⟩ := deliverUnfence_sameBut (F &&& ~~~fenced s) s
  have lane := deliverUnfence_lane (F &&& ~~~fenced s) s l
  refine ⟨?_, by rw [Unlisted, wl]; exact u, ?_, fun k => by rw [pre, cha]; exact hk k⟩
  · rw [lane]; split <;> exact hs
  · rw [heldBy_congr hol, fenced_congr cha (by rw [ram]), lane]
    cases now : meets (heldBy s l) (fenced s) with
    | true =>
      obtain ⟨z, h1, h2⟩ := meets_iff.1 now
      rw [if_neg (by rw [unfences, now, Bool.not_true, Bool.and_false]; decide), ht, meets_iff.2 ⟨z, h1, hF z h2⟩]
    | false =>
      cases left : meets (F &&& ~~~fenced s) (heldBy s l) with
      | true => rw [if_pos (by rw [unfences, hs, left, now]; rfl)]; rfl
      | false =>
        have before : meets (heldBy s l) F = false := by
          rw [meets_eq_false] at left now ⊢
          intro z hz
          have := left z
          rw [has_and, has_not, now z hz, Bool.not_false, Bool.and_true] at this
          cases q : has F z with
          | false => rfl
          | true => exact absurd hz (by rw [this q]; decide)
        rw [if_neg (by rw [unfences, left, Bool.and_false, Bool.false_and]; decide), ht, before]

/-- The suspension of a tune keeps a FENCED lane's timer right (R110, R175). -/
theorem Fencing.suspendTune (f : Fencing l s) : Fencing l (suspendTune s) := by
  unfold Machine.suspendTune; split
  · exact f
  · next k hk =>
    extract_lets before p q u after v w
    have chans : v.chans = put s.chans k.channel { s.chans[k.channel].runsCleared with
        state := k.savedState, baseline := k.savedBaseline, filtered := k.savedFiltered } := markIf_chans ..
    have lanes : v.lanes = s.lanes := markIf_lanes ..
    have held : heldBy v l = heldBy s l := heldBy_congr (markIf_holders ..) l
    have ram : v.ram = s.ram := markIf_ram ..
    have list : v.waitList = s.waitList := markIf_waitList ..
    have tune : v.presence.tune = none := by simp [v, u]
    have left : before.all &&& ~~~after.all = fenced s &&& ~~~fenced v := by
      rw [fenced_congr (s := u) (t := v) (markIf_chans ..) (by rw [markIf_ram])]; rfl
    have fw : Fencing l w := by
      change Fencing l (deliverUnfence (before.all &&& ~~~after.all) v)
      rw [left]
      refine fencing_deliverUnfence (by rw [lanes]; exact f.state) (by rw [Unlisted, list]; exact f.list) (fun z hz => ?_)
        (by rw [lanes, held]; exact f.timer) fun j h => by rw [tune] at h; cases h
      rw [has_fenced] at hz ⊢
      obtain ⟨c, h, g⟩ := hz
      rw [ram] at g
      refine ⟨c, ?_, g⟩
      by_cases e : c = k.channel
      · exact e ▸ f.tune k hk
      · rwa [chans, put_other _ e] at h
    exact fw.same (sameFences_activate w)

/-- The fences of zones that have entered the fence set stop the clear timer of a FENCED lane that holds one (R107). -/
theorem fenceLanes_fenced (entered : ZoneSet) (h : s.lanes[l].state = .fenced) :
    (allLanes.foldl (fenceLane entered) s).lanes[l] =
      if meets entered (heldBy s l) = true then { s.lanes[l] with clearTimer := none } else s.lanes[l] := by
  suffices g : ∀ (xs : List LaneId) (s : State), s.lanes[l].state = .fenced →
      (xs.foldl (fenceLane entered) s).lanes[l] =
        if l ∈ xs ∧ meets entered (heldBy s l) = true then { s.lanes[l] with clearTimer := none } else s.lanes[l] by
    rw [g _ s h]; simp only [mem_allLanes, true_and]
  intro xs
  induction xs with
  | nil => intro s _; simp
  | cons x xs ih =>
    intro s h
    have held : heldBy (fenceLane entered s x) l = heldBy s l := heldBy_congr (by
      unfold fenceLane; split
      · split <;> simp
      · rfl) l
    by_cases e : l = x
    · subst e
      have one : (fenceLane entered s l).lanes[l] =
          if meets entered (heldBy s l) = true then { s.lanes[l] with clearTimer := none } else s.lanes[l] := by
        unfold fenceLane; split
        · rw [h]; simp [-Fin.getElem_fin]
        · rfl
      rw [List.foldl_cons, ih _ (by rw [one]; split <;> exact h), held, one]
      by_cases m : meets entered (heldBy s l) = true
      · simp only [m, and_true, if_true, List.mem_cons, true_or, and_self]; split <;> rfl
      · simp only [m, Bool.false_eq_true, if_false, and_false]
    · have one : (fenceLane entered s x).lanes[l] = s.lanes[l] := by
        unfold fenceLane; split
        · split <;> simp [-Fin.getElem_fin, put_other _ e]
        · rfl
      rw [List.foldl_cons, ih _ (by rw [one]; exact h), held, one]
      simp only [List.mem_cons, e, false_or]

theorem fenceLanes_sameBut (entered : ZoneSet) (s : State) :
    (allLanes.foldl (fenceLane entered) s).holders = s.holders ∧
    (allLanes.foldl (fenceLane entered) s).chans = s.chans ∧ (allLanes.foldl (fenceLane entered) s).ram = s.ram ∧
    (allLanes.foldl (fenceLane entered) s).presence = s.presence ∧
    (allLanes.foldl (fenceLane entered) s).waitList = s.waitList := by
  refine ⟨foldl_keeps State.holders (fun s a => ?_) _ s, foldl_keeps State.chans (fun s a => ?_) _ s,
    foldl_keeps State.ram (fun s a => ?_) _ s, foldl_keeps State.presence (fun s a => ?_) _ s,
    foldl_keeps State.waitList (fun s a => ?_) _ s⟩ <;> (unfold fenceLane; split; (split <;> simp); rfl)

/-! ### Grants and yield tests -/

theorem Fencing.grant (f : Fencing l s) (e : WaitEntry) (h : e.lane ≠ l) (g : grantable s e.wanted = true) :
    Fencing l (grant e s) := by
  have a : Apart l s (leaveList e.lane (setHolders e.wanted (some e.lane) s)) := by
    refine .trans (apart_setHolders s e.wanted (some e.lane) (fun x => h (Option.some.inj x)) fun z hz => ?_)
      (apart_leaveList _)
    rw [((grantable_iff s _).1 g z hz).1]; simp
  have a' : SameFences l s (leaveList e.lane (setHolders e.wanted (some e.lane) s)) :=
    ⟨rfl, a.zones, rfl, rfl, rfl, a.list⟩
  unfold Machine.grant; dsimp only
  have f' : Fencing l (if e.wanted = 0#12 then leaveList e.lane (setHolders e.wanted (some e.lane) s)
      else mark (.lane e.lane) (mark .sets (leaveList e.lane (setHolders e.wanted (some e.lane) s)))) := by
    split
    · exact f.same a'
    · exact (f.same a').same (.of rfl rfl rfl rfl rfl rfl)
  generalize (if e.wanted = 0#12 then leaveList e.lane (setHolders e.wanted (some e.lane) s)
      else mark (.lane e.lane) (mark .sets (leaveList e.lane (setHolders e.wanted (some e.lane) s)))) = u at f' ⊢
  unfold enterArming; split
  · exact f'
  · refine (f'.same ?_).suspendTune
    refine .of ?_ ?_ ?_ ?_ ?_ ?_ <;> simp [-Fin.getElem_fin, put_other _ (Ne.symm h)]

theorem Fencing.yieldTest (f : Fencing l s) (e : WaitEntry) : Fencing l (yieldTest e s) := by
  unfold Machine.yieldTest; split
  · refine Fencing.suspendTune (f.same ⟨rfl, rfl, rfl, rfl, rfl, fun u x hx => ?_⟩)
    obtain ⟨y, hy, rfl⟩ := List.mem_map.1 hx
    split <;> exact u y hy
  · exact f

theorem Fencing.foldl {α : Type} {g : State → α → State} (h : ∀ s x, Fencing l s → Fencing l (g s x)) (xs : List α)
    (f : Fencing l s) : Fencing l (xs.foldl g s) := by
  induction xs generalizing s with
  | nil => exact f
  | cons x xs ih => exact ih (h s x f)

theorem Fencing.scanOnce (f : Fencing l s) : Fencing l (scanOnce s) := by
  refine Fencing.foldl (fun s k f => ?_) _ f
  unfold visit; split
  · exact f
  · next e he =>
    split
    · next g => exact f.grant e (f.list e (entryOf_some s he).1) g
    · exact f.yieldTest e

theorem Fencing.rescanned (r : State) (f : Fencing l s) : Fencing l (rescanned r s) := by
  unfold Machine.rescanned; split
  · exact f.scanOnce
  · exact f

theorem Fencing.yieldTests (f : Fencing l s) : Fencing l (yieldTests s) := by
  refine Fencing.rescanned _ (Fencing.foldl (fun s k f => ?_) _ f)
  split
  · exact f
  · exact f.yieldTest _

/-! ### The start of a tune -/

theorem has_within (v : FenceView) (g : ZoneSet) (z : ZoneId) : has (v.within g).all z = (has v.all z && has g z) := by
  simp only [FenceView.within, FenceView.all, has_or, has_and, Bool.and_or_distrib_right]

/-- A channel that has gone outside CLEAR: the fences that its guard set brings keep a FENCED lane's timer right. -/
theorem fencing_fenceEvent {c : ChanId} (hs : s.lanes[l].state = .fenced) (u : Unlisted s l) (v : FenceView)
    (hv : ∀ z : ZoneId, has (fenced s) z = true ↔ has v.all z = true ∨ has s.ram.channels[c].guard z = true)
    (ht : s.lanes[l].clearTimer = if meets (heldBy s l) v.all then none else some clearTime)
    (hk : ∀ k : Tune, s.presence.tune = some k → s.chans[k.channel].state ≠ .clear) :
    Fencing l (fenceEvent (v.within s.ram.channels[c].guard) ((fenceView s).within s.ram.channels[c].guard) s) := by
  have after (z : ZoneId) : has ((fenceView s).within s.ram.channels[c].guard).all z = has s.ram.channels[c].guard z := by
    rw [has_within]
    cases g : has s.ram.channels[c].guard z with
    | false => rw [Bool.and_false]
    | true => rw [Bool.and_true]; exact (hv z).2 (.inr g)
  unfold fenceEvent; split
  · next e =>
    have same : fenced s = v.all := set_ext fun z => by
      rw [Bool.eq_iff_iff, hv z]
      refine ⟨fun h => h.elim id fun g => ?_, .inl⟩
      have := after z
      rw [← e, has_within, g, Bool.and_true] at this
      exact this
    exact ⟨hs, u, by rw [same]; exact ht, hk⟩
  · dsimp only
    have left : (v.within s.ram.channels[c].guard).all &&& ~~~((fenceView s).within s.ram.channels[c].guard).all = 0#12 := by
      rw [eq_zero_iff]
      intro z
      rw [has_and, has_not, after, has_within]
      cases has v.all z <;> cases has s.ram.channels[c].guard z <;> rfl
    rw [left, if_pos rfl]
    generalize hent : ((fenceView s).within s.ram.channels[c].guard).all &&&
      ~~~(v.within s.ram.channels[c].guard).all = entered
    have ent (z : ZoneId) : has entered z = (has s.ram.channels[c].guard z && !has v.all z) := by
      rw [← hent, has_and, has_not, after, has_within]
      cases has v.all z <;> cases has s.ram.channels[c].guard z <;> rfl
    refine Fencing.yieldTests ?_
    obtain ⟨hol, cha, ram, pre, wl⟩ := fenceLanes_sameBut entered (mark .sets s)
    obtain ⟨hol', cha', ram', pre', wl'⟩ := deliverUnfence_sameBut 0#12 (allLanes.foldl (fenceLane entered) (mark .sets s))
    have none_left : meets (0#12) (heldBy (allLanes.foldl (fenceLane entered) (mark .sets s)) l) = false :=
      meets_eq_false.2 fun z hz => by rw [has_zero] at hz; cases hz
    have lane : (deliverUnfence 0#12 (allLanes.foldl (fenceLane entered) (mark .sets s))).lanes[l] =
        if meets entered (heldBy s l) = true then { s.lanes[l] with clearTimer := none } else s.lanes[l] := by
      rw [deliverUnfence_lane, if_neg (by rw [unfences, none_left, Bool.and_false, Bool.false_and]; decide)]
      exact fenceLanes_fenced entered (s := mark .sets s) hs
    refine ⟨?_, by rw [Unlisted, wl', wl]; exact u, ?_, fun k => by rw [pre', pre, cha', cha]; exact hk k⟩
    · rw [lane]; split <;> exact hs
    · rw [heldBy_congr (hol'.trans hol), fenced_congr (cha'.trans cha) (by rw [ram', ram]), lane]
      change _ = if meets (heldBy s l) (fenced s) = true then none else some clearTime
      by_cases m : meets entered (heldBy s l) = true
      · obtain ⟨z, h1, h2⟩ := meets_iff.1 m
        rw [ent, Bool.and_eq_true] at h1
        rw [if_pos m, if_pos (meets_iff.2 ⟨z, h2, (hv z).2 (.inr h1.1)⟩)]
      · have same : meets (heldBy s l) (fenced s) = meets (heldBy s l) v.all := by
          rw [Bool.eq_iff_iff, meets_iff, meets_iff]
          refine exists_congr fun z => and_congr_right fun hz => ?_
          rw [hv z]
          refine ⟨fun h => h.elim id fun g => ?_, .inl⟩
          rw [Bool.not_eq_true, meets_eq_false] at m
          have no := m z
          rw [ent, g, Bool.true_and, hz] at no
          cases q : has v.all z with
          | true => rfl
          | false => rw [q] at no; exact absurd (no rfl) (by decide)
        rw [if_neg m, ht, same]

/-- The state in which a channel has just entered TUNING (R172). -/
def tuningOf (c : ChanId) (s : State) : State :=
  updChan c (fun x => { x with state := .tuning, driftTimer := none })
    { s with presence := { s.presence with tune := some {
        channel := c, savedBaseline := s.chans[c].baseline, savedFiltered := s.chans[c].filtered
        savedState := s.chans[c].state, bit := 32, trialGain := 32, kept := none, sum := 0, count := 0 } } }

theorem tuningOf_self (c : ChanId) (s : State) : (tuningOf c s).chans[c].state = .tuning := by
  rw [tuningOf, updChan_chans, put_self]
theorem tuningOf_other {c d : ChanId} (s : State) (h : d ≠ c) : (tuningOf c s).chans[d] = s.chans[d] := by
  rw [tuningOf, updChan_chans, put_other _ h]

/-- The fence event of a channel that enters TUNING keeps a FENCED lane's timer right (R107, R172). -/
theorem fencing_tuning (c : ChanId) (f : Fencing l s) :
    Fencing l (fenceEvent ((fenceView s).within s.ram.channels[c].guard)
      ((fenceView (tuningOf c s)).within s.ram.channels[c].guard) (tuningOf c s)) := by
  have out : (tuningOf c s).chans[c].state ≠ .clear := by rw [tuningOf_self]; decide
  refine fencing_fenceEvent (s := tuningOf c s) (c := c) f.state f.list (fenceView s) (fun z => ?_) f.timer
    fun k hk => ?_
  · change has (fenced (tuningOf c s)) z = true ↔ has (fenced s) z = true ∨ _
    rw [has_fenced, has_fenced]
    refine ⟨fun ⟨d, h, g⟩ => ?_, ?_⟩
    · by_cases e : d = c
      · subst e; exact .inr g
      · rw [tuningOf_other s e] at h; exact .inl ⟨d, h, g⟩
    · rintro (⟨d, h, g⟩ | g)
      · refine ⟨d, ?_, g⟩
        by_cases e : d = c
        · exact e ▸ out
        · rw [tuningOf_other s e]; exact h
      · exact ⟨c, out, g⟩
  · cases hk; exact out

/-- The rest of the handing on of a channel's state change (R168). -/
theorem sameFences_handedOn (c : ChanId) (s : State) : SameFences l s
    (if ((activate s).chans[c].state = .clear || (activate s).chans[c].state = .tuning) = true then activate s
      else dequeue c (activate s)) := by
  split
  · exact sameFences_activate s
  · refine .of ?_ ?_ ?_ ?_ ?_ ?_ <;> simp [dequeue]

/-- The start of a tune keeps a FENCED lane's timer right (R107, R172). -/
theorem Fencing.tryTune (f : Fencing l s) : Fencing l (tryTune s) := by
  unfold Machine.tryTune; split
  · exact f
  · next c _ =>
    split
    · exact f
    · exact (fencing_tuning c f).same (sameFences_handedOn c _)

/-- The clear timer of a lane in FENCED is right when a command ends, where it was right before the tune (R109, R172). -/
theorem clearTimer_tryTune (hs : s.lanes[l].state = .fenced) (u : Unlisted s l)
    (ht : s.lanes[l].clearTimer = if meets (heldBy s l) (fenced s) then none else some clearTime) :
    (tryTune s).lanes[l].clearTimer = if meets (heldBy (tryTune s) l) (fenced (tryTune s)) then none else some clearTime := by
  cases k : s.presence.tune with
  | none => exact (Fencing.tryTune ⟨hs, u, ht, fun j h => by rw [k] at h; cases h⟩).timer
  | some j =>
    have same : tryTune s = s := by
      unfold Machine.tryTune; split
      · rfl
      · rw [if_pos]; rw [k]; rfl
    rw [same]; exact ht

end
end Sys2Proof.Proofs
end

section
/-! The ends of a lane's arrangement (R36, R70, R90): what the lane is left with, and that the start of a tune leaves it so. -/

namespace Sys2Proof.Proofs

open Sys2Proof Sys2Proof.Machine Sys2Proof.Safety

section
variable {s t : State} {l k : LaneId}

/-! ### The release of what a lane holds -/

@[simp] theorem unbindLane_drives (s : State) : (unbindLane k s).drives = s.drives :=
  foldl_keeps State.drives (fun s a => by split <;> rfl) _ s
@[simp] theorem unbindLane_request (s : State) : (unbindLane k s).request = s.request :=
  foldl_keeps State.request (fun s a => by split <;> rfl) _ s
@[simp] theorem unbindLane_holders (s : State) : (unbindLane k s).holders = s.holders :=
  foldl_keeps State.holders (fun s a => by split <;> rfl) _ s
@[simp] theorem unbindLane_waitList (s : State) : (unbindLane k s).waitList = s.waitList :=
  foldl_keeps State.waitList (fun s a => by split <;> rfl) _ s

theorem heldBy_setHolders_none (l : LaneId) (s : State) : heldBy (setHolders (heldBy s l) none s) l = 0#12 := by
  rw [eq_zero_iff]
  intro z
  rw [has_heldBy]; simp only [setHolders, tab_get, has_heldBy]
  by_cases h : s.holders[z] = some l
  · rw [decide_eq_true h, if_pos rfl]; rfl
  · rw [decide_eq_false h, if_neg (by decide), decide_eq_false h]

/-- A lane off the wait list that releases everything holds no zone, and nothing else of it changes (R104). -/
theorem releaseAll_own (u : Unlisted s l) : ∃ v, Spared l v (releaseAll l s) ∧ heldBy v l = 0#12 ∧
    v.lanes = s.lanes ∧ v.drives = s.drives ∧ v.loads = s.loads ∧ Unlisted v l := by
  have own : heldBy s l &&& heldBy s l = heldBy s l := set_ext fun z => by rw [has_and, Bool.and_self]
  by_cases h : heldBy s l = 0#12
  · have e : releaseAll l s = s := by unfold releaseAll release; rw [own, if_pos h]
    exact ⟨s, by rw [e]; exact .refl, h, rfl, rfl, rfl, u⟩
  · have e : releaseAll l s = scan (mark (.lane l) (mark .sets (setHolders (heldBy s l) none s))) := by
      unfold releaseAll release; rw [own, if_neg h]
    refine ⟨mark (.lane l) (mark .sets (setHolders (heldBy s l) none s)), ?_, heldBy_setHolders_none l s, rfl, rfl, rfl, u⟩
    rw [e]
    exact (moves_scan (L := fun _ => False) _).spared id u

/-- The release of everything by a lane off the wait list and outside FENCED leaves its record and channel (R104). -/
theorem releaseAll_kept (u : Unlisted s l) (h : s.lanes[l].state ≠ .fenced) :
    (releaseAll l s).lanes[l] = s.lanes[l] ∧ (releaseAll l s).drives[l] = s.drives[l] ∧
    (releaseAll l s).loads[l] = s.loads[l] ∧ heldBy (releaseAll l s) l = 0#12 ∧ Unlisted (releaseAll l s) l := by
  obtain ⟨v, sp, held, lanes, drives, loads, list⟩ := releaseAll_own u
  refine ⟨?_, by rw [sp.apart.drive, drives], by rw [sp.apart.load, loads], by rw [sp.apart.zones, held], sp.apart.list list⟩
  rw [sp.record (by rw [lanes]; exact h), lanes]

/-! ### The entry into IDLE or OFFLINE -/

/-- The lane's arrangement of `s` has ended in `t` with the state and result given (R70, R90). -/
structure Freed (l : LaneId) (x : LaneState) (r : Result) (s t : State) : Prop where
  free : x.free = true
  lane : t.lanes[l] = { s.lanes[l].leaving with
    state := x, lastResult := some r, ctx := none, inline := none, bound := [] }
  unbound : Unbound l t
  drive : t.drives[l] = s.drives[l]
  list : Unlisted t l
  outer : outer t = outer s
  slot : t.request.slot = s.request.slot.map fun p => { p with awaited := p.awaited &&& ~~~single l }

theorem Freed.nonfenced {x : LaneState} {r : Result} (f : Freed l x r s t) : x ≠ .fenced := fun e => by
  have := f.free; rw [e] at this; exact absurd this (by decide)

/-- An operation that spares the lane and is calm leaves its arrangement ended. -/
theorem Freed.spared {x : LaneState} {r : Result} {u : State} (f : Freed l x r s t) (sp : Spared l t u)
    (c : calm u = calm t) : Freed l x r s u := by
  have nf : t.lanes[l].state ≠ .fenced := by rw [f.lane]; exact f.nonfenced
  exact ⟨f.free, (sp.record nf).trans f.lane, f.unbound.of_calm c, sp.apart.drive.trans f.drive, sp.apart.list f.list,
    (outer_of_calm c).trans f.outer, (slot_of_calm c).trans f.slot⟩

theorem Freed.tryTune {x : LaneState} {r : Result} (f : Freed l x r s t) : Freed l x r s (tryTune t) :=
  f.spared (spared_tryTune f.list) (calm_tryTune t)

theorem freed_enterIdle (l : LaneId) (r : Result) (s : State) :
    Freed l .idle r s (enterIdle l r s) ∧ heldBy (enterIdle l r s) l = 0#12 := by
  have out := outer_enterIdle s l r
  unfold enterIdle
  extract_lets v w x y z q
  have xl : x.lanes[l] = { s.lanes[l].leaving with state := .idle, lastResult := some r, ctx := none, inline := none } := by
    simp only [x, updLoad_lanes, w, updLane_lanes, put_self, v, leaveList_lanes]
  have xu : Unlisted x l := by
    simp only [x, w, Unlisted, updLoad_waitList, updLane_waitList]; exact unlisted_leaveList l s
  obtain ⟨yl, yd, -, held, yu⟩ := releaseAll_kept xu (by rw [xl]; exact fun e => nomatch e)
  have calm_y := calm_releaseAll x l
  refine ⟨⟨rfl, ?_, ?_, ?_, ?_, out, ?_⟩, ?_⟩
  · simp only [reportFree_lanes, q, updLane_lanes, put_self, z, unbindLane_lanes, y, yl, xl]
  · intro a
    simp only [reportFree_acts, q, updLane_acts]
    exact unbindLane_unbound l y a
  · simp only [reportFree_drives, q, updLane_drives, z, unbindLane_drives, y, yd, x, updLoad_drives, w, v, leaveList_drives]
  · simp only [Unlisted, reportFree_waitList, q, updLane_waitList, z, unbindLane_waitList, y]; exact yu
  · have slot : q.request.slot = s.request.slot := by
      simp only [q, updLane_request, z, unbindLane_request, y, slot_of_calm calm_y, x, updLoad_request, w, v,
        leaveList_request]
    rw [reportFree, slot]
  · rw [← held]
    exact heldBy_congr (by simp only [reportFree_holders, q, updLane_holders, z, unbindLane_holders, y]) l

theorem freed_enterOffline (r : Result) (u : Unlisted s l) :
    Freed l .offline r s (enterOffline l r s) ∧ heldBy (enterOffline l r s) l = heldBy s l := by
  have out := outer_enterOffline s l r
  unfold enterOffline
  extract_lets v w x
  refine ⟨⟨rfl, ?_, ?_, ?_, ?_, out, ?_⟩, ?_⟩
  · simp only [reportFree_lanes, x, updLoad_lanes, w, unbindLane_lanes, v, updLane_lanes, put_self]
  · intro a
    simp only [reportFree_acts, x, updLoad_acts]
    exact unbindLane_unbound l v a
  · simp only [reportFree_drives, x, updLoad_drives, w, unbindLane_drives, v, updLane_drives]
  · simp only [Unlisted, reportFree_waitList, x, updLoad_waitList, w, unbindLane_waitList, v, updLane_waitList]; exact u
  · have slot : x.request.slot = s.request.slot := by
      simp only [x, updLoad_request, w, unbindLane_request, v, updLane_request]
    rw [reportFree, slot]
  · exact heldBy_congr (by
      simp only [reportFree_holders, x, updLoad_holders, w, unbindLane_holders, v, updLane_holders]) l

/-- Where a lane goes that leaves FAULTED (R90). -/
def clearedTo (r : Lane) : LaneState := if r.faultReason = some .driveFault then .offline else .idle

theorem freed_leaveFaulted (r : Result) (u : Unlisted s l) :
    Freed l (clearedTo s.lanes[l]) r s (leaveFaulted l r s) := by
  unfold leaveFaulted clearedTo
  by_cases h : s.lanes[l].faultReason = some .driveFault
  · rw [if_pos h, if_pos h]; exact (freed_enterOffline r u).1
  · rw [if_neg h, if_neg h]; exact (freed_enterIdle l r s).1

theorem Freed.slot_none {x : LaneState} {r : Result} (f : Freed l x r s t) (h : s.request.slot = none) :
    t.request.slot = none := by rw [f.slot, h]; rfl

end
end Sys2Proof.Proofs
end

section
/-! The end of a 50 ms brake (R8, R70, R78, R79, R80, R82, R90, R109, R117, R124). -/

namespace Sys2Proof.Proofs

open Sys2Proof Sys2Proof.Machine Sys2Proof.Safety

section
variable {s t v : State} {l : LaneId} {a : ActId}

/-! ### Capture and relay -/

/-- What has the surroundings of a capture stands captured, with every position as before (R8). -/
theorem captured_of_surr (h : surr t = surr (capture a s)) : Captured s t a ∧ SamePositions s t := by
  have r := congrArg (fun x : Settings => x.actuators[a]) (ram_of_surr h)
  have w := congrArg (fun x : Settings => x.actuators[a]) (store_of_surr h)
  simp only [capture, writeActuator, writeGroup, Settings.onActuator, put_self] at r w
  refine ⟨⟨by rw [r], by rw [r], by rw [r], by rw [w], by rw [w], by rw [w]⟩, fun b => ?_⟩
  exact ⟨position_of_surr h b, referenced_of_surr h b⟩

theorem captured_trans (h : surr t = surr v) (c : Captured s v a) (p : SamePositions s v) :
    Captured s t a ∧ SamePositions s t := by
  rw [Captured, ram_of_surr h, store_of_surr h]
  refine ⟨c, fun b => ?_⟩
  obtain ⟨h1, h2⟩ := p b
  exact ⟨(position_of_surr h b).trans h1, (referenced_of_surr h b).trans h2⟩

theorem relayOpen_openRelay (l : LaneId) (s : State) : RelayOpen (openRelay l s) l := by
  rw [RelayOpen, openRelay_drives, put_self]; exact ⟨rfl, rfl, rfl, rfl⟩

theorem relayOpen_of_drive (h : t.drives[l] = s.drives[l]) (r : RelayOpen s l) : RelayOpen t l := by
  rw [RelayOpen, h]; exact r

/-- The state after the capture and the opening of the relay at a brake end, with the gate re-evaluation (R8, R73, R117). -/
structure BrakeOver (l : LaneId) (a : ActId) (s v : State) : Prop where
  relay : RelayOpen v l
  zones : heldBy v l = heldBy s l
  list : Unlisted v l
  slot : v.request.slot = s.request.slot
  captured : Captured s v a
  positions : SamePositions s v

theorem brakeOver_gateEvent (u : Unlisted s l) (h : s.lanes[l].state ≠ .waitGate) :
    BrakeOver l a s (gateEvent (openRelay l (capture a s))) ∧
    (gateEvent (openRelay l (capture a s))).lanes[l].stem = s.lanes[l].stem := by
  have ap := apart_gateEvent (openRelay l (capture a s)) (l := l) h u
  have c : calm (gateEvent (openRelay l (capture a s))) = calm (capture a s) := (calm_gateEvent _).trans (calm_openRelay ..)
  obtain ⟨cap, pos⟩ := captured_of_surr (surr_of_outer (outer_of_calm c))
  exact ⟨⟨relayOpen_of_drive ap.drive (relayOpen_openRelay l _), ap.zones, ap.list u,
    (slot_of_calm c : _ = (capture a s).request.slot), cap, pos⟩, ap.record⟩

theorem BrakeOver.keeps (b : BrakeOver l a s v) : KeepsZones s v l := fun z hz => by
  have := congrArg (fun x => has x z) b.zones
  simp only [has_heldBy, decide_eq_decide] at this
  exact this.2 hz
theorem BrakeOver.waits (b : BrakeOver l a s v) (p : PreemptWaits s) : PreemptWaits v := by
  rw [PreemptWaits, b.slot]; exact p
theorem waits_of_none (h : s.request.slot = none) : PreemptWaits s := by rw [PreemptWaits, h]; rfl

/-! ### The command -/

theorem exec_brakeEnd (h : s.drives[l].phase = .braking) (r : s.drives[l].reversal = false) :
    exec (.brakeEnd l) s = .next (finish (brakeEnd l s)) := by
  simp only [exec, execBrakeEnd]; rw [if_pos (by rw [h, r]; rfl)]

/-- STOPPING ends after the capture, the opening of the relay and the gate re-evaluation (R78, R124). -/
theorem brakeEnd_stopping (w : WaitListFits s) (hs : s.lanes[l].state = .stopping) (hc : s.drives[l].connected = some a) :
    ∃ v, BrakeOver l a s v ∧ v.lanes[l].stem = s.lanes[l].stem ∧ brakeEnd l s = stoppingEnd l v := by
  obtain ⟨b, stem⟩ := brakeOver_gateEvent (a := a) (unlisted_of_state w (by rw [hs]; decide)) (by rw [hs]; decide)
  refine ⟨_, b, stem, ?_⟩
  unfold brakeEnd; simp only [hs, hc, reduceCtorEq, if_false]

/-- SETTLING ends after the capture, the opening of the relay and the gate re-evaluation (R79, R124). -/
theorem brakeEnd_settling (w : WaitListFits s) (hs : s.lanes[l].state = .settling) (hc : s.drives[l].connected = some a) :
    ∃ v, BrakeOver l a s v ∧ v.lanes[l].stem = s.lanes[l].stem ∧ brakeEnd l s = settlingEnd l v := by
  obtain ⟨b, stem⟩ := brakeOver_gateEvent (a := a) (unlisted_of_state w (by rw [hs]; decide)) (by rw [hs]; decide)
  refine ⟨_, b, stem, ?_⟩
  unfold brakeEnd; simp only [hs, hc, if_true]

theorem brakeEnd_faulted (hs : s.lanes[l].state = .faulted) (ho : s.lanes[l].pendingOrder = none) :
    brakeEnd l s = openRelay l s := by
  unfold brakeEnd; simp only [hs, openRelay_lanes, ho]

theorem brakeEnd_clear {r : Result} (hs : s.lanes[l].state = .faulted) (ho : s.lanes[l].pendingOrder = some (.clear r)) :
    brakeEnd l s = leaveFaulted l r (openRelay l s) := by
  unfold brakeEnd; simp only [hs, openRelay_lanes, ho]

/-! ### What may follow the brake end -/

theorem BrakeOver.updLane (b : BrakeOver l a s v) (f : Lane → Lane) : BrakeOver l a s (updLane l f v) := by
  refine ⟨by rw [RelayOpen, updLane_drives]; exact b.relay, (heldBy_congr (by simp) l).trans b.zones,
    by rw [Unlisted, updLane_waitList]; exact b.list, by rw [updLane_request]; exact b.slot,
    by rw [Captured, updLane_ram, updLane_store]; exact b.captured, fun d => by rw [updLane_acts]; exact b.positions d⟩

theorem BrakeOver.tryTune (b : BrakeOver l a s v) : BrakeOver l a s (tryTune v) := by
  have sp := spared_tryTune b.list
  have c := calm_tryTune v
  obtain ⟨cap, pos⟩ := captured_trans (surr_of_outer (outer_of_calm c)) b.captured b.positions
  exact ⟨relayOpen_of_drive sp.apart.drive b.relay, sp.apart.zones.trans b.zones, sp.apart.list b.list,
    (slot_of_calm c).trans b.slot, cap, pos⟩

/-- A change of the lane's own record after the brake end stands when the command ends. -/
theorem BrakeOver.updated (b : BrakeOver l a s v) (f : Lane → Lane) (p : PreemptWaits s) :
    BrakeOver l a s (finish (Machine.updLane l f v)) ∧
    ((f v.lanes[l]).state ≠ .fenced → (finish (Machine.updLane l f v)).lanes[l] = f v.lanes[l]) := by
  have w := b.updLane f
  rw [finish_of_waits (w.waits p)]
  refine ⟨w.tryTune, fun nf => ?_⟩
  have own : (Machine.updLane l f v).lanes[l] = f v.lanes[l] := by rw [updLane_lanes, put_self]
  rw [(spared_tryTune w.list).record (by rw [own]; exact nf), own]

/-- STOPPING ends in its destination (R78). -/
theorem stoppingEnd_paused {r : PauseReason} (h : s.lanes[l].stopDest = some (.paused r)) :
    stoppingEnd l s = enterPaused l r .motion s := by unfold stoppingEnd; simp only [h]
theorem stoppingEnd_fenced (h : s.lanes[l].stopDest = some .fenced) : stoppingEnd l s = enterFenced l s := by
  unfold stoppingEnd; simp only [h]
theorem stoppingEnd_idle {r : Result} (h : s.lanes[l].stopDest = some (.idle r)) :
    stoppingEnd l s = enterIdle l r s := by unfold stoppingEnd; simp only [h]

/-- A flag that has been noted is set (R69). -/
theorem or_and_right_self {w : Nat} (a b : BitVec w) : (a ||| b) &&& b = b := by
  ext i hi; simp only [BitVec.getElem_and, BitVec.getElem_or]; cases a[i] <;> cases b[i] <;> rfl

/-- The entry into FENCED after the brake end, with its clear timer and FENCED_SEEN (R109). -/
theorem BrakeOver.fenced (b : BrakeOver l a s v) :
    (enterFenced l v).lanes[l].clearTimer =
      (if meets (heldBy (enterFenced l v) l) (Machine.fenced (enterFenced l v)) then none else some clearTime) ∧
    (enterFenced l v).lanes[l].incidents &&& 0x04#7 = 0x04#7 ∧ BrakeOver l a s (enterFenced l v) := by
  refine ⟨?_, ?_, ?_⟩
  · rw [enterFenced_lanes, put_self, heldBy_congr (enterFenced_holders l v),
      fenced_congr (enterFenced_chans l v) (by rw [enterFenced_ram])]
    dsimp only
    cases meets (heldBy v l) (Machine.fenced v) <;> rfl
  · rw [enterFenced_lanes, put_self]; exact or_and_right_self ..
  · unfold enterFenced; exact b.updLane _

/-- A lane that enters IDLE after the brake end holds nothing, with the capture and the relay kept (R70). -/
theorem BrakeOver.idle (b : BrakeOver l a s v) (r : Result) (hr : s.request.slot = none) :
    (finish (enterIdle l r v)).lanes[l] = { v.lanes[l].leaving with
      state := .idle, lastResult := some r, ctx := none, inline := none, bound := [] } ∧
    HoldsNothing (finish (enterIdle l r v)) l ∧ RelayOpen (finish (enterIdle l r v)) l ∧
    Captured s (finish (enterIdle l r v)) a ∧ SamePositions s (finish (enterIdle l r v)) := by
  obtain ⟨f, held⟩ := freed_enterIdle l r v
  rw [finish_of_waits (waits_of_none (f.slot_none (b.slot.trans hr)))]
  have g := f.tryTune
  obtain ⟨cap, pos⟩ := captured_trans (surr_of_outer g.outer) b.captured b.positions
  refine ⟨g.lane, ⟨?_, by rw [g.lane], g.unbound⟩, relayOpen_of_drive g.drive b.relay, cap, pos⟩
  rw [(spared_tryTune f.list).apart.zones, held]

/-! ### The end of a step -/

/-- An adaptation writes the profile of the actuator alone, and the bins of the load context (R150). -/
theorem adapt_kept (l : LaneId) (b : ActId) (s : State) :
    (adapt l b s).lanes = s.lanes ∧ (adapt l b s).drives = s.drives ∧ (adapt l b s).holders = s.holders ∧
    (adapt l b s).waitList = s.waitList ∧ (adapt l b s).request = s.request ∧ (adapt l b s).acts = s.acts ∧
    ∀ a : ActId, ∃ p q, (adapt l b s).ram.actuators[a] = { s.ram.actuators[a] with profile := p } ∧
      (adapt l b s).store.actuators[a] = { s.store.actuators[a] with profile := q } := by
  have same : ∀ a : ActId, ∃ p q, s.ram.actuators[a] = { s.ram.actuators[a] with profile := p } ∧
      s.store.actuators[a] = { s.store.actuators[a] with profile := q } := fun a => ⟨_, _, rfl, rfl⟩
  unfold adapt; dsimp only; split
  · split
    · exact ⟨rfl, rfl, rfl, rfl, rfl, rfl, same⟩
    · refine ⟨rfl, rfl, rfl, rfl, rfl, rfl, fun a => ?_⟩
      simp only [updLoad_ram, updLoad_store, writeActuator, writeGroup, Settings.onActuator, put_get]
      split
      · next h => subst h; exact ⟨_, _, rfl, rfl⟩
      · exact same a
  · exact ⟨rfl, rfl, rfl, rfl, rfl, rfl, same⟩

/-- The adaptation of a step, which a correction does not make (R150). -/
def adapted (l : LaneId) (c : StepCtx) (s : State) : State := if c.motion = .step then adapt l c.act s else s

theorem BrakeOver.adapted (b : BrakeOver l a s v) (c : StepCtx) : BrakeOver l a s (adapted l c v) := by
  unfold Proofs.adapted; split
  · obtain ⟨-, drives, holders, list, request, acts, act⟩ := adapt_kept l c.act v
    obtain ⟨p, q, ram, store⟩ := act a
    refine ⟨relayOpen_of_drive (by rw [drives]) b.relay,
      (heldBy_congr holders l).trans b.zones, by rw [Unlisted, list]; exact b.list, by rw [request]; exact b.slot, ?_,
      fun d => by rw [acts]; exact b.positions d⟩
    rw [Captured, ram, store]; exact b.captured
  · exact b

theorem adapted_kept (l : LaneId) (c : StepCtx) (s : State) :
    (adapted l c s).acts = s.acts ∧ (adapted l c s).lanes = s.lanes := by
  unfold adapted; split
  · obtain ⟨lanes, -, -, -, -, acts, -⟩ := adapt_kept l c.act s; exact ⟨acts, lanes⟩
  · exact ⟨rfl, rfl⟩

theorem settlingEnd_step {c : StepCtx} (hc : s.lanes[l].ctx = some c) (hk : c.motion = .step ∨ c.motion = .correction) :
    settlingEnd l s = stepEnd l s.lanes[l].pendingOrder c s := by
  unfold settlingEnd; simp only [hc]
  rcases hk with h | h <;> rw [h]

/-- A step on target completes (R79). -/
theorem stepEnd_onTarget {c : StepCtx} (o : Option PendingOrder) (h1 : s.acts[c.act].position ≤ c.pt + 8)
    (h2 : c.pt ≤ s.acts[c.act].position + 8) : stepEnd l o c s = completeStep l o c (adapted l c s) := by
  obtain ⟨e, -⟩ := adapted_kept l c s
  rw [adapted] at e
  unfold stepEnd adapted; dsimp only
  rw [e, if_pos (by simp only [tolerance]; omega)]

/-- The last step of a track completes (R80): the lane's arrangement ends, or its dwell begins. -/
theorem completeStep_last {c : StepCtx} (h : c.step.next = none) : completeStep l none c s =
    if c.step.dwell = 0 then enterIdle l .completed (updLane l (fun r => { r with stepsCompleted := r.stepsCompleted + 1 }) s)
    else updLane l (fun r => { r.leaving with state := .dwell, dwellTimer := some (c.step.dwell * 10) })
      (updCtx l (fun c => { c with completed := true })
        (updLane l (fun r => { r with stepsCompleted := r.stepsCompleted + 1 }) s)) := by
  unfold completeStep; simp only [h]; rfl

/-- Settles O37: the brake end captures, opens the relay, and then ends STOPPING, SETTLING or a pending clear. -/
theorem brakeEndCapturesAndSendsTheLaneOn : Obligations.BrakeEndCapturesAndSendsTheLaneOn := by
  intro s l w
  refine ⟨fun r a hc hb hr hs hd p => ?_, fun a hc hb hr hs hd p => ?_, fun x a hc hb hr hs hd p => ?_,
    fun a hc c hx hb hr hs ho hk hn h1 h2 p => ?_, fun hb hr hs ho p => ?_, fun r ho hb hr hs p => ?_⟩
  · have e := exec_brakeEnd hb hr
    obtain ⟨v, b, stem, be⟩ := brakeEnd_stopping w hs hc
    have dest := congrArg Lane.stopDest stem
    rw [be, stoppingEnd_paused (dest.trans hd)] at e
    obtain ⟨g, own⟩ := b.updated _ p
    exact ⟨_, e, by rw [enterPaused, own (fun h => nomatch h)]; exact ⟨rfl, rfl, rfl, rfl⟩, g.relay, g.captured,
      g.positions, g.keeps⟩
  · have e := exec_brakeEnd hb hr
    obtain ⟨v, b, stem, be⟩ := brakeEnd_stopping w hs hc
    have dest := congrArg Lane.stopDest stem
    rw [be, stoppingEnd_fenced (dest.trans hd)] at e
    obtain ⟨timer, inc, b'⟩ := b.fenced
    rw [finish_of_waits (b'.waits p)] at e
    have g := b'.tryTune
    have stays := (spared_tryTune b'.list).apart
    have lane : (enterFenced l v).lanes[l].state = .fenced ∧ (enterFenced l v).lanes[l].totalTimer = some totalTime := by
      rw [enterFenced_lanes, put_self]; exact ⟨rfl, rfl⟩
    refine ⟨_, e, stays.state.trans lane.1, (congrArg Lane.totalTimer stays.record).trans lane.2,
      clearTimer_tryTune lane.1 b'.list timer, ?_, g.relay, g.captured, g.positions, g.keeps⟩
    have same := congrArg Lane.incidents stays.record
    exact (congrArg (· &&& 0x04#7) same).trans inc
  · have e := exec_brakeEnd hb hr
    obtain ⟨v, b, stem, be⟩ := brakeEnd_stopping w hs hc
    have dest := congrArg Lane.stopDest stem
    rw [be, stoppingEnd_idle (dest.trans hd)] at e
    obtain ⟨lane, holds, relay, cap, pos⟩ := b.idle x p
    exact ⟨_, e, by rw [lane], by rw [lane], holds, relay, cap, pos⟩
  · have e := exec_brakeEnd hb hr
    obtain ⟨v, b, stem, be⟩ := brakeEnd_settling w hs hc
    have ctx := congrArg Lane.ctx stem
    have order := congrArg Lane.pendingOrder stem
    have order : v.lanes[l].pendingOrder = none := order.trans ho
    have steps := congrArg Lane.stepsCompleted stem
    obtain ⟨pos, -⟩ := b.positions c.act
    rw [be, settlingEnd_step (ctx.trans hx) hk, order,
      stepEnd_onTarget none (by rw [pos]; exact h1) (by rw [pos]; exact h2), completeStep_last hn] at e
    obtain ⟨-, lanes⟩ := adapted_kept l c v
    have n : (adapted l c v).lanes[l].stepsCompleted = s.lanes[l].stepsCompleted := by rw [lanes]; exact steps
    have b' := b.adapted c
    generalize adapted l c v = u at *
    by_cases dw : c.step.dwell = 0
    · rw [if_pos dw] at e
      obtain ⟨lane, holds, relay, cap, pos⟩ := (b'.updLane (fun r => { r with stepsCompleted := r.stepsCompleted + 1 })).idle
        .completed p
      refine ⟨_, e, relay, cap, pos, ?_, (if_pos dw).mpr ⟨by rw [lane], by rw [lane], holds⟩⟩
      rw [lane]; simp only [Lane.leaving, updLane_lanes, put_self, n]
    · rw [if_neg dw] at e
      have b'' := (b'.updLane (fun r => { r with stepsCompleted := r.stepsCompleted + 1 })).updLane
        (fun r => { r with ctx := r.ctx.map fun c => { c with completed := true } })
      obtain ⟨g, own⟩ := b''.updated
        (fun r => { r.leaving with state := .dwell, dwellTimer := some (c.step.dwell * 10) }) (waits_of_none p)
      have own := own (fun h => nomatch h)
      refine ⟨_, e, g.relay, g.captured, g.positions, ?_,
        (if_neg dw).mpr ⟨by rw [updCtx, own], by rw [updCtx, own], g.keeps⟩⟩
      rw [updCtx, own]; simp only [Lane.leaving, updLane_lanes, put_self, n]
  · have e := exec_brakeEnd hb hr
    rw [brakeEnd_faulted hs ho, finish_of_waits (s := openRelay l s) p] at e
    have sp : Spared l (openRelay l s) (tryTune (openRelay l s)) :=
      spared_tryTune (unlisted_of_state w (by rw [hs]; decide) : Unlisted s l)
    have c : calm (tryTune (openRelay l s)) = calm s := (calm_tryTune _).trans (calm_openRelay ..)
    have su := surr_of_outer (outer_of_calm c)
    exact ⟨_, e, sp.apart.state.trans hs, relayOpen_of_drive sp.apart.drive (relayOpen_openRelay l s),
      sameSettings_of_calm c, fun b => ⟨position_of_surr su b, referenced_of_surr su b⟩⟩
  · have e := exec_brakeEnd hb hr
    have f := freed_leaveFaulted (s := openRelay l s) r (unlisted_of_state w (by rw [hs]; decide) : Unlisted s l)
    rw [brakeEnd_clear hs ho, finish_of_waits (waits_of_none (f.slot_none p))] at e
    have g := f.tryTune
    have su := surr_of_outer g.outer
    refine ⟨_, e, by rw [g.lane]; rfl, by rw [g.lane], by rw [g.lane]; rfl, by rw [g.lane], g.unbound,
      relayOpen_of_drive g.drive (relayOpen_openRelay l s), ⟨ram_of_surr su, store_of_surr su, checksums_of_surr su⟩,
      fun b => ⟨position_of_surr su b, referenced_of_surr su b⟩⟩

end
end Sys2Proof.Proofs
end

section
/-! CLEAR_FAULT (R46, R47, R60, R90, R95). -/

namespace Sys2Proof.Proofs

open Sys2Proof Sys2Proof.Machine Sys2Proof.Safety

section
variable {s t u v : State} {l : LaneId} {st : Station} {body : List Byte}

/-! ### An order delivered to the lanes of a set -/

/-- An order to the lanes of a set reaches one of them after changes to the others, and others follow (R46). -/
theorem deliver_reaches {f : LaneId → State → State} (hf : ∀ k s, Moves (· = k) s (f k s)) {ls : LaneSet}
    (h : has ls l = true) (u : State) :
    ∃ v, Moves (· ≠ l) u v ∧ Moves (· ≠ l) (f l v) (deliver f ls u) := by
  obtain ⟨xs, ys, e⟩ := List.append_of_mem (mem_allLanes l)
  have nd : (xs ++ l :: ys).Nodup := e ▸ (by decide : allLanes.Nodup)
  rw [List.nodup_middle, List.nodup_cons, List.mem_append, not_or] at nd
  obtain ⟨⟨hx, hy⟩, -⟩ := nd
  have part : ∀ zs : List LaneId, l ∉ zs → ∀ s, Moves (· ≠ l) s (zs.foldl (fun s k => if has ls k then f k s else s) s) := by
    intro zs hz s
    refine Moves.foldl_mem s fun s k hk => ?_
    split
    · exact (hf k s).mono fun j hj => by rw [hj]; exact fun q => hz (q ▸ hk)
    · exact .refl
  refine ⟨_, part xs hx u, ?_⟩
  have all : deliver f ls u = ys.foldl (fun s k => if has ls k then f k s else s)
      (f l (xs.foldl (fun s k => if has ls k then f k s else s) u)) := by
    unfold deliver; rw [e, List.foldl_append, List.foldl_cons, if_pos h]
  rw [all]; exact part ys hy _

/-! ### The clear of a fault -/

theorem outer_deliver {f : LaneId → State → State} (hf : ∀ k s, outer (f k s) = outer s) (ls : LaneSet) (s : State) :
    outer (deliver f ls s) = outer s :=
  outer_foldl (fun s k => by split; exact hf k s; rfl) _ s

theorem clearFaultLane_slot (k : LaneId) (r : Result) (h : s.request.slot = none) :
    (clearFaultLane k r s).request.slot = none := by
  unfold clearFaultLane; dsimp only; split
  · exact h
  · split
    · split
      · exact h
      · rw [updLane_request]; exact h
    · unfold leaveFaulted; split
      · simp [enterOffline, reportFree, h]
      · exact (freed_enterIdle k r s).1.slot_none h

theorem deliver_slot {f : LaneId → State → State} (hf : ∀ k s, s.request.slot = none → (f k s).request.slot = none)
    (ls : LaneSet) (h : s.request.slot = none) : (deliver f ls s).request.slot = none := by
  unfold deliver
  generalize allLanes = xs
  induction xs generalizing s with
  | nil => exact h
  | cons x xs ih =>
    refine ih (s := if has ls x then f x s else s) ?_
    split
    · exact hf x s h
    · exact h

theorem clearFaultLane_braking {r : Result} (hs : s.lanes[l].state = .faulted) (hd : s.drives[l].phase = .braking) :
    (clearFaultLane l r s).lanes[l].state = .faulted ∧ (clearFaultLane l r s).waitList = s.waitList ∧
    (s.lanes[l].pendingOrder = none → (clearFaultLane l r s).lanes[l].pendingOrder = some (.clear r)) := by
  unfold clearFaultLane; dsimp only
  rw [if_neg (not_not.2 hs), if_pos hd]
  split
  · next o ho => exact ⟨hs, rfl, fun n => by rw [ho] at n; cases n⟩
  · refine ⟨?_, by rw [updLane_waitList], fun _ => ?_⟩
    · rw [updLane_lanes, put_self]; exact hs
    · rw [updLane_lanes, put_self]

theorem clearFaultLane_free {r : Result} (hs : s.lanes[l].state = .faulted) (hd : s.drives[l].phase ≠ .braking) :
    clearFaultLane l r s = leaveFaulted l r s := by
  unfold clearFaultLane; dsimp only
  rw [if_neg (not_not.2 hs), if_neg hd]

/-- Another lane's changes keep an ended arrangement ended. -/
theorem Freed.moves {x : LaneState} {r : Result} (f : Freed l x r s t) (m : Moves (· ≠ l) t u) :
    u.lanes[l] = t.lanes[l] ∧ Unbound l u ∧ Unlisted u l := by
  have sp := m.spared (fun h => h rfl) f.list
  exact ⟨sp.record (by rw [f.lane]; exact f.nonfenced), m.unbound (fun h => h rfl) f.unbound, sp.apart.list f.list⟩

/-! ### The command -/

/-- The lanes that a CLEAR_FAULT names (R60). -/
def faultedOf (ls : LaneSet) (s : State) : LaneSet := lanesWhere fun l => has ls l && s.lanes[l].state = .faulted

/-- The reply ACCEPTED to a CLEAR_FAULT, before its effect (R60). -/
def clearAccepted (st : Station) (body : List Byte) (ls : LaneSet) (s : State) : State :=
  reply st (byteAt body 0) 8#8 (decodeObject 8#8 body) .accepted (faultedOf ls s) false false (heard s)

theorem clearAccepted_kept (st : Station) (body : List Byte) (ls : LaneSet) (s : State) :
    (clearAccepted st body ls s).request.slot = s.request.slot ∧ (clearAccepted st body ls s).tx.replies =
      s.tx.replies ++ [replyFrame st (byteAt body 0) 8#8 .accepted (faultedOf ls s) false false] ∧
    (clearAccepted st body ls s).lanes = s.lanes ∧ (clearAccepted st body ls s).drives = s.drives ∧
    (clearAccepted st body ls s).waitList = s.waitList := by
  refine ⟨?_, ?_, ?_, ?_, ?_⟩ <;> simp [clearAccepted, reply, heard]

theorem exec_clearFault (h : Serving s) {addr : Addressing} (ha : decodeAddressing false body = some addr) :
    (commandSet s st (byteAt body 0) addr = none → exec (.clearFault st body) s =
      .next (answered st (byteAt body 0) 8#8 (decodeObject 8#8 body) .notOwner (heard s))) ∧
    ∀ ls, commandSet s st (byteAt body 0) addr = some ls → exec (.clearFault st body) s = .next
      (if faultedOf ls s = 0#4 then answered st (byteAt body 0) 8#8 (decodeObject 8#8 body) .notActive (heard s)
      else finish (deliver (fun l => clearFaultLane l .faulted) (faultedOf ls s) (clearAccepted st body ls s))) := by
  obtain ⟨hm, hr⟩ := h
  have e : exec (.clearFault st body) s = .next (serveClearFault st body (heard s)) := by
    simp only [exec, execClearFault, receiveRequest]
    rw [if_neg hm, if_pos (show (busTraffic s).request.ready = true from hr)]; rfl
  have same : ∀ x, commandSet (heard s) st (tagOf body) x = commandSet s st (byteAt body 0) x := fun _ => rfl
  rw [e]
  refine ⟨fun hc => ?_, fun ls hc => ?_⟩
  · unfold serveClearFault; simp only [ha, same, hc]; rfl
  · unfold serveClearFault; simp only [ha, same, hc]; rfl

/-- Settles O13: the clear reaches the faulted lane among the others of the set. -/
theorem clearFaultReleasesFaultedLanes : Obligations.ClearFaultReleasesFaultedLanes := by
  intro s st body l hs hp
  refine ⟨fun addr ha hc => (exec_clearFault hs ha).1 hc, fun addr ha ls hc hl hf u => ?_, fun addr ha ls hc hn => ?_⟩
  · have e := (exec_clearFault hs ha).2 ls hc
    have named : has (faultedOf ls s) l = true := by
      rw [faultedOf, has_lanesWhere, hl, hf]; rfl
    have ne : faultedOf ls s ≠ 0#4 := fun z => by rw [z, has_zero] at named; cases named
    obtain ⟨slot, replies, lanes, drives, list⟩ := clearAccepted_kept st body ls s
    have none_slot := deliver_slot (f := fun k => clearFaultLane k .faulted)
      (fun k s h => clearFaultLane_slot k .faulted h) (faultedOf ls s) (slot.trans hp)
    rw [if_neg ne, finish_of_waits (waits_of_none none_slot)] at e
    have out := (outer_tryTune _).trans (outer_deliver (f := fun k => clearFaultLane k .faulted)
      (fun k s => outer_clearFaultLane s k .faulted) (faultedOf ls s) (clearAccepted st body ls s))
    obtain ⟨v, before, after⟩ := deliver_reaches (f := fun k => clearFaultLane k .faulted)
      (fun k s => moves_clearFaultLane (L := (· = k)) s rfl .faulted) named (clearAccepted st body ls s)
    have sp := before.spared (fun h => h rfl) (by rw [Unlisted, list]; exact u)
    have lane : v.lanes[l] = s.lanes[l] :=
      (sp.record (by rw [lanes, hf]; decide)).trans (by rw [lanes])
    have drive : v.drives[l] = s.drives[l] := sp.apart.drive.trans (by rw [drives])
    have list' : Unlisted v l := sp.apart.list (by rw [Unlisted, list]; exact u)
    refine ⟨_, e, (congrArg Tx.replies (tx_of_outer out)).trans replies, ?_⟩
    split
    · next hd =>
      obtain ⟨state, wl, order⟩ := clearFaultLane_braking (r := .faulted) (s := v) (l := l) (by rw [lane, hf])
        (by rw [drive, hd])
      have u' : Unlisted (clearFaultLane l .faulted v) l := by rw [Unlisted, wl]; exact list'
      have later := after.spared (fun h => h rfl) u'
      have same := (later.trans (spared_tryTune (later.apart.list u'))).record (by rw [state]; decide)
      rw [same]; rw [lane] at order; exact ⟨state, order⟩
    · next hd =>
      have eq := clearFaultLane_free (r := .faulted) (s := v) (l := l) (by rw [lane, hf]) (by rw [drive]; exact hd)
      have f := freed_leaveFaulted (s := v) .faulted list'
      rw [eq] at after
      obtain ⟨same, unbound, wl⟩ := f.moves after
      have free := (same.trans f.lane : _ = ({ v.lanes[l].leaving with
        state := clearedTo v.lanes[l], lastResult := some .faulted, ctx := none, inline := none, bound := [] } : Lane))
      have last := (spared_tryTune wl).record (by rw [free]; exact f.nonfenced)
      rw [last, free, lane]
      exact ⟨rfl, rfl, rfl, rfl, rfl, unbound.of_calm (calm_tryTune _)⟩
  · have e := (exec_clearFault hs ha).2 ls hc
    have none_named : faultedOf ls s = 0#4 := by
      rw [eq_zero_iff]; intro k
      rw [faultedOf, has_lanesWhere]
      cases hk : has ls k with
      | false => rfl
      | true => rw [Bool.true_and]; exact decide_eq_false (hn k hk)
    rw [if_pos none_named] at e; exact e

end
end Sys2Proof.Proofs
end

section
/-! An accepted RUN_RECIPE, RUN_STEP or LEARN (R32, R34 to R36, R55, R56, R72, R97). What an acceptance writes into a lane
stands when the command ends: other lanes' claims and the tune reach it with a grant alone, and its own first step adds the
step to it. -/

namespace Sys2Proof.Proofs

open Sys2Proof Sys2Proof.Machine Sys2Proof.Safety

section
variable {L : LaneId → Prop} {s t u : State} {l k : LaneId}

/-! ### A lane that only a grant or an unfence reaches -/

/-- A lane record but for its state and what belongs to the state (R67, R68, R86). -/
def baseOf (r : Lane) : Lane := { r.leaving with state := .idle }

/-- A lane record that others' changes have left: a grant at most has taken it to ARMING. -/
structure Left (r r' : Lane) : Prop where
  base : baseOf r' = baseOf r
  state : r'.state = r.state ∨ r'.state = .arming

theorem Left.refl (r : Lane) : Left r r := ⟨rfl, .inl rfl⟩
theorem Left.of_eq {r r' : Lane} (h : r' = r) : Left r r' := h ▸ .refl r
theorem Left.trans {r r' r'' : Lane} (h : Left r r') (g : Left r' r'') : Left r r'' :=
  ⟨g.base.trans h.base, g.state.elim (fun e => h.state.elim (fun f => .inl (e.trans f)) fun f => .inr (e.trans f)) .inr⟩

theorem baseOf_stem (r : Lane) : baseOf r.stem = baseOf r := rfl

theorem left_suspendTune (l : LaneId) (s : State) : Left s.lanes[l] (suspendTune s).lanes[l] := by
  have ap := apart_suspendTune s (l := l)
  refine ⟨?_, .inl ap.state⟩
  rw [← baseOf_stem, ap.record, baseOf_stem]

theorem left_enterArming (k l : LaneId) (s : State) : Left s.lanes[l] (enterArming k s).lanes[l] := by
  unfold enterArming; split
  · exact .refl _
  · refine Left.trans ?_ (left_suspendTune l _)
    by_cases h : l = k
    · subst h; rw [updLane_lanes, put_self]; exact ⟨rfl, .inr rfl⟩
    · rw [updLane_lanes, put_other _ h]; exact .refl _

theorem left_grant (e : WaitEntry) (l : LaneId) (s : State) : Left s.lanes[l] (grant e s).lanes[l] := by
  unfold grant; dsimp only; split
  · exact left_enterArming e.lane l (leaveList e.lane (setHolders e.wanted (some e.lane) s))
  · exact left_enterArming e.lane l (mark (.lane e.lane) (mark .sets (leaveList e.lane (setHolders e.wanted (some e.lane) s))))

theorem left_updLane (h : k ≠ l) (f : Lane → Lane) (s : State) : Left s.lanes[l] (updLane k f s).lanes[l] :=
  .of_eq (by rw [updLane_lanes, put_other _ (Ne.symm h)])

theorem Move.left (m : Move L s t) (hl : ¬ L l) : Left s.lanes[l] t.lanes[l] := by
  have ne : ∀ {k}, L k → k ≠ l := fun h e => hl (e ▸ h)
  cases m with
  | activate => exact .of_eq (by rw [activate_lanes])
  | reply => exact .of_eq (by rw [reply_lanes])
  | lane k h f => exact left_updLane (ne h) f s
  | timer k h x =>
    by_cases e : l = k
    · subst e; rw [updLane_lanes, put_self]; exact ⟨rfl, .inl rfl⟩
    · exact left_updLane (Ne.symm e) _ s
  | bind k h as => exact .of_eq (by rw [bindAll_lanes])
  | unbind k h => exact .of_eq (by rw [unbindLane_lanes])
  | grant e he g => exact left_grant e l s
  | suspend => exact left_suspendTune l s
  | log => exact .of_eq (by rw [logEntry_lanes])
  | _ => exact .refl _

theorem Moves.left (m : Moves L s t) (hl : ¬ L l) : Left s.lanes[l] t.lanes[l] := by
  induction m with
  | refl => exact .refl _
  | tail _ m ih => exact ih.trans (m.left hl)

/-! ### A lane's own first step -/

/-- A lane record but for its state and its step: what an acceptance has given it (R55). -/
def termsOf (r : Lane) : Lane :=
  { baseOf r with ctx := none, currentStep := none, curAct := none, incidents := 0#7 }

/-- The record `r'` has the terms of `r`, the current step given, and the incidents of `r` noted. -/
structure Onward (r : Lane) (cur : Option CurStep) (r' : Lane) : Prop where
  terms : termsOf r' = termsOf r
  step : r'.currentStep = cur
  noted : ∀ i : BitVec 7, r.incidents &&& i = i → r'.incidents &&& i = i

theorem Onward.trans {r r' r'' : Lane} {c d : Option CurStep} (h : Onward r c r') (g : Onward r' d r'') : Onward r d r'' :=
  ⟨g.terms.trans h.terms, g.step, fun i hi => g.noted i (h.noted i hi)⟩

theorem onward_of_base {r r' : Lane} (h : baseOf r' = baseOf r) : Onward r r.currentStep r' := by
  have i := congrArg Lane.incidents h
  have c := congrArg Lane.currentStep h
  exact ⟨congrArg (fun x : Lane => { x with ctx := none, currentStep := none, curAct := none, incidents := 0#7 }) h,
    c, fun j hj => by rw [show r'.incidents = r.incidents from i]; exact hj⟩

/-- A flag that is set stays set when more are noted (R69). -/
theorem or_and_of_and {w : Nat} {a i : BitVec w} (b : BitVec w) (h : a &&& i = i) : (a ||| b) &&& i = i := by
  rw [BitVec.and_comm, BitVec.and_or_distrib_left, BitVec.and_comm i a, h]
  ext j hj; simp only [BitVec.getElem_and, BitVec.getElem_or]; cases i[j] <;> rfl

theorem note_and {w : Nat} {a i : BitVec w} (b : BitVec w) (p : Bool) (h : a &&& i = i) :
    (if p then a ||| b else a) &&& i = i := by
  split
  · exact or_and_of_and b h
  · exact h

theorem left_releaseAll (l : LaneId) (s : State) : Left s.lanes[l] (releaseAll l s).lanes[l] := by
  unfold releaseAll release; dsimp only; split
  · exact .refl _
  · exact (moves_scan (L := fun _ => False) (mark (.lane l) (mark .sets
      (setHolders (heldBy s l &&& heldBy s l) none s)))).left id

/-- A lane has joined the wait list, or been granted its zones at once (R74, R101). -/
theorem join_own (h : s.lanes[l].ctx.isSome = true) : Onward s.lanes[l] s.lanes[l].currentStep (join l s).lanes[l] ∧
    ((join l s).lanes[l].state = .claiming ∨ (join l s).lanes[l].state = .arming) := by
  obtain ⟨c, hc⟩ := Option.isSome_iff_exists.1 h
  unfold join; simp only [hc]
  have rel := left_releaseAll l s
  generalize releaseAll l s = v at rel ⊢
  have sc := (moves_scan (L := fun _ => False) (updLane l
    (fun r => { r.leaving with state := .claiming, claimTimer := some claimTime })
    { v with waitList := v.waitList ++ [⟨l, c.sweep, some yieldTime, false⟩] })).left (l := l) id
  rw [updLane_lanes, put_self] at sc
  exact ⟨onward_of_base (sc.base.trans rel.base), sc.state⟩

/-- A claim computes the sweep set and joins the wait list (R74). -/
theorem claim_own (h : s.lanes[l].ctx.isSome = true) : Onward s.lanes[l] s.lanes[l].currentStep (claim l s).lanes[l] ∧
    ((claim l s).lanes[l].state = .claiming ∨ (claim l s).lanes[l].state = .arming) := by
  obtain ⟨c, hc⟩ := Option.isSome_iff_exists.1 h
  have e : claim l s = join l (setSweep l (sweepOf s c) s) := by unfold claim computeSweep; rw [hc]
  have lane : (setSweep l (sweepOf s c) s).lanes[l] = { s.lanes[l] with
      ctx := s.lanes[l].ctx.map fun x => { x with
        sweep := sweepOf s c, guardLost := meets (sweepOf s c) (guardLostZones s)
        cls := x.classWith (meets (sweepOf s c) (guardLostZones s)) }
      incidents := if meets (sweepOf s c) (guardLostZones s) then s.lanes[l].incidents ||| incGuardLost
        else s.lanes[l].incidents } := by
    unfold setSweep; dsimp only; rw [updLane_lanes, put_self]
  rw [e]
  generalize setSweep l (sweepOf s c) s = v at lane ⊢
  obtain ⟨on, st⟩ := join_own (s := v) (l := l) (by rw [lane, Option.isSome_map]; exact h)
  have swept : Onward s.lanes[l] s.lanes[l].currentStep v.lanes[l] := by
    rw [lane]; exact ⟨rfl, rfl, fun i hi => note_and _ _ hi⟩
  rw [swept.step] at on
  exact ⟨swept.trans on, st⟩

/-- What a track takes a lane to with its first step (R72, R97). -/
structure Taken (k : Track) (r r' : Lane) : Prop where
  onward : Onward r (k.first.map fun x => x.2) r'
  state : r'.state = .waitGate ∨ r'.state = .claiming ∨ r'.state = .arming

/-- A track from which a lane can start: a first step with an actuator, or a learn sweep of one. -/
def Startable (k : Track) : Prop :=
  (∃ r c a, k.first = some (r, c) ∧ r.actuator = some a) ∨ (k.first = none ∧ ∃ a as, k.acts = a :: as)

theorem enterWaitGate_own (l : LaneId) (s : State) :
    Onward s.lanes[l] s.lanes[l].currentStep (enterWaitGate l s).lanes[l] ∧
    (enterWaitGate l s).lanes[l].state = .waitGate := by
  have rel := left_releaseAll l s
  unfold enterWaitGate
  generalize releaseAll l s = v at rel ⊢
  rw [updLane_lanes, put_self]
  exact ⟨onward_of_base rel.base, rfl⟩

theorem loadStep_own {r : StepRec} {a : ActId} (h : r.actuator = some a) (c : CurStep) (l : LaneId) (s : State) :
    Onward s.lanes[l] (some c) (loadStep l r c s).lanes[l] ∧ (loadStep l r c s).lanes[l].ctx.isSome = true := by
  unfold loadStep; split
  · next n => rw [h] at n; cases n
  · extract_lets x res ctx v
    simp only [updLoad_lanes, v, updLane_lanes, put_self]
    exact ⟨⟨rfl, rfl, fun i hi => note_and _ _ hi⟩, rfl⟩

theorem takeFirst_own {x : Track} (h : Startable x) (l : LaneId) (s : State) :
    Taken x s.lanes[l] (takeFirst l x s).lanes[l] := by
  rcases h with ⟨r, c, a, hf, ha⟩ | ⟨hf, a, as, hacts⟩
  · have e : takeFirst l x s = takeFirstStep l r c s := by unfold takeFirst; rw [hf]
    obtain ⟨on, ctx⟩ := loadStep_own ha c l s
    rw [e]; unfold takeFirstStep; dsimp only
    have cur : (x.first.map fun y => y.2) = (loadStep l r c s).lanes[l].currentStep := by rw [hf, on.step]; rfl
    generalize loadStep l r c s = v at on ctx cur ⊢
    split
    · obtain ⟨go, st⟩ := claim_own ctx
      exact ⟨by rw [cur]; exact on.trans go, .inr st⟩
    · obtain ⟨go, st⟩ := enterWaitGate_own l v
      exact ⟨by rw [cur]; exact on.trans go, .inl st⟩
  · have e : takeFirst l x s = takeLearn l a s := by unfold takeFirst; rw [hf, hacts]
    rw [e]; unfold takeLearn; extract_lets y ctx v w
    have lane : w.lanes[l] = { s.lanes[l] with ctx := some ctx, currentStep := none, curAct := some a } := by
      simp only [w, v, updLoad_lanes, updLane_lanes, put_self]
    generalize w = w' at lane ⊢
    obtain ⟨go, st⟩ := claim_own (s := w') (l := l) (by rw [lane]; rfl)
    have learn : Onward s.lanes[l] none w'.lanes[l] := by rw [lane]; exact ⟨rfl, rfl, fun i hi => hi⟩
    rw [learn.step] at go
    exact ⟨by rw [hf]; exact learn.trans go, .inr st⟩

end
end Sys2Proof.Proofs
end

section
/-! The acceptance itself: the lanes that a request starts, and O7. -/

namespace Sys2Proof.Proofs

open Sys2Proof Sys2Proof.Machine Sys2Proof.Safety

/-! ### The tracks of a plan (R34 to R36) -/

theorem walk_actuator {steps : Vector StepRec 96} {n : StepId} {w : Walk} (h : walk steps n = some w) :
    ∃ a, steps[n].actuator = some a := by
  unfold walk walkFrom at h
  cases e : steps[n].actuator with
  | none => simp only [e] at h; cases h
  | some a => exact ⟨a, rfl⟩

theorem has_actSet (xs : List ActId) (a : ActId) : has (actSet xs) a = true ↔ a ∈ xs := by
  suffices h : ∀ z : ActSet, has (xs.foldl (fun s a => s ||| single a) z) a = true ↔ has z a = true ∨ a ∈ xs by
    rw [actSet, h, has_zero]; simp
  induction xs with
  | nil => intro z; simp
  | cons x xs ih =>
    intro z
    rw [List.foldl_cons, ih, has_or, Bool.or_eq_true, has_single, decide_eq_true_eq, List.mem_cons, or_assoc,
      eq_comm (a := x)]

/-- A plan's tracks can start, and no two of them share an actuator (R35). -/
theorem planTracks_sound {s : State} {run : RunReq} {ts : List Track} (h : planTracks s run = some ts) :
    (∀ k ∈ ts, Startable k) ∧ ts.Pairwise fun k j => ∀ a ∈ k.acts, a ∉ j.acts := by
  have chain : ∀ (b : Bool) (n : RecipeId) (m : StepId) (k : Track), ((walk s.ram.steps m).map fun w =>
      (⟨.recipe n b, some (s.ram.steps[m], .stored m), w.acts, some w.steps⟩ : Track)) = some k → Startable k := by
    intro b n m k hk
    obtain ⟨w, hw, rfl⟩ := Option.map_eq_some_iff.1 hk
    obtain ⟨a, ha⟩ := walk_actuator hw
    exact .inl ⟨_, _, a, rfl, ha⟩
  cases run with
  | recipe m p n =>
    simp only [planTracks] at h
    split at h
    · cases h
    · next ta hta _ =>
      cases h
      exact ⟨fun k hk => List.mem_singleton.1 hk ▸ chain _ _ _ _ hta, List.pairwise_singleton _ _⟩
    · next ta b hta _ =>
      split at h
      · cases h
      · next tb htb =>
        split at h
        · cases h
        · next apart =>
          cases h
          rw [Bool.not_eq_true, meets_eq_false] at apart
          refine ⟨fun k hk => ?_, List.pairwise_pair.2 fun a ha hb => ?_⟩
          · rcases List.mem_cons.1 hk with rfl | hk
            · exact chain _ _ _ _ hta
            · exact List.mem_singleton.1 hk ▸ chain _ _ _ _ htb
          · have := apart a ((has_actSet _ a).2 ha)
            rw [(has_actSet _ a).2 hb] at this; cases this
  | step m p a t c q =>
    cases h
    exact ⟨fun k hk => List.mem_singleton.1 hk ▸ .inl ⟨_, _, a, rfl, rfl⟩, List.pairwise_singleton _ _⟩
  | learn a =>
    cases h
    exact ⟨fun k hk => List.mem_singleton.1 hk ▸ .inr ⟨rfl, a, [], rfl⟩, List.pairwise_singleton _ _⟩

theorem zip_pairwise {ts : List Track} {ls : List LaneId} (h : ts.Pairwise fun k j => ∀ a ∈ k.acts, a ∉ j.acts)
    (nd : ls.Nodup) : (ts.zip ls).Pairwise fun p q => p.2 ≠ q.2 ∧ ∀ a ∈ p.1.acts, a ∉ q.1.acts := by
  induction ts generalizing ls with
  | nil => exact .nil
  | cons k ts ih =>
    cases ls with
    | nil => exact .nil
    | cons l ls =>
      rw [List.pairwise_cons] at h
      rw [List.nodup_cons] at nd
      refine List.pairwise_cons.2 ⟨fun q hq => ?_, ih h.2 nd.2⟩
      obtain ⟨h1, h2⟩ := List.of_mem_zip hq
      exact ⟨fun e => nd.1 (by rw [show l = q.2 from e]; exact h2), h.1 q.1 h1⟩

theorem decideRun_start {s : State} {st : Station} {run : RunReq} {ts : List Track}
    (h : decideRun s st run = .start ts) : planTracks s run = some ts := by
  unfold decideRun at h
  split at h
  · cases h
  · split at h
    · cases h
    · next xs hx =>
      dsimp only at h
      split at h
      · cases h
      · split at h
        · cases h
        · split at h
          · cases h
          · cases h; exact hx

section
variable {s t u : State} {l k : LaneId} {a : ActId}

/-! ### Bindings and records -/

theorem bindAll_binding (k : LaneId) (as : List ActId) (s : State) (a : ActId) :
    (bindAll k as s).acts[a].binding = if a ∈ as then some k else s.acts[a].binding := by
  unfold bindAll
  induction as generalizing s with
  | nil => simp
  | cons x xs ih =>
    rw [List.foldl_cons, ih]
    dsimp only
    rw [put_get]
    by_cases e : a = x
    · subst e; simp
    · simp [e, Ne.symm e]

/-- The record that an acceptance writes into a lane before its first step (R55). -/
def recordOf (st : Station) (tag : Byte) (mode : AdvanceMode) (down : Bool) (partner : Option LaneId) (x : Track)
    (now : Nat) (r : Lane) : Lane :=
  { r with
    owner := some st, tag := some tag, mode := some mode, plan := some x.plan, partner := partner
    currentStep := none, curAct := none, inline := x.inlineRecord, stepsCompleted := 0, bound := x.acts
    incidents := if down then incDowngraded else 0#7
    holdTime := some now, lapseTimer := if mode = .hold then some holdTime else none
    faultReason := none, lastResult := none }

/-- The records of the pairs of an acceptance, before the first steps (R55). -/
def recordAll (st : Station) (tag : Byte) (mode : AdvanceMode) (down : Bool) (ls : List LaneId)
    (pairs : List (Track × LaneId)) (s : State) : State :=
  pairs.foldl (fun s p => startRecord st tag mode down (partnerAmong ls p.2) p.1 p.2 s) s

/-- The first steps of the pairs of an acceptance (R72, R97). -/
def takeAll (pairs : List (Track × LaneId)) (s : State) : State := pairs.foldl (fun s p => takeFirst p.2 p.1 s) s

section
variable (st : Station) (tag : Byte) (mode : AdvanceMode) (down : Bool) (ls : List LaneId)
  (pairs : List (Track × LaneId))

theorem startRecord_lane (partner : Option LaneId) (x : Track) (k l : LaneId) (s : State) :
    (startRecord st tag mode down partner x k s).lanes[l] =
      if k = l then recordOf st tag mode down partner x s.now s.lanes[l] else s.lanes[l] := by
  unfold startRecord; dsimp only
  have now : (bindAll k x.acts s).now = s.now := now_of_surr (surr_of_outer (outer_bindAll s k x.acts))
  rw [updLane_lanes, put_get, bindAll_lanes, now]
  by_cases e : k = l
  · subst e; rw [if_pos rfl]; simp [recordOf]
  · rw [if_neg e, if_neg e]

theorem startRecord_binding (partner : Option LaneId) (x : Track) (k : LaneId) (s : State) (a : ActId) :
    (startRecord st tag mode down partner x k s).acts[a].binding = if a ∈ x.acts then some k else s.acts[a].binding := by
  unfold startRecord; dsimp only
  rw [updLane_acts, bindAll_binding]

theorem outer_startRecord (partner : Option LaneId) (x : Track) (k : LaneId) (s : State) :
    outer (startRecord st tag mode down partner x k s) = outer s := by
  unfold startRecord; exact (outer_updLane _ k _).trans (outer_bindAll s k x.acts)

theorem recordAll_now (s : State) : (recordAll st tag mode down ls pairs s).now = s.now := by
  induction pairs generalizing s with
  | nil => rfl
  | cons q qs ih => exact (ih _).trans (now_of_surr (surr_of_outer (outer_startRecord st tag mode down _ q.1 q.2 s)))

theorem recordAll_other (h : ∀ q ∈ pairs, q.2 ≠ l) (s : State) :
    (recordAll st tag mode down ls pairs s).lanes[l] = s.lanes[l] := by
  induction pairs generalizing s with
  | nil => rfl
  | cons q qs ih =>
    refine (ih (fun q hq => h q (List.mem_cons_of_mem _ hq)) _).trans ?_
    rw [startRecord_lane, if_neg (h q (List.mem_cons_self ..))]

theorem recordAll_binding_other (h : ∀ q ∈ pairs, a ∉ q.1.acts) (s : State) :
    (recordAll st tag mode down ls pairs s).acts[a].binding = s.acts[a].binding := by
  induction pairs generalizing s with
  | nil => rfl
  | cons q qs ih =>
    refine (ih (fun q hq => h q (List.mem_cons_of_mem _ hq)) _).trans ?_
    rw [startRecord_binding, if_neg (h q (List.mem_cons_self ..))]

/-- Each pair's lane has its record, and its actuators are bound to it, once every pair has been recorded (R20, R55). -/
theorem recordAll_pair (pw : pairs.Pairwise fun p q => p.2 ≠ q.2 ∧ ∀ a ∈ p.1.acts, a ∉ q.1.acts)
    {p : Track × LaneId} (hp : p ∈ pairs) (s : State) :
    (recordAll st tag mode down ls pairs s).lanes[p.2] =
      recordOf st tag mode down (partnerAmong ls p.2) p.1 s.now s.lanes[p.2] ∧
    ∀ a ∈ p.1.acts, (recordAll st tag mode down ls pairs s).acts[a].binding = some p.2 := by
  obtain ⟨xs, ys, rfl⟩ := List.append_of_mem hp
  rw [List.pairwise_append, List.pairwise_cons] at pw
  obtain ⟨-, ⟨after, -⟩, before⟩ := pw
  have e : recordAll st tag mode down ls (xs ++ p :: ys) s = recordAll st tag mode down ls ys
      (startRecord st tag mode down (partnerAmong ls p.2) p.1 p.2 (recordAll st tag mode down ls xs s)) := by
    unfold recordAll; rw [List.foldl_append, List.foldl_cons]
  rw [e]
  refine ⟨?_, fun a ha => ?_⟩
  · rw [recordAll_other st tag mode down ls ys (fun q hq => (after q hq).1.symm), startRecord_lane, if_pos rfl,
      recordAll_now, recordAll_other st tag mode down ls xs fun q hq => (before q hq p (List.mem_cons_self ..)).1]
  · rw [recordAll_binding_other st tag mode down ls ys (fun q hq => (after q hq).2 a ha), startRecord_binding, if_pos ha]

end

/-- Each pair's lane has taken its first step once every pair has (R72, R97). -/
theorem takeAll_pair {pairs : List (Track × LaneId)}
    (pw : pairs.Pairwise fun p q => p.2 ≠ q.2 ∧ ∀ a ∈ p.1.acts, a ∉ q.1.acts)
    {p : Track × LaneId} (hp : p ∈ pairs) (hs : Startable p.1) (s : State) :
    Onward s.lanes[p.2] (p.1.first.map fun x => x.2) (takeAll pairs s).lanes[p.2] ∧
    ((takeAll pairs s).lanes[p.2].state = .waitGate ∨ (takeAll pairs s).lanes[p.2].state = .claiming ∨
      (takeAll pairs s).lanes[p.2].state = .arming) := by
  obtain ⟨xs, ys, rfl⟩ := List.append_of_mem hp
  rw [List.pairwise_append, List.pairwise_cons] at pw
  obtain ⟨-, ⟨after, -⟩, before⟩ := pw
  have part : ∀ zs : List (Track × LaneId), (∀ q ∈ zs, q.2 ≠ p.2) → ∀ s, Left s.lanes[p.2] (takeAll zs s).lanes[p.2] :=
    fun zs h s => (Moves.foldl_mem (L := (· ≠ p.2)) (f := fun s (q : Track × LaneId) => takeFirst q.2 q.1 s) s
      fun s q hq => moves_takeFirst (L := (· ≠ p.2)) (k := q.2) s (h q hq) q.1).left fun h => h rfl
  have e : takeAll (xs ++ p :: ys) s = takeAll ys (takeFirst p.2 p.1 (takeAll xs s)) := by
    unfold takeAll; rw [List.foldl_append, List.foldl_cons]
  have first := part xs (fun q hq => (before q hq p (List.mem_cons_self ..)).1) s
  have last := part ys (fun q hq => (after q hq).1.symm) (takeFirst p.2 p.1 (takeAll xs s))
  rw [e]
  obtain ⟨on, st⟩ := takeFirst_own hs p.2 (takeAll xs s)
  have on' := ((onward_of_base first.base).trans on).trans (onward_of_base last.base)
  rw [on.step] at on'
  refine ⟨on', ?_⟩
  rcases last.state with h | h
  · rw [h]; exact st
  · exact .inr (.inr h)

/-! ### The acceptance -/

theorem accept_eq (st : Station) (tag : Byte) (run : RunReq) (ts : List Track) (s : State) :
    accept st tag run ts s = reply st tag run.kind (some run.object) .accepted
      (laneSet ((idleLanes s).take ts.length)) (runMode s run).2 (targetClamped s run)
      (takeAll (ts.zip ((idleLanes s).take ts.length)) (quickenPeriod (recordAll st tag (runMode s run).1 (runMode s run).2
        ((idleLanes s).take ts.length) (ts.zip ((idleLanes s).take ts.length)) s))) := rfl

/-- What an accepted request has written into each of its lanes stands after the tune that may follow (R55, R172). -/
theorem accept_startedOn {st : Station} {tag : Byte} {run : RunReq} {ts : List Track} (h : planTracks s run = some ts)
    {p : Track × LaneId} (hp : p ∈ ts.zip ((idleLanes s).take ts.length)) :
    StartedOn s (tryTune (accept st tag run ts s)) st tag run
      (partnerAmong ((idleLanes s).take ts.length) p.2) p.1 p.2 := by
  obtain ⟨able, apart⟩ := planTracks_sound h
  have nd : ((idleLanes s).take ts.length).Nodup :=
    ((by decide : allLanes.Nodup).sublist List.filter_sublist).sublist (List.take_sublist ..)
  have pw := zip_pairwise apart nd
  have tuned := (moves_tryTune (L := fun _ => False) (accept st tag run ts s)).left (l := p.2) id
  have bind (a : ActId) := binding_of_calm (calm_tryTune (accept st tag run ts s)) a
  rw [accept_eq] at tuned bind ⊢
  rw [reply_lanes] at tuned
  simp only [reply_acts] at bind
  generalize (idleLanes s).take ts.length = ls at hp nd pw tuned bind ⊢
  obtain ⟨lane, bound⟩ := recordAll_pair st tag (runMode s run).1 (runMode s run).2 ls (ts.zip ls) pw hp s
  generalize recordAll st tag (runMode s run).1 (runMode s run).2 ls (ts.zip ls) s = v at lane bound tuned bind ⊢
  obtain ⟨on, went⟩ := takeAll_pair pw hp (able p.1 (List.of_mem_zip hp).1) (quickenPeriod v)
  rw [quickenPeriod_lanes, lane] at on
  have calm_take : calm (takeAll (ts.zip ls) (quickenPeriod v)) = calm (quickenPeriod v) :=
    calm_foldl (fun s (q : Track × LaneId) => calm_takeFirst s q.2 q.1) _ _
  have all := on.trans (onward_of_base tuned.base)
  rw [on.step] at all
  generalize tryTune _ = t at *
  obtain ⟨terms, step, noted⟩ := all
  refine ⟨congrArg Lane.owner terms, congrArg Lane.tag terms, congrArg Lane.mode terms, congrArg Lane.plan terms,
    congrArg Lane.partner terms, congrArg Lane.bound terms, congrArg Lane.inline terms,
    congrArg Lane.stepsCompleted terms, congrArg Lane.holdTime terms, congrArg Lane.faultReason terms,
    congrArg Lane.lastResult terms, step, fun down => noted _ ?_, fun a ha => ?_, ?_⟩
  · simp only [recordOf, down, if_true]; decide
  · rw [bind, binding_of_calm calm_take, quickenPeriod_acts, bound a ha]
  · rcases tuned.state with h | h
    · rw [h]; exact went
    · exact .inr (.inr h)

/-- An accepted request is answered once, with the lanes and degrades, and the part is in ACTIVE (R55, R187). -/
theorem accept_answer (st : Station) (tag : Byte) (run : RunReq) (ts : List Track) (s : State) :
    (tryTune (accept st tag run ts s)).power.mode = .active ∧
    (tryTune (accept st tag run ts s)).tx.replies = s.tx.replies ++ [replyFrame st tag run.kind .accepted
      (laneSet ((idleLanes s).take ts.length)) (runMode s run).2 (targetClamped s run)] := by
  rw [tx_of_outer (outer_tryTune _)]
  have act : (accept st tag run ts s).power.mode = .active := by
    rw [accept_eq, reply]; exact activate_mode _
  refine ⟨(moves_tryTune (L := fun _ => False) _).active act, ?_⟩
  have recorded (ls : List LaneId) (pairs : List (Track × LaneId)) :
      (recordAll st tag (runMode s run).1 (runMode s run).2 ls pairs s).tx = s.tx :=
    tx_of_outer (outer_foldl (fun s (q : Track × LaneId) => outer_startRecord st tag _ _ _ q.1 q.2 s) _ _)
  have taken (pairs : List (Track × LaneId)) (v : State) : (takeAll pairs v).tx = v.tx :=
    tx_of_outer (outer_of_calm (calm_foldl (fun s (q : Track × LaneId) => calm_takeFirst s q.2 q.1) _ _))
  rw [accept_eq, reply]
  dsimp only
  rw [if_pos rfl, activate_tx, taken, quickenPeriod_tx, recorded]

theorem decodeRun_kind {st : Station} {kind : Byte} {body : List Byte} {run : RunReq}
    (h : decodeRun st kind body = some run) : run.kind = kind := by
  unfold decodeRun at h
  split at h
  · next e =>
    split at h
    · cases h
    · simp only [Option.bind_eq_bind, Option.bind_eq_some_iff, Option.pure_def, Option.some.injEq] at h
      obtain ⟨m, -, n, -, rfl⟩ := h; exact e.symm
  · split at h
    · next e =>
      split at h
      · cases h
      · simp only [Option.bind_eq_bind, Option.bind_eq_some_iff, Option.pure_def, Option.some.injEq] at h
        obtain ⟨m, -, a, -, x, -, c, -, p, -, rfl⟩ := h; exact e.symm
    · split at h
      · next e =>
        split at h
        · cases h
        · simp only [Option.bind_eq_bind, Option.bind_eq_some_iff, Option.pure_def, Option.some.injEq] at h
          obtain ⟨a, -, rfl⟩ := h; exact e.symm
      · cases h

/-- The command with a request that can be decoded and starts tracks (R44, R55). -/
theorem exec_run {st : Station} {kind : Byte} {body : List Byte} {run : RunReq} {ts : List Track} (hs : Serving s)
    (hd : decodeRun st kind body = some run) (hr : decideRun s st run = .start ts) :
    receiveRequest st kind body (serveRun st kind body) s = tryTune (accept st (byteAt body 0) run ts (heard s)) := by
  obtain ⟨hm, ready⟩ := hs
  unfold receiveRequest
  rw [if_neg hm, if_pos (show (busTraffic s).request.ready = true from ready)]
  have hr' : decideRun (heard s) st run = .start ts := hr
  change serveRun st kind body (heard s) = _
  unfold serveRun
  simp only [hd, hr', tagOf]

/-- What the three commands have in common. -/
theorem run_starts {st : Station} {kind : Byte} {body : List Byte} {run : RunReq} {ts : List Track} (hs : Serving s)
    (hd : decodeRun st kind body = some run) (hr : decideRun s st run = .start ts) :
    ∃ t, receiveRequest st kind body (serveRun st kind body) s = t ∧ t.power.mode = .active ∧
      t.tx.replies = s.tx.replies ++ [replyFrame st (byteAt body 0) kind .accepted
        (laneSet ((idleLanes s).take ts.length)) (runMode s run).2 (targetClamped s run)] ∧
      ∀ p ∈ ts.zip ((idleLanes s).take ts.length),
        StartedOn s t st (byteAt body 0) run (partnerAmong ((idleLanes s).take ts.length) p.2) p.1 p.2 := by
  obtain ⟨mode, replies⟩ := accept_answer st (byteAt body 0) run ts (heard s)
  rw [decodeRun_kind hd] at replies
  exact ⟨_, exec_run hs hd hr, mode, replies, fun p hp => accept_startedOn (s := heard s) (decideRun_start hr) hp⟩

/-- Settles O7: the three requests are accepted alike. -/
theorem acceptedRunStartsItsLanes : Obligations.AcceptedRunStartsItsLanes := by
  intro s st body hs
  refine ⟨fun run hd ts hr => ?_, fun run hd ts hr => ?_, fun run hd ts hr => ?_⟩
  · obtain ⟨_, rfl, r⟩ := run_starts hs hd hr; exact ⟨_, rfl, r⟩
  · obtain ⟨_, rfl, r⟩ := run_starts hs hd hr; exact ⟨_, rfl, r⟩
  · obtain ⟨_, rfl, r⟩ := run_starts hs hd hr; exact ⟨_, rfl, r⟩

end
end Sys2Proof.Proofs
end

section
/-! The completion of a write of travel, direction sense or gain (R8, R9, R161, R170, R176, R200, R201). -/

namespace Sys2Proof.Proofs

open Sys2Proof Sys2Proof.Machine Sys2Proof.Safety

section
variable {s t : State} {a : ActId} {c : ChanId} {tag : Byte} {y : BitVec 16}

/-! ### The completion of a write -/

/-- The verdicts of the checks at an operation's start and end are the model's (R200). -/
theorem storeRefusal_eq (s : State) : storeRefusal s = storeVerdict s := by
  unfold storeRefusal storeVerdict
  cases allIdle s <;> cases interlock s <;> rfl

/-- A SLEEP condition that waited changes none of what a write has brought but the presence timers and queue (R189). -/
theorem sleepIfWaiting_kept (s : State) : (sleepIfWaiting s).service = s.service ∧
    (sleepIfWaiting s).tx.replies = s.tx.replies ∧ (sleepIfWaiting s).acts = s.acts ∧ (sleepIfWaiting s).ram = s.ram ∧
    (sleepIfWaiting s).store = s.store := by
  unfold sleepIfWaiting; split <;> exact ⟨rfl, rfl, rfl, rfl, rfl⟩

/-- The state in which a write has been made and answered (R201). -/
def writtenTo (tag : Byte) (g : Group) (w : Settings → Settings) (s : State) : State :=
  serviceAnswer opWrite tag .accepted (writeGroup g w (endService s))

theorem exec_writeCompletion {f : FieldRef} {g : Group} {w : Settings → Settings} (hv : storeVerdict s = none)
    (hb : s.service.busy = some (.write tag f y)) (hw : writeOf f y.toNat = some (g, w)) :
    exec .serviceWriteCompletion s =
      .next (sleepIfWaiting (tryTune (writeConsequences (endService s) f (writtenTo tag g w s)))) := by
  have check : storeRefusal (endService s) = none := (storeRefusal_eq _).trans hv
  simp only [exec, execServiceWriteCompletion, hb, completeWrite, check, hw]; rfl

/-- What a state with the surroundings and replies of another keeps of a completed write, a SLEEP entry included. -/
theorem kept_of_calm (h : calm t = calm s) : (sleepIfWaiting t).service = s.service ∧
    (sleepIfWaiting t).tx.replies = s.tx.replies ∧ (sleepIfWaiting t).ram = s.ram ∧ (sleepIfWaiting t).store = s.store ∧
    ∀ b : ActId, (sleepIfWaiting t).acts[b].position = s.acts[b].position ∧
      (sleepIfWaiting t).acts[b].referenced = s.acts[b].referenced := by
  obtain ⟨service, replies, acts, ram, store⟩ := sleepIfWaiting_kept t
  have su := surr_of_outer (outer_of_calm h)
  rw [service, replies, acts, ram, store, tx_of_outer (outer_of_calm h)]
  exact ⟨service_of_surr su, rfl, ram_of_surr su, store_of_surr su, fun b => ⟨position_of_surr su b, referenced_of_surr su b⟩⟩

/-! ### Travel and direction sense -/

/-- The state in which an actuator has been unreferenced, before the gates are re-evaluated (R9). -/
def unreferenced (a : ActId) (o : Nat) (s : State) : State :=
  let pos := min s.acts[a].position s.ram.actuators[a].travel
  let s' := { s with acts := put s.acts a { s.acts[a] with position := pos, referenced := false } }
  let s' := writeActuator a (fun r => { r with storedPosition := pos, storedReferenced := false }) s'
  let s' := markIf (o != reported pos s.ram.actuators[a].travel) (if a.val < 8 then .positions else .sets) s'
  markIf s.acts[a].referenced .sets s'

theorem unreferenced_kept (a : ActId) (o : Nat) (s : State) :
    (unreferenced a o s).acts = put s.acts a { s.acts[a] with
      position := min s.acts[a].position s.ram.actuators[a].travel, referenced := false } ∧
    (unreferenced a o s).ram.actuators = put s.ram.actuators a { s.ram.actuators[a] with
      storedPosition := min s.acts[a].position s.ram.actuators[a].travel, storedReferenced := false } ∧
    (unreferenced a o s).store.actuators = put s.store.actuators a { s.store.actuators[a] with
      storedPosition := min s.acts[a].position s.ram.actuators[a].travel, storedReferenced := false } ∧
    (unreferenced a o s).service = s.service ∧ (unreferenced a o s).tx = s.tx := by
  refine ⟨?_, ?_, ?_, ?_, ?_⟩ <;>
    simp [-Fin.getElem_fin, unreferenced, writeActuator, writeGroup, Settings.onActuator]

/-- A write of a field of the actuator record that unreferences it (R9, R201). -/
theorem written_unreferenced (tag : Byte) (a : ActId) (o : Nat) (g : ActuatorRec → ActuatorRec) (s : State) :
    let t := sleepIfWaiting (tryTune (unreference a o (writtenTo tag .actuators (Settings.onActuator a g) s)))
    let pos := min s.acts[a].position (g s.ram.actuators[a]).travel
    t.service.busy = none ∧ t.tx.replies = s.tx.replies ++ [serviceFrame 2#8 tag .accepted false 0#16] ∧
    t.acts[a].referenced = false ∧ t.acts[a].position = pos ∧
    t.ram.actuators[a] = { g s.ram.actuators[a] with storedPosition := pos, storedReferenced := false } ∧
    t.store.actuators[a] = { g s.store.actuators[a] with storedPosition := pos, storedReferenced := false } ∧
    ∀ b : ActId, b ≠ a → t.acts[b].position = s.acts[b].position ∧ t.acts[b].referenced = s.acts[b].referenced := by
  intro t pos
  obtain ⟨acts, ram, store, service, tx⟩ := unreferenced_kept a o (writtenTo tag .actuators (Settings.onActuator a g) s)
  have c : calm (tryTune (unreference a o (writtenTo tag .actuators (Settings.onActuator a g) s))) =
      calm (unreferenced a o (writtenTo tag .actuators (Settings.onActuator a g) s)) :=
    (calm_tryTune _).trans (calm_gateEvent _)
  obtain ⟨kService, kReplies, kRam, kStore, kActs⟩ := kept_of_calm c
  have same : (writtenTo tag .actuators (Settings.onActuator a g) s).ram.actuators[a] = g s.ram.actuators[a] :=
    put_self ..
  have same' : (writtenTo tag .actuators (Settings.onActuator a g) s).store.actuators[a] = g s.store.actuators[a] :=
    put_self ..
  refine ⟨by rw [kService, service]; rfl, by rw [kReplies, tx]; rfl, ?_, ?_, ?_, ?_, fun b hb => ?_⟩
  · rw [(kActs a).2, acts, put_self]
  · rw [(kActs a).1, acts, put_self, same]; rfl
  · rw [kRam, ram, put_self, same]; rfl
  · rw [kStore, store, put_self, same, same']; rfl
  · obtain ⟨h1, h2⟩ := kActs b
    rw [h1, h2, acts, put_other _ hb]; exact ⟨rfl, rfl⟩

/-! ### Gain -/

/-- The record `r` is that of a channel `x` whose seeding begins: nothing counted, no timer, GUARD_LOST kept (R170). -/
def SeedingOf (x r : ChanRun) : Prop :=
  r.state = .starting ∧ r.seedCount = 0 ∧ r.seedSum = 0 ∧ r.guardLost = x.guardLost ∧ r.haltTimer = none ∧
  r.driftTimer = none

/-- A channel whose seeding begins is STARTING with nothing counted, and neither queued nor tuned (R170, R201). -/
theorem beginSeeding_chan (c : ChanId) (s : State) :
    SeedingOf s.chans[c] (beginSeeding c s).chans[c] ∧ Quiet c (beginSeeding c s) := by
  have out : has (s.presence.queue &&& ~~~single c) c = false := by simp [has_single]
  unfold beginSeeding; extract_lets v w
  have chan : w.chans[c] = { s.chans[c] with
      state := .starting, seedCount := 0, seedSum := 0, haltTimer := none, driftTimer := none } := put_self ..
  have seeds : SeedingOf s.chans[c] w.chans[c] := by rw [chan]; exact ⟨rfl, rfl, rfl, rfl, rfl, rfl⟩
  split
  · next k hk =>
    refine iteInduction (motive := fun u : State => SeedingOf s.chans[c] u.chans[c] ∧ Quiet c u) (fun _ => ?_) fun e => ?_
    · rw [updChan_chans, put_self]; exact ⟨seeds, out, rfl⟩
    · refine ⟨seeds, out, ?_⟩
      rw [hk]; simpa using e
  · next hk => exact ⟨seeds, out, by rw [hk]; rfl⟩

/-- What a completed write of a gain brings to its channel, before a SLEEP entry (R161, R168, R201). -/
def gainTaken (c : ChanId) (s : State) : State :=
  tryTune (handOn (fenceView s) c (beginSeeding c (setGuardLost c false s)))

theorem gain_consequences (before : State) (c : ChanId) (s : State) :
    tryTune (writeConsequences before (.channel c .gain) s) = gainTaken c s := rfl

/-- A channel that is seeded afresh: STARTING, nothing counted, no timer, without GUARD_LOST (R161, R170). -/
def Seeded (x : ChanRun) : Prop :=
  x.state = .starting ∧ x.seedCount = 0 ∧ x.seedSum = 0 ∧ x.guardLost = false ∧ x.haltTimer = none ∧ x.driftTimer = none

theorem gain_seeded (c : ChanId) (s : State) :
    calm (gainTaken c s) = calm s ∧ Seeded (gainTaken c s).chans[c] ∧ Quiet c (gainTaken c s) := by
  obtain ⟨⟨state, count, sum, lost, halt, drift⟩, quiet⟩ := beginSeeding_chan c (setGuardLost c false s)
  have moves : Moves (fun _ => True) (beginSeeding c (setGuardLost c false s)) (gainTaken c s) :=
    (moves_handOn _ _ _ fun _ _ => trivial).trans (moves_tryTune _)
  have h := moves.hushed quiet
  refine ⟨?_, ?_, h.quiet⟩
  · simp [gainTaken]
  · rw [h.chan]
    refine ⟨state, count, sum, lost.trans ?_, halt, drift⟩
    simp [-Fin.getElem_fin, setGuardLost]

/-- A SLEEP entry leaves a seeded channel seeded, and neither queued nor tuned (R189). -/
theorem sleepIfWaiting_seeded (h : Seeded s.chans[c]) (q : Quiet c s) :
    (sleepIfWaiting s).chans[c].state = .starting ∧ (sleepIfWaiting s).chans[c].seedCount = 0 ∧
    (sleepIfWaiting s).chans[c].seedSum = 0 ∧ (sleepIfWaiting s).chans[c].guardLost = false ∧
    (sleepIfWaiting s).chans[c].haltTimer = none ∧ (sleepIfWaiting s).chans[c].driftTimer = none ∧
    has (sleepIfWaiting s).presence.queue c = false ∧
    (sleepIfWaiting s).presence.tune.all (fun k => k.channel != c) = true := by
  obtain ⟨state, count, sum, lost, halt, drift⟩ := h
  obtain ⟨queued, tuned⟩ := q
  unfold sleepIfWaiting; split
  · have chan : (sleepEntry s).chans[c] = { s.chans[c] with haltTimer := none, driftTimer := none } := tab_get ..
    rw [chan]
    exact ⟨state, count, sum, lost, rfl, rfl, has_zero c, tuned⟩
  · exact ⟨state, count, sum, lost, halt, drift, queued, tuned⟩

/-- Settles O22: a write of travel or sense unreferences, and one of a gain seeds. -/
theorem writesOfTravelSenseAndGainHaveTheirConsequences : Obligations.WritesOfTravelSenseAndGainHaveTheirConsequences := by
  intro s a c tag y hv
  refine ⟨fun hb lo hi => ?_, fun hb hi => ?_, fun hb hi => ?_⟩
  · have hw : writeOf (.actuator a .travel) y.toNat =
        some (.actuators, Settings.onActuator a fun r => { r with travel := y.toNat }) := by
      simp [writeOf, writeActField, ranged, travelMin, travelMax, lo, hi]
    exact ⟨_, exec_writeCompletion hv hb hw, written_unreferenced tag a _ _ s⟩
  · have hw : writeOf (.actuator a .sense) y.toNat =
        some (.actuators, Settings.onActuator a fun r => { r with sense := if y = 0#16 then .forward else .reverse }) := by
      rcases Nat.le_one_iff_eq_zero_or_eq_one.1 hi with e | e
      · have z : y = 0#16 := BitVec.eq_of_toNat_eq e
        simp [writeOf, writeActField, z]
      · have z : y ≠ 0#16 := fun z => by rw [z] at e; cases e
        simp [writeOf, writeActField, e, z]
    exact ⟨_, exec_writeCompletion hv hb hw, written_unreferenced tag a _ _ s⟩
  · have hw : writeOf (.channel c .gain) y.toNat =
        some (.channels, Settings.onChannel c fun r => { r with gain := y.toNat }) := by
      simp [writeOf, writeChanField, ranged, hi]
    obtain ⟨calm_v, chan, quiet⟩ := gain_seeded c (writtenTo tag .channels
      (Settings.onChannel c fun r => { r with gain := y.toNat }) s)
    obtain ⟨service, replies, ram, store, -⟩ := kept_of_calm calm_v
    obtain ⟨state, count, sum, lost, halt, drift, queued, tuned⟩ := sleepIfWaiting_seeded chan quiet
    have e := exec_writeCompletion hv hb hw
    rw [gain_consequences] at e
    refine ⟨_, e, by rw [service]; rfl, by rw [replies]; rfl, ?_, ?_, state, count, sum, lost, halt, drift, queued, tuned⟩
    · rw [ram]; exact put_self ..
    · rw [store]; exact put_self ..

end
end Sys2Proof.Proofs
end

section
/-! The end of the restart start-up's store check (R21, R40, R50, R170, R178, R192 to R195, R198). -/

namespace Sys2Proof.Proofs

open Sys2Proof Sys2Proof.Machine Sys2Proof.Safety Sys2Proof.Laws

/-! ### The loading of the groups (R195) -/

section
variable (b : Bool) (t u : Settings)

theorem take_actuators : (if b then t.takeGroup .actuators u else t) =
    { t with actuators := if b then u.actuators else t.actuators } := by cases b <;> rfl
theorem take_channels : (if b then t.takeGroup .channels u else t) =
    { t with channels := if b then u.channels else t.channels } := by cases b <;> rfl
theorem take_steps : (if b then t.takeGroup .steps u else t) =
    { t with steps := if b then u.steps else t.steps } := by cases b <;> rfl
theorem take_recipes : (if b then t.takeGroup .recipes u else t) =
    { t with recipes := if b then u.recipes else t.recipes } := by cases b <;> rfl
theorem take_general : (if b then t.takeGroup .general u else t) =
    { t with dozeTime := if b then u.dozeTime else t.dozeTime } := by cases b <;> rfl
theorem take_counters : (if b then t.takeGroup .counters u else t) =
    { t with lifetime := if b then u.lifetime else t.lifetime
             restartCount := if b then u.restartCount else t.restartCount } := by cases b <;> rfl
theorem take_faultLog : (if b then t.takeGroup .faultLog u else t) =
    { t with log := if b then u.log else t.log } := by cases b <;> rfl

end

/-- The settings that are loaded, field by field (R195). -/
theorem loadedSettings_eq (fails : Group → Bool) (t : Settings) : loadedSettings fails t =
    { actuators := if fails .actuators then factorySettings.actuators else t.actuators
      channels := if fails .channels then factorySettings.channels else t.channels
      steps := if fails .steps then factorySettings.steps else t.steps
      recipes := if fails .recipes then factorySettings.recipes else t.recipes
      dozeTime := if fails .general then factorySettings.dozeTime else t.dozeTime
      lifetime := if fails .counters then factorySettings.lifetime else t.lifetime
      restartCount := if fails .counters then factorySettings.restartCount else t.restartCount
      log := if fails .faultLog then factorySettings.log else t.log } := by
  simp only [loadedSettings, allGroups, List.foldl_cons, List.foldl_nil, take_actuators, take_channels, take_steps,
    take_recipes, take_general, take_counters, take_faultLog]

/-- Each group's words are the factory's or the stored ones (R195). -/
theorem words_loaded (fails : Group → Bool) (t : Settings) (g : Group) :
    (loadedSettings fails t).words g = if fails g then factorySettings.words g else t.words g := by
  rw [loadedSettings_eq]
  cases g <;> (simp only [Settings.words]; split <;> rfl)

/-- The loaded store is sound (R194, R195). -/
theorem loadStore_sound (d : GroupSet) (s : State) : StoreSound (loadStore (checkFails d s) s) := by
  intro i
  have sum : (loadStore (checkFails d s) s).checksums[i] = if checkFails d s (groupAt i) then
      factorySettings.checksum (groupAt i) else s.checksums[i] := tab_get ..
  have words := words_loaded (checkFails d s) s.store (groupAt i)
  rw [sum]
  change sumsToZero (loadedSettings (checkFails d s) s.store) (groupAt i) _ = true
  cases f : checkFails d s (groupAt i) with
  | true =>
    rw [f] at words
    rw [sumsToZero_congr words]; exact sumsToZero_checksum ..
  | false =>
    rw [f] at words
    rw [sumsToZero_congr words]
    simp only [checkFails, Bool.or_eq_false_iff, Bool.not_eq_false', groupNo_groupAt] at f
    exact f.2

/-! ### The STORE_CORRUPT entries (R193, R195, R197) -/

/-- The entries of a restart begin with that of the first failed group. -/
theorem corruptEntries_cons (n r time : Nat) (g : Group) (gs : List Group) :
    corruptEntries n r time (g :: gs) =
      { sequence := min 65535 (n + 1), kind := .storeCorrupt, restartCount := r, time := time
        mode := .active, lane := none, actuator := none, position := none, deviation := none, arrangement := none
        group := some g, preceding := [] } :: corruptEntries (n + 1) r time gs := by
  simp only [corruptEntries, List.mapIdx_cons, Nat.add_zero, List.cons.injEq, true_and]
  congr 1
  funext i g
  rw [show n + (i + 1) + 1 = n + 1 + i + 1 by omega]

/-- The entries of a list of failed groups made one after the other (R193). -/
def corruptLogged (gs : List Group) (s : State) : State :=
  gs.foldl (fun s g => logWith [] .storeCorrupt none none none none none (some g) s) s

/-- What the entries leave of the settings. -/
def unlogged (t : Settings) : Settings := { t with log := [], lifetime := 0 }

/-- The lifetime count and the log after the entries of a restart (R193, R197, R198). -/
theorem corruptLogged_ram (gs : List Group) (n : Nat) (s : State) (h : s.ram.lifetime = min 65535 n) :
    (corruptLogged gs s).ram.lifetime = min 65535 (n + gs.length) ∧
    (corruptLogged gs s).ram.log = (corruptEntries n s.ram.restartCount s.now gs).foldl pushRing s.ram.log ∧
    unlogged (corruptLogged gs s).ram = unlogged s.ram := by
  induction gs generalizing n s with
  | nil => exact ⟨h, rfl, rfl⟩
  | cons g gs ih =>
    have next : (logWith [] .storeCorrupt none none none none none (some g) s).ram.lifetime = min 65535 (n + 1) := by
      change min 65535 (s.ram.lifetime + 1) = _
      rw [h]; omega
    obtain ⟨life, log, rest⟩ := ih (n + 1) _ next
    refine ⟨?_, ?_, ?_⟩
    · refine life.trans ?_
      rw [List.length_cons]; congr 1; omega
    · refine log.trans ?_
      rw [corruptEntries_cons, List.foldl_cons]
      change List.foldl pushRing (pushRing s.ram.log { sequence := min 65535 (s.ram.lifetime + 1), .. }) _ = _
      rw [show min 65535 (s.ram.lifetime + 1) = min 65535 (n + 1) by rw [h]; omega]; rfl
    · exact rest.trans rfl

/-- What the entries of a restart keep (R193, R194). -/
theorem corruptLogged_kept (gs : List Group) (s : State) (h : s.store = s.ram) (hs : StoreSound s) :
    (corruptLogged gs s).store = (corruptLogged gs s).ram ∧ StoreSound (corruptLogged gs s) := by
  induction gs generalizing s with
  | nil => exact ⟨h, hs⟩
  | cons g gs ih =>
    refine ih _ ?_ (logWith_storeSound [] .storeCorrupt none none none none none (some g) hs)
    simp only [logWith, writeGroup, mark, h]

theorem corruptLogged_same (gs : List Group) (s : State) :
    (corruptLogged gs s).acts = s.acts ∧ (corruptLogged gs s).chans = s.chans ∧
    (corruptLogged gs s).presence = s.presence ∧ (corruptLogged gs s).power = s.power ∧
    (corruptLogged gs s).startUp = s.startUp ∧ (corruptLogged gs s).now = s.now :=
  ⟨foldl_keeps State.acts (fun _ _ => by simp) gs s, foldl_keeps State.chans (fun _ _ => by simp) gs s,
    foldl_keeps State.presence (fun _ _ => by simp) gs s, foldl_keeps State.power (fun _ _ => by simp) gs s,
    foldl_keeps State.startUp (fun _ _ => by simp) gs s, foldl_keeps State.now (fun _ _ => by simp) gs s⟩

/-- The state in which the restart count has risen and the notice is set (R193). -/
def countRaised (c : Cause) (s : State) : State :=
  mark .general { writeGroup .counters (fun t => { t with restartCount := min 65535 (s.ram.restartCount + 1) }) s with
    power := { s.power with notice := some c } }

theorem countRestart_eq (c : Cause) (fails : Group → Bool) (s : State) :
    countRestart c fails s = corruptLogged (allGroups.filter fails) (countRaised c s) := by
  rw [corruptLogged, List.foldl_filter]; rfl

/-! ### The seeding of every channel (R170, R192) -/

/-- Every channel stands as after a restart, and none is queued or tuned (R170, R178). -/
def AllSeeding (s : State) : Prop :=
  ∀ c : ChanId, (s.chans[c].state = .starting ∧ s.chans[c].seedCount = 0 ∧ s.chans[c].guardLost = false) ∧ Quiet c s

theorem AllSeeding.tune {s : State} (h : AllSeeding s) : s.presence.tune = none := by
  cases e : s.presence.tune with
  | none => rfl
  | some k =>
    obtain ⟨-, -, tuned⟩ := h k.channel
    rw [e] at tuned; simp at tuned

theorem AllSeeding.queue {s : State} (h : AllSeeding s) : s.presence.queue = 0#12 :=
  eq_zero_iff.2 fun c => (h c).2.1

theorem AllSeeding.beginSeeding {s : State} (h : AllSeeding s) (d : ChanId) : AllSeeding (beginSeeding d s) := by
  intro c
  by_cases e : c = d
  · subst e
    obtain ⟨⟨state, count, -, lost, -, -⟩, quiet⟩ := beginSeeding_chan c s
    obtain ⟨⟨-, -, lost'⟩, -⟩ := h c
    exact ⟨⟨state, count, lost.trans lost'⟩, quiet⟩
  · have eq : Machine.beginSeeding d s = dequeue d (updChan d (fun x =>
        { x with state := .starting, seedCount := 0, seedSum := 0, haltTimer := none, driftTimer := none }) s) := by
      unfold Machine.beginSeeding; dsimp only
      have t : (dequeue d (updChan d (fun x => { x with
        state := .starting, seedCount := 0, seedSum := 0, haltTimer := none, driftTimer := none }) s)).presence.tune =
          none := h.tune
      rw [t]
    have chan : (Machine.beginSeeding d s).chans[c] = s.chans[c] := by
      rw [eq]; exact put_other _ e _
    obtain ⟨fresh, queued, tuned⟩ := h c
    rw [chan]
    refine ⟨fresh, ?_, by rw [eq]; exact tuned⟩
    rw [eq]; simp only [dequeue, has_and, updChan_presence, queued, Bool.false_and]

theorem seedAll_seeding (v : FenceView) {s : State} (h : AllSeeding s) : AllSeeding (seedAll v s) := by
  unfold seedAll; dsimp only
  have all : ∀ (cs : List ChanId) (s : State), AllSeeding s → AllSeeding (cs.foldl (fun s c => beginSeeding c s) s) := by
    intro cs
    induction cs with
    | nil => exact fun _ h => h
    | cons c cs ih => exact fun s h => ih _ (h.beginSeeding c)
  have begun := all allChans { s with presence := { s.presence with roundTimer := some roundActive } } h
  intro c
  obtain ⟨fresh, quiet⟩ := begun c
  have hush := (moves_handOnAll (allChans.foldl (fun s c => beginSeeding c s)
    { s with presence := { s.presence with roundTimer := some roundActive } }) v allChans).hushed quiet
  rw [hush.chan]
  exact ⟨fresh, hush.quiet⟩

theorem calm_seedAll (v : FenceView) (s : State) : calm (seedAll v s) = calm s := by
  unfold seedAll; dsimp only
  rw [calm_handOnAll]
  exact calm_foldl (fun s c => calm_beginSeeding s c) _ _

/-! ### The command -/

/-- The state at the end of the store check, before the channels seed (R192 steps 3 to 5). -/
def restarted (d : GroupSet) (k : Cause) (s : State) : State :=
  corruptLogged (allGroups.filter (checkFails d s)) (countRaised k (loadStore (checkFails d s) s))

theorem exec_storeCheckComplete {d : GroupSet} {k : Cause} {s : State} (h : s.startUp = .loading k) :
    ∃ t, exec (.storeCheckComplete d) s = .next t ∧ calm t = calm (setReady (restarted d k s)) ∧ AllSeeding t := by
  have e : exec (.storeCheckComplete d) s = .next (seedAll FenceView.clear { setReady (restarted d k s) with
      report := { (setReady (restarted d k s)).report with period := some slowPeriod } }) := by
    simp only [exec, execStoreCheckComplete, h, countRestart_eq]; rfl
  refine ⟨_, e, calm_seedAll .., seedAll_seeding _ fun c => ?_⟩
  obtain ⟨-, chans, presence, -, -, -⟩ := corruptLogged_same (allGroups.filter (checkFails d s))
    (countRaised k (loadStore (checkFails d s) s))
  have chan : (restarted d k s).chans[c] = ChanRun.restart := by
    rw [restarted, chans]; exact tab_get ..
  have pre : (restarted d k s).presence = Presence.restart := by rw [restarted, presence]; rfl
  have quiet : Quiet c (restarted d k s) := by
    rw [Quiet, pre]; exact ⟨has_zero c, rfl⟩
  exact ⟨by rw [show ({ setReady (restarted d k s) with report := _ } : State).chans[c] = ChanRun.restart from chan]
            exact ⟨rfl, rfl, rfl⟩, quiet⟩

/-- The settings when the store check has ended (R193, R195). -/
theorem restarted_settings (d : GroupSet) (k : Cause) (s : State) (life : s.store.lifetime ≤ 65535) :
    (restarted d k s).ram.lifetime = min 65535 ((loadedSettings (checkFails d s) s.store).lifetime +
      (allGroups.filter (checkFails d s)).length) ∧
    (restarted d k s).ram.log = (corruptEntries (loadedSettings (checkFails d s) s.store).lifetime
      (min 65535 ((loadedSettings (checkFails d s) s.store).restartCount + 1)) s.now
      (allGroups.filter (checkFails d s))).foldl pushRing (loadedSettings (checkFails d s) s.store).log ∧
    unlogged (restarted d k s).ram = unlogged { loadedSettings (checkFails d s) s.store with
      restartCount := min 65535 ((loadedSettings (checkFails d s) s.store).restartCount + 1) } ∧
    (restarted d k s).store = (restarted d k s).ram ∧ StoreSound (restarted d k s) := by
  have bound : (loadedSettings (checkFails d s) s.store).lifetime ≤ 65535 := by
    rw [loadedSettings_eq]; dsimp only; split
    · exact Nat.zero_le _
    · exact life
  obtain ⟨lifetime, log, rest⟩ := corruptLogged_ram (allGroups.filter (checkFails d s))
    (loadedSettings (checkFails d s) s.store).lifetime (countRaised k (loadStore (checkFails d s) s))
    (Nat.min_eq_right bound).symm
  obtain ⟨store, sound⟩ := corruptLogged_kept (allGroups.filter (checkFails d s))
    (countRaised k (loadStore (checkFails d s) s)) rfl
    (writeGroup_storeSound (f := fun t => { t with
      restartCount := min 65535 ((loadStore (checkFails d s) s).ram.restartCount + 1) }) (loadStore_sound d s)
      fun _ h => words_withRestartCount _ _ h)
  exact ⟨lifetime, log, rest, store, sound⟩

/-- Settles O24: loading, restart count and entries, start-up flag, and the seeding of every channel. -/
theorem storeCheckEndsTheRestart : Obligations.StoreCheckEndsTheRestart := by
  intro s d life
  refine ⟨fun k hk => ?_, fun h => ?_⟩
  · obtain ⟨t, e, c, seeding⟩ := exec_storeCheckComplete (d := d) hk
    obtain ⟨lifetime, log, rest, store, sound⟩ := restarted_settings d k s life
    obtain ⟨acts, -, -, power, startUp, -⟩ := corruptLogged_same (allGroups.filter (checkFails d s))
      (countRaised k (loadStore (checkFails d s) s))
    have su := surr_of_outer (outer_of_calm c)
    have ram : t.ram = (restarted d k s).ram := (ram_of_surr su :)
    have str : t.store = (restarted d k s).store := (store_of_surr su :)
    have act (a : ActId) : (setReady (restarted d k s)).acts[a] = ActRun.loaded t.ram.actuators[a] := by
      have same := congrArg Settings.actuators rest
      rw [ram, show (restarted d k s).ram.actuators = (loadedSettings (checkFails d s) s.store).actuators from same,
        setReady_acts, restarted, acts]
      exact tab_get ..
    rw [loadedSettings_eq] at lifetime log rest
    have actuators := congrArg Settings.actuators rest
    have channels := congrArg Settings.channels rest
    have steps := congrArg Settings.steps rest
    have recipes := congrArg Settings.recipes rest
    have dozeTime := congrArg Settings.dozeTime rest
    have restarts := congrArg Settings.restartCount rest
    rw [ram] at act
    refine ⟨t, e, ?_⟩
    rw [ram, str]
    refine ⟨startUp_of_surr su, ready_of_outer (outer_of_calm c), ?_, store, ?_, actuators, channels, steps,
      recipes, dozeTime, restarts, lifetime, ?_, fun a => ?_, fun c => (seeding c).1, seeding.queue, seeding.tune⟩
    · rw [notice_of_surr su]; exact congrArg Power.notice power
    · intro i; rw [str, checksums_of_surr su]; exact sound i
    · rw [show (restarted d k s).ram.restartCount = _ from restarts]; exact log
    · rw [position_of_surr su, referenced_of_surr su, manualPulses_of_surr su, binding_of_calm c, act]
      exact ⟨rfl, rfl, rfl, rfl⟩
  · rcases h with h | h <;> simp only [exec, execStoreCheckComplete, h]

end Sys2Proof.Proofs
end

section
/-! A partner fault (R91, R96): what the zones that a faulted lane releases, and then the halt, do to its partner. -/

namespace Sys2Proof.Proofs

open Sys2Proof Sys2Proof.Machine Sys2Proof.Safety

section
variable {L : LaneId → Prop} {s t v : State} {l j k : LaneId}

/-! ### A lane in CLAIMING while other lanes act -/

/-- A lane that waits for its zones, or has been granted them (R99, R103). -/
def Pending (j : LaneId) (s : State) : Prop :=
  (s.lanes[j].state = .claiming ∧ s.lanes[j].ctx.isSome = true ∧ heldBy s j = 0#12) ∨
    (s.lanes[j].state = .arming ∧ Unlisted s j)

theorem pending_grant {e : WaitEntry} (h : s.lanes[j].ctx.isSome = true) (he : e.lane = j) : Pending j (grant e s) := by
  subst he
  have own (u : State) (hl : u.lanes = s.lanes) (hu : Unlisted u e.lane) : Pending e.lane (enterArming e.lane u) := by
    obtain ⟨c, hc⟩ := Option.isSome_iff_exists.1 h
    unfold enterArming
    rw [show u.lanes[e.lane].ctx = some c by rw [hl]; exact hc]
    have list : Unlisted (updLane e.lane (fun r => { r.leaving with state := .arming }) (armOrder e.lane c.act u))
        e.lane := by
      rw [Unlisted, updLane_waitList]; exact hu
    have ap := apart_suspendTune (updLane e.lane (fun r => { r.leaving with state := .arming }) (armOrder e.lane c.act u))
      (l := e.lane)
    refine .inr ⟨ap.state.trans (by rw [updLane_lanes, put_self]), ap.list list⟩
  unfold grant; dsimp only; split
  · exact own _ rfl (unlisted_leaveList e.lane (setHolders e.wanted (some e.lane) s))
  · exact own _ rfl (unlisted_leaveList e.lane (setHolders e.wanted (some e.lane) s))

/-- A lane that waits goes on waiting or is granted, whatever other lanes do (R99 to R103). -/
theorem Moves.pending (m : Moves L s t) (hl : ¬ L j) (p : Pending j s) : Pending j t := by
  refine m.keep (P := Pending j) (fun s t m p => ?_) p
  rcases m.spared_or_granted hl with sp | ⟨e, he, -, rfl⟩
  · rcases p with ⟨st, ctx, held⟩ | ⟨st, u⟩
    · exact .inl ⟨sp.apart.state.trans st, by rw [sp.apart.ctx]; exact ctx, sp.apart.zones.trans held⟩
    · exact .inr ⟨sp.apart.state.trans st, sp.apart.list u⟩
  · obtain ⟨mem, lane⟩ := entryOf_some s he
    rcases p with ⟨-, ctx, -⟩ | ⟨-, u⟩
    · exact pending_grant ctx lane
    · exact absurd lane (u e mem)

theorem pending_of_claiming (w : WaitListFits s) (h : s.lanes[j].state = .claiming) : Pending j s := by
  obtain ⟨-, -, -, claims⟩ := w
  obtain ⟨-, ctx, held⟩ := claims j h
  exact .inl ⟨h, ctx, held⟩

/-! ### The partner in force (R96) -/

/-- The lanes are partners of one arrangement (R96). -/
def InForce (s : State) (l j : LaneId) : Prop :=
  s.lanes[l].partner = some j ∧ s.lanes[j].partner = some l ∧ s.lanes[j].state.free = false

/-- Other lanes' changes leave a lane as free or as bound to an arrangement as it was. -/
theorem moves_free (w : WaitListFits s) (m : Moves (· = l) s v) (hj : j ≠ l) :
    v.lanes[j].state.free = s.lanes[j].state.free := by
  by_cases c : s.lanes[j].state = .claiming
  · rw [c]
    rcases m.pending hj (pending_of_claiming w c) with ⟨h, -⟩ | ⟨h, -⟩
    · rw [h]
    · rw [h]; rfl
  · rw [(m.spared hj (unlisted_of_state w c)).apart.state]

theorem inForce_iff (w : WaitListFits s) (m : Moves (· = l) s v) (hp : v.lanes[l].partner = s.lanes[l].partner)
    (hj : j ≠ l) : InForce v l j ↔ InForce s l j := by
  have base : v.lanes[j].partner = s.lanes[j].partner := by
    have same := congrArg Lane.partner (m.left hj).base
    exact same
  rw [InForce, InForce, hp, base, moves_free w m hj]

/-- The partner fault that a lane in FAULTED hands on (R96). -/
def handOnFault (l : LaneId) (s : State) : State :=
  match partnerOf s l with
  | some p => haltLane p .partnerFault s
  | none => s

theorem haltLane_faulted {r : PauseReason} (h : s.lanes[l].state = .faulted) : haltLane l r s = s := by
  unfold haltLane; simp only [h]

theorem handOnFault_inForce (h : InForce s l j) : handOnFault l s = haltLane j .partnerFault s := by
  unfold handOnFault; rw [(partnerOf_eq s j).2 h]

/-- Only a partner in force is reached (R96). -/
theorem moves_handOnFault (hf : s.lanes[l].state = .faulted) :
    Moves (fun x => x ≠ l ∧ InForce s l x) s (handOnFault l s) := by
  unfold handOnFault; split
  · next p hp =>
    by_cases e : p = l
    · subst e; rw [haltLane_faulted hf]
    · exact moves_haltLane s ⟨e, (partnerOf_eq s p).1 hp⟩ _
  · exact .refl

/-! ### The halt of the partner (R91) -/

/-- What a partner fault has done to a lane stays while other lanes act (R96). -/
theorem partnerFaulted_spared (h : PartnerFaulted s v j) (sp : Spared j v t) (u : Unlisted v j)
    (nf : v.lanes[j].state ≠ .fenced) : PartnerFaulted s t j := by
  have lane := sp.record nf
  have drive := sp.apart.drive
  have held := sp.apart.zones
  have ut : Unlisted t j ↔ Unlisted v j := ⟨fun _ => u, fun _ => sp.apart.list u⟩
  have keeps : KeepsZones s t j ↔ KeepsZones s v j := forall_congr' fun z => by rw [sp.apart.holder]
  have open_ : RelayOpen t j ↔ RelayOpen v j := by rw [RelayOpen, RelayOpen, drive]
  have brake : Braking t j 50 false ↔ Braking v j 50 false := by rw [Braking, Braking, drive]
  unfold PartnerFaulted at h ⊢
  rw [lane, held, ut, keeps, open_, brake]
  exact h

/-- A lane that a partner fault has left in this state is off the wait list, and neither in FENCED nor in IDLE. -/
def Settled (j : LaneId) (t : State) : Prop :=
  Unlisted t j ∧ t.lanes[j].state ≠ .fenced ∧ t.lanes[j].state ≠ .idle

theorem halted_paused (r : PauseReason) (p : ResumePoint) (u : Unlisted v j) :
    PausedAt (enterPaused j r p v).lanes[j] r p ∧ (enterPaused j r p v).holders = v.holders ∧
    Settled j (enterPaused j r p v) := by
  obtain ⟨zones, list, -⟩ := enterPaused_others j r p v
  obtain ⟨state, -⟩ := pausedAt_enterPaused j r p v
  exact ⟨pausedAt_enterPaused j r p v, zones, by rw [Unlisted, list]; exact u,
    by rw [state]; decide, by rw [state]; decide⟩

theorem haltLane_stopping {r : PauseReason} (h : s.lanes[j].state = .stopping ∨ s.lanes[j].state = .reversing)
    (d : ∀ x, s.lanes[j].stopDest ≠ some (.idle x)) :
    haltLane j r s = updLane j (fun q => { q with stopDest := some (.paused r) }) s := by
  unfold haltLane
  rcases h with h | h <;> simp only [h]

theorem haltLane_stopping_idle {r : PauseReason} {x : Result}
    (h : s.lanes[j].state = .stopping ∨ s.lanes[j].state = .reversing)
    (d : s.lanes[j].stopDest = some (.idle x)) : haltLane j r s = s := by
  unfold haltLane
  rcases h with h | h <;> simp only [h, d]

theorem haltLane_settling {r : PauseReason} (h : s.lanes[j].state = .settling)
    (d : ∀ x, s.lanes[j].pendingOrder ≠ some (.cancel x)) :
    haltLane j r s = updLane j (fun q => { q with pendingOrder := some (.halt r) }) s := by
  unfold haltLane; simp only [h]

theorem haltLane_settling_cancel {r : PauseReason} {x : Result} (h : s.lanes[j].state = .settling)
    (d : s.lanes[j].pendingOrder = some (.cancel x)) : haltLane j r s = s := by
  unfold haltLane; simp only [h, d]

/-- The halt with PARTNER_FAULT of a lane of the arrangement, after changes to the faulted lane alone (R91, R96). -/
theorem partnerFaulted_haltLane (w : WaitListFits s) (m : Moves (· = l) s v) (hj : j ≠ l)
    (nf : s.lanes[j].state.free = false) :
    PartnerFaulted s (haltLane j .partnerFault v) j ∧ Settled j (haltLane j .partnerFault v) := by
  by_cases c : s.lanes[j].state = .claiming
  · unfold PartnerFaulted; simp only [c]
    rcases m.pending hj (pending_of_claiming w c) with ⟨h, -, held⟩ | ⟨h, u⟩
    · have e : haltLane j .partnerFault v = enterPaused j .partnerFault .claim (leaveList j v) := by
        unfold haltLane; simp only [h]
      obtain ⟨at_, zones, st⟩ := halted_paused .partnerFault .claim (unlisted_leaveList j v)
      rw [e]
      exact ⟨⟨st.1, .inl ⟨at_, (heldBy_congr zones j).trans held⟩⟩, st⟩
    · have e : haltLane j .partnerFault v = enterPaused j .partnerFault .motion (openRelay j v) := by
        unfold haltLane; simp only [h]
      obtain ⟨at_, -, st⟩ := halted_paused (v := openRelay j v) .partnerFault .motion u
      rw [e]
      refine ⟨⟨st.1, .inr ⟨at_, relayOpen_of_drive ?_ (relayOpen_openRelay j v)⟩⟩, st⟩
      rw [enterPaused_drives]
  · have sp := m.spared hj (unlisted_of_state w c)
    have u : Unlisted v j := sp.apart.list (unlisted_of_state w c)
    have keeps : KeepsZones s v j := fun z hz => (sp.apart.holder z).2 hz
    have state := sp.apart.state
    have paused : ∀ p : ResumePoint, haltLane j .partnerFault v = enterPaused j .partnerFault p v →
        (PausedAt (haltLane j .partnerFault v).lanes[j] .partnerFault p ∧ KeepsZones s (haltLane j .partnerFault v) j) ∧
        Settled j (haltLane j .partnerFault v) := fun p e => by
      obtain ⟨at_, zones, st⟩ := halted_paused .partnerFault p u
      rw [e]
      exact ⟨⟨at_, fun z hz => by rw [zones]; exact keeps z hz⟩, st⟩
    have written : ∀ f : Lane → Lane, haltLane j .partnerFault v = updLane j f v → s.lanes[j].state ≠ .fenced →
        (f s.lanes[j]).state ≠ .fenced → (f s.lanes[j]).state ≠ .idle →
        ((haltLane j .partnerFault v).lanes[j] = f s.lanes[j] ∧ KeepsZones s (haltLane j .partnerFault v) j) ∧
        Settled j (haltLane j .partnerFault v) := fun f e nf h1 h2 => by
      have own : (updLane j f v).lanes[j] = f s.lanes[j] := by rw [updLane_lanes, put_self, sp.record nf]
      rw [e]
      refine ⟨⟨own, fun z hz => by rw [updLane_holders]; exact keeps z hz⟩,
        by rw [Unlisted, updLane_waitList]; exact u, by rw [own]; exact h1, by rw [own]; exact h2⟩
    have kept : haltLane j .partnerFault v = v → s.lanes[j].state ≠ .fenced → s.lanes[j].state ≠ .idle →
        ((haltLane j .partnerFault v).lanes[j] = s.lanes[j] ∧ KeepsZones s (haltLane j .partnerFault v) j) ∧
        Settled j (haltLane j .partnerFault v) := fun e nf ni => by
      rw [e]
      exact ⟨⟨sp.record nf, keeps⟩, u, by rw [state]; exact nf, by rw [state]; exact ni⟩
    have dest : s.lanes[j].state = .stopping ∨ s.lanes[j].state = .reversing →
        ((haltLane j .partnerFault v).lanes[j] = { s.lanes[j] with
          stopDest := (match s.lanes[j].stopDest with
            | some (.idle r) => some (.idle r)
            | _ => some (.paused .partnerFault)) } ∧ KeepsZones s (haltLane j .partnerFault v) j) ∧
        Settled j (haltLane j .partnerFault v) := fun h => by
      have nf : s.lanes[j].state ≠ .fenced := by rcases h with h | h <;> rw [h] <;> decide
      have ni : s.lanes[j].state ≠ .idle := by rcases h with h | h <;> rw [h] <;> decide
      have same : v.lanes[j] = s.lanes[j] := sp.record nf
      split
      · next r d =>
        have keep := kept (haltLane_stopping_idle (by rw [same]; exact h) (by rw [same, d])) nf ni
        rw [← d]
        exact keep
      · next d =>
        exact written (fun q => { q with stopDest := some (.paused .partnerFault) })
          (haltLane_stopping (by rw [same]; exact h) (by rw [same]; exact d)) nf nf ni
    unfold PartnerFaulted
    cases h : s.lanes[j].state with
    | claiming => exact absurd h c
    | idle => rw [h] at nf; cases nf
    | offline => rw [h] at nf; cases nf
    | faulted => exact kept (haltLane_faulted (state.trans h)) (by rw [h]; decide) (by rw [h]; decide)
    | moving =>
      obtain ⟨follow, -⟩ := w
      obtain ⟨-, -, -, drives⟩ := follow j
      have e : haltLane j .partnerFault v = enterStopping j (.paused .partnerFault) v := by
        unfold haltLane; simp only [state.trans h]
      obtain ⟨lane, brk, zones, -⟩ := enterStopping_driving (s := v) (l := j) (.paused .partnerFault)
        (by rw [sp.apart.drive]; exact drives h)
      rw [e]
      exact ⟨⟨by rw [lane], by rw [lane], brk, fun z hz => by rw [zones]; exact keeps z hz⟩,
        by rw [Unlisted, enterStopping_waitList]; exact u, by rw [lane]; exact (nomatch ·),
        by rw [lane]; exact (nomatch ·)⟩
    | arming =>
      have e : haltLane j .partnerFault v = enterPaused j .partnerFault .motion (openRelay j v) := by
        unfold haltLane; simp only [state.trans h]
      obtain ⟨at_, zones, st⟩ := halted_paused (v := openRelay j v) .partnerFault .motion u
      rw [e]
      exact ⟨⟨at_, relayOpen_of_drive (by rw [enterPaused_drives]) (relayOpen_openRelay j v),
        fun z hz => by rw [zones]; exact keeps z hz⟩, st⟩
    | waitGate => exact paused .gate (by unfold haltLane; simp only [state.trans h])
    | dwell => exact paused .afterStep (by unfold haltLane; simp only [state.trans h])
    | waitAdvance => exact paused .advance (by unfold haltLane; simp only [state.trans h])
    | fenced => exact paused .motion (by unfold haltLane; simp only [state.trans h])
    | paused =>
      exact written (fun r => { r with pauseReason := some .partnerFault })
        (by unfold haltLane; simp only [state.trans h]) (by rw [h]; decide) (by rw [h]; decide) (by rw [h]; decide)
    | stopping => exact dest (.inl h)
    | reversing => exact dest (.inr h)
    | settling =>
      have nf : s.lanes[j].state ≠ .fenced := by rw [h]; decide
      have ni : s.lanes[j].state ≠ .idle := by rw [h]; decide
      have same : v.lanes[j] = s.lanes[j] := sp.record nf
      dsimp only; split
      · next r d =>
        have keep := kept (haltLane_settling_cancel (state.trans h) (by rw [same, d])) nf ni
        rw [← d]
        exact keep
      · next d =>
        exact written (fun q => { q with pendingOrder := some (.halt .partnerFault) })
          (haltLane_settling (state.trans h) (by rw [same]; exact d)) nf nf ni

end
end Sys2Proof.Proofs
end

section
/-! O31: the third saturated sample in a row is a drive fault (R63, R89, R96, R130). -/

namespace Sys2Proof.Proofs

open Sys2Proof Sys2Proof.Machine Sys2Proof.Safety

section
variable {s t u v : State} {l j k : LaneId} {a : ActId}

/-! ### The fault log -/

theorem getLast?_pushRing {α : Type} (ring : List α) (x : α) : (pushRing ring x).getLast? = some x := by
  rw [pushRing, List.getLast?_drop, if_neg (by rw [List.length_append, List.length_singleton]; omega),
    List.getLast?_concat]

theorem logged_logEntry (k : LogKind) (pos : Nat) (dev : Option Int) (r : Option (Station × Byte)) (g : Option Group) :
    Logged (logEntry k (some l) (some a) (some pos) dev r g s) k l a pos := by
  have own : ∀ e : LogEntry, e.kind = k → e.lane = some l → e.actuator = some a → e.position = some pos →
      isEntry k l a pos e = true := fun e h1 h2 h3 h4 => by simp [isEntry, h1, h2, h3, h4]
  constructor
  · change (pushRing s.ram.log _).getLast?.any _ = true
    rw [getLast?_pushRing]; exact own _ rfl rfl rfl rfl
  · change (pushRing s.store.log _).getLast?.any _ = true
    rw [getLast?_pushRing]; exact own _ rfl rfl rfl rfl

theorem logEntry_actuators (k : LogKind) (l : Option LaneId) (a : Option ActId) (p : Option Nat) (d : Option Int)
    (r : Option (Station × Byte)) (g : Option Group) (s : State) :
    (logEntry k l a p d r g s).ram.actuators = s.ram.actuators := rfl

/-! ### The supply measurement of a sample (R184, R185) -/

theorem supplyLowOnset_still (h : ¬ (s.lanes[k].state = .moving ∨ s.lanes[k].state = .reversing)) :
    supplyLowOnset s k = s := by
  unfold supplyLowOnset; split
  · next e => exact absurd (.inl e) h
  · next e => exact absurd (.inr e) h
  · rfl

/-- An onset of supply low reaches moving and reversing lanes only (R88). -/
theorem spared_supplyLow (xs : List LaneId) (u : Unlisted s l)
    (h : ¬ (s.lanes[l].state = .moving ∨ s.lanes[l].state = .reversing)) : Spared l s (xs.foldl supplyLowOnset s) := by
  induction xs generalizing s with
  | nil => exact .refl
  | cons x xs ih =>
    rw [List.foldl_cons]
    have sp : Spared l s (supplyLowOnset s x) := by
      by_cases e : x = l
      · subst e; rw [supplyLowOnset_still h]; exact .refl
      · exact (moves_supplyLowOnset (L := (· = x)) s fun _ => rfl).spared (Ne.symm e) u
    exact sp.trans (ih (sp.apart.list u) (by rw [sp.apart.state]; exact h))

/-- A measurement changes the supply record and a flag, and on an onset of supply low reaches the lanes. -/
theorem measure_cases (mv : Nat) (s : State) : ∃ x r,
    Machine.measure mv s = { s with supply := x, report := r } ∨
    (¬ (9000 ≤ mv ∨ s.supply.low = true ∨ s.supply.lowRun < 9) ∧
      Machine.measure mv s = allLanes.foldl supplyLowOnset { s with supply := x, report := r }) := by
  unfold Machine.measure; dsimp only; split
  · next lt =>
    split
    · next g =>
      simp only [Bool.and_eq_true, decide_eq_true_eq, lowRunLimit, Bool.not_eq_true'] at g
      obtain ⟨run, low⟩ := g
      refine ⟨_, _, .inr ⟨?_, rfl⟩⟩
      rw [low]; simp only [lowSupply] at lt; rintro (h | h | h)
      · omega
      · cases h
      · omega
    · exact ⟨_, _, .inl rfl⟩
  · unfold markIf; split
    · exact ⟨_, _, .inl rfl⟩
    · exact ⟨_, _, .inl rfl⟩

theorem spared_measure (mv : Nat) (u : Unlisted s l)
    (h : ¬ (s.lanes[l].state = .moving ∨ s.lanes[l].state = .reversing)) : Spared l s (Machine.measure mv s) := by
  obtain ⟨x, r, e | ⟨-, e⟩⟩ := measure_cases mv s <;> rw [e]
  · exact .of_same rfl rfl rfl rfl rfl
  · have first : Spared l s { s with supply := x, report := r } := .of_same rfl rfl rfl rfl rfl
    exact first.trans (spared_supplyLow _ u h)

/-- A measurement that is no onset of supply low reaches no lane (R185). -/
theorem spared_measure_steady (mv : Nat) (h : 9000 ≤ mv ∨ s.supply.low = true ∨ s.supply.lowRun < 9) (l : LaneId) :
    Spared l s (Machine.measure mv s) := by
  obtain ⟨x, r, e | ⟨n, -⟩⟩ := measure_cases mv s
  · rw [e]; exact .of_same rfl rfl rfl rfl rfl
  · exact absurd h n

theorem calm_measure (mv : Nat) (s : State) : ∃ x, calm (Machine.measure mv s) = calm { s with supply := x } := by
  obtain ⟨x, r, e | ⟨-, e⟩⟩ := measure_cases mv s <;> rw [e]
  · exact ⟨x, rfl⟩
  · exact ⟨x, calm_foldl (fun s k => calm_supplyLowOnset s k) _ _⟩

/-! ### The entry into FAULTED (R89) -/

/-- The record of a lane in FAULTED(DRIVE_FAULT) (R89). -/
def faultedRecord (r : Lane) : Lane :=
  { r.leaving with state := .faulted, faultReason := some .driveFault, lastResult := some .faulted, ctx := none }

/-- The channel has failed and its fault is logged, and the lane has not yet entered FAULTED (R130). -/
def faultOpened (l : LaneId) (a : ActId) (dev : Option Int) (s : State) : State :=
  logEntry .driveFault (some l) (some a) (some s.acts[a].position) dev s.lanes[l].arrangementId none
    (resumeSupplyTimer (driveStop a (updDrive l (fun d => { d.opened with failed := true }) s)))

/-- The lane has entered FAULTED and released its zones, and its partner has not yet had its fault (R89, R96). -/
def faultEntered (l : LaneId) (s : State) : State :=
  releaseAll l (updLoad l Load.stepEnded (updLane l faultedRecord s))

/-- The drive fault of the lane of `s` has been done in `t` (R8, R89, R130). -/
structure Broken (l : LaneId) (a : ActId) (s t : State) : Prop where
  relay : RelayOpen t l
  failed : t.drives[l].failed = true
  held : heldBy t l = 0#12
  list : Unlisted t l
  pos : ∀ b : ActId, t.acts[b].position = s.acts[b].position
  ram : t.ram.actuators = s.ram.actuators
  logged : Logged t .driveFault l a s.acts[a].position

/-- The surroundings but the supply are the same. -/
def Level (s t : State) : Prop := ∃ x, surr t = surr { s with supply := x }

theorem Level.of_surr (h : surr t = surr s) : Level s t := ⟨s.supply, h⟩
theorem level_measure (mv : Nat) (s : State) : Level s (Machine.measure mv s) := by
  obtain ⟨x, e⟩ := calm_measure mv s
  exact ⟨x, surr_of_outer (outer_of_calm e)⟩

theorem Broken.of_level (b : Broken l a s t) (e : Level t u) (drive : u.drives[l] = t.drives[l])
    (held : heldBy u l = heldBy t l) (list : Unlisted u l) : Broken l a s u := by
  obtain ⟨x, e⟩ := e
  have ram : u.ram = t.ram := (ram_of_surr e).trans rfl
  have store : u.store = t.store := (store_of_surr e).trans rfl
  exact ⟨relayOpen_of_drive drive b.relay, by rw [drive]; exact b.failed, held.trans b.held, list,
    fun c => (position_of_surr e c).trans (b.pos c), by rw [ram]; exact b.ram,
    by rw [Logged, ram, store]; exact b.logged⟩

theorem Broken.spared (b : Broken l a s t) (sp : Spared l t u) (e : Level t u) : Broken l a s u :=
  b.of_level e sp.apart.drive sp.apart.zones (sp.apart.list b.list)

/-- What a drive fault has done before the partner is told (R89, R130). -/
structure Faulting (l : LaneId) (a : ActId) (s v : State) : Prop where
  broken : Broken l a s v
  lane : v.lanes[l] = faultedRecord s.lanes[l]
  moves : Moves (· = l) s v
  slot : v.request.slot = s.request.slot
  binding : ∀ b : ActId, v.acts[b].binding = s.acts[b].binding
  tx : v.tx = s.tx
  supply : v.supply.low = s.supply.low ∧ v.supply.lowRun = s.supply.lowRun

theorem moves_faultOpened (dev : Option Int) : Moves (· = l) s (faultOpened l a dev s) :=
  (((Move.drive (L := (· = l)) s l rfl _).one.trans (moves_driveStop _ a)).trans (moves_resumeSupplyTimer _)).tail (.log ..)

theorem moves_faultEntered : Moves (· = l) s (faultEntered l s) :=
  ((Move.lane (L := (· = l)) s l rfl _).one.tail (.load (L := (· = l)) _ l rfl _)).trans
    (moves_releaseAll _ rfl)

theorem faulting (dev : Option Int) (u : Unlisted s l) : Faulting l a s (faultEntered l (faultOpened l a dev s)) ∧
    (faultEntered l (faultOpened l a dev s)).loads[l].samples = s.loads[l].samples := by
  have opened : calm (resumeSupplyTimer (driveStop a (updDrive l (fun d => { d.opened with failed := true }) s))) =
      calm s := by simp
  have entered : calm (faultEntered l (faultOpened l a dev s)) = calm (faultOpened l a dev s) := by simp [faultEntered]
  have e := surr_of_outer (outer_of_calm entered)
  have o := surr_of_outer (outer_of_calm opened)
  have own : (updLoad l Load.stepEnded (updLane l faultedRecord (faultOpened l a dev s))).lanes[l] =
      faultedRecord s.lanes[l] := by
    simp only [updLoad_lanes, updLane_lanes, put_self, faultOpened, logEntry_lanes, resumeSupplyTimer_lanes,
      driveStop_lanes, updDrive_lanes]
  have list : Unlisted (updLoad l Load.stepEnded (updLane l faultedRecord (faultOpened l a dev s))) l := by
    simp only [Unlisted, updLoad_waitList, updLane_waitList, faultOpened, logEntry_waitList, resumeSupplyTimer_waitList,
      driveStop_waitList, updDrive_waitList]
    exact u
  obtain ⟨lane, drive, load, held, list⟩ := releaseAll_kept list (by rw [own]; exact (nomatch ·))
  have drive : (faultEntered l (faultOpened l a dev s)).drives[l] = { s.drives[l].opened with failed := true } := by
    refine drive.trans ?_
    simp only [updLoad_drives, updLane_drives, faultOpened, logEntry_drives, resumeSupplyTimer_drives, driveStop_drives,
      updDrive_drives, put_self]
  refine ⟨⟨⟨?_, by rw [drive], held, list, fun b => ?_, ?_, ?_⟩, lane.trans own, ?_, ?_, fun b => ?_, ?_, ?_,
    ?_⟩, ?_⟩
  · rw [RelayOpen, drive]; exact ⟨rfl, rfl, rfl, rfl⟩
  · rw [position_of_surr e, faultOpened, logEntry_acts, position_of_surr o]
  · rw [ram_of_surr e, faultOpened, logEntry_actuators, ram_of_surr o]
  · rw [Logged, ram_of_surr e, store_of_surr e]; exact logged_logEntry ..
  · exact (moves_faultOpened dev).trans moves_faultEntered
  · rw [slot_of_calm entered, faultOpened, logEntry_request, slot_of_calm opened]
  · rw [binding_of_calm entered, faultOpened, logEntry_acts, binding_of_calm opened]
  · rw [tx_of_outer (outer_of_calm entered), faultOpened, logEntry_tx, tx_of_outer (outer_of_calm opened)]
  · rw [low_of_surr e, faultOpened, logEntry_supply, low_of_surr o]
  · rw [lowRun_of_surr e, faultOpened, logEntry_supply, lowRun_of_surr o]
  · refine (congrArg Load.samples load).trans ?_
    simp only [updLoad_loads, put_self, updLane_loads, faultOpened, logEntry_loads, resumeSupplyTimer_loads,
      driveStop_loads, updDrive_loads, Load.stepEnded]

/-- What a drive fault leaves, once the partner has been told, of a lane that a pending preempt awaits or does not
await (R63). -/
def preemptCleared (l : LaneId) (slot : Option Preempt) (s : State) : State :=
  match slot with
  | some p => if has p.awaited l then clearFaultLane l .preempted s else s
  | none => s

/-- The drive fault of a connected channel whose lane moves or reverses (R89, R96, R63). -/
theorem driveFault_eq (dev : Option Int) (hc : s.drives[l].connected = some a)
    (h : s.lanes[l].state = .moving ∨ s.lanes[l].state = .reversing) (u : Unlisted s l) :
    ∃ v, Faulting l a s v ∧ v.loads[l].samples = s.loads[l].samples ∧
      driveFault l dev s = preemptCleared l s.request.slot (handOnFault l v) := by
  obtain ⟨f, samples⟩ := faulting (a := a) dev u
  refine ⟨_, f, samples, ?_⟩
  have slot : (handOnFault l (faultEntered l (faultOpened l a dev s))).request.slot = s.request.slot := by
    rw [← f.slot]; unfold handOnFault; split
    · exact slot_of_calm (calm_haltLane ..)
    · rfl
  have lane : (faultOpened l a dev s).lanes[l] = s.lanes[l] := by
    rw [faultOpened, logEntry_lanes, resumeSupplyTimer_lanes, driveStop_lanes, updDrive_lanes]
  have e : driveFault l dev s = enterFaulted l .driveFault (faultOpened l a dev s) := by
    unfold driveFault; simp only [hc, Option.map_some]
    change (match (faultOpened l a dev s).lanes[l].state with
      | .moving | .reversing => enterFaulted l .driveFault (faultOpened l a dev s)
      | _ => faultOpened l a dev s) = _
    rw [lane]; rcases h with h | h <;> rw [h]
  rw [e, ← slot]; rfl

/-! ### The partner and the other lanes -/

theorem handOnFault_calm (l : LaneId) (s : State) : calm (handOnFault l s) = calm s := by
  unfold handOnFault; split
  · exact calm_haltLane ..
  · rfl

theorem Faulting.state (f : Faulting l a s v) : v.lanes[l].state = .faulted := by rw [f.lane]; rfl

theorem Faulting.inForce (f : Faulting l a s v) (w : WaitListFits s) (hj : j ≠ l) : InForce v l j ↔ InForce s l j :=
  inForce_iff w f.moves (by rw [f.lane]; rfl) hj

theorem Faulting.own (f : Faulting l a s v) : Spared l v (handOnFault l v) :=
  (moves_handOnFault f.state).spared (fun h => h.1 rfl) f.broken.list

theorem Faulting.partner (f : Faulting l a s v) (w : WaitListFits s) (hj : j ≠ l) (i : InForce s l j) :
    PartnerFaulted s (handOnFault l v) j ∧ Settled j (handOnFault l v) := by
  rw [handOnFault_inForce ((f.inForce w hj).2 i)]
  exact partnerFaulted_haltLane w f.moves hj i.2.2

/-- A lane outside the arrangement and off the wait list is left alone by a drive fault (R96). -/
theorem Faulting.others (f : Faulting l a s v) (w : WaitListFits s) (hk : k ≠ l) (n : ¬ InForce s l k)
    (u : Unlisted s k) : Spared k s (handOnFault l v) := by
  have first : Spared k s v := f.moves.spared hk u
  exact first.trans ((moves_handOnFault f.state).spared (fun h => n ((f.inForce w hk).1 h.2)) (first.apart.list u))

/-! ### The sample -/

theorem exec_loadSample {m : MotionKind} {reading mv : Nat} (hc : s.drives[l].connected = some a)
    (hk : s.drives[l].kind = some m) (hd : s.drives[l].phase = .driving) :
    exec (.loadSample l reading mv) s = .next (finish (takeSample l a m reading mv s)) := by
  simp only [exec, execLoadSample, hc, hk, hd, if_true]

/-- The Load Monitor receives the sample of a drive fault (R130). -/
theorem sample_samples (x : Load) (m : MotionKind) (r : ActuatorRec) (p i : Nat) :
    (x.sample m r p i).1.samples = x.samples + 1 := by
  unfold Load.sample
  extract_lets f y b z d soft firm w q n
  have profiled : w.samples = x.samples + 1 := by
    change z.samples = _
    simp only [z]; split <;> rfl
  have learned : q.samples = x.samples + 1 := by
    simp only [q]; split
    · split <;> rfl
    · rfl
  split
  · rfl
  · split
    · split
      · exact profiled
      · split
        · exact profiled
        · exact profiled
    · exact learned

/-- The sample's own change of the channel and the load context comes before the fault (R130). -/
theorem Faulting.of_sample {g : Load → Load} {h : Drive → Drive} (f : Faulting l a (updLoad l g (updDrive l h s)) v) :
    Faulting l a s v := by
  obtain ⟨⟨relay, failed, held, list, pos, ram, logged⟩, lane, moves, slot, binding, tx, supply⟩ := f
  exact ⟨⟨relay, failed, held, list, pos, ram, logged⟩, lane,
    ((Move.drive (L := (· = l)) s l rfl h).one.tail (.load (L := (· = l)) _ l rfl g)).trans moves,
    slot, binding, tx, supply⟩

/-- The third saturated sample of a moving or reversing lane's channel (R63, R130, R96). -/
theorem takeSample_fault {m : MotionKind} {reading mv : Nat} (hc : s.drives[l].connected = some a)
    (hr : 20000 ≤ reading) (h2 : s.drives[l].saturation = 2)
    (hs : s.lanes[l].state = .moving ∨ s.lanes[l].state = .reversing) (u : Unlisted s l) :
    ∃ v, Faulting l a s v ∧ v.loads[l].samples = s.loads[l].samples + 1 ∧
      takeSample l a m reading mv s = Machine.measure mv (preemptCleared l s.request.slot (handOnFault l v)) := by
  have e : takeSample l a m reading mv s = Machine.measure mv (driveFault l s.loads[l].deviation
      (updLoad l (fun _ => (s.loads[l].sample m s.ram.actuators[a] s.acts[a].position fullScale).1)
        (updDrive l (fun d => { d with saturation := 3 }) s))) := by
    have full : min fullScale reading = fullScale := Nat.min_eq_left hr
    unfold takeSample; simp only [full, h2, if_true]
  have more := sample_samples s.loads[l] m s.ram.actuators[a] s.acts[a].position fullScale
  rw [e]
  generalize (s.loads[l].sample m s.ram.actuators[a] s.acts[a].position fullScale).1 = x at more
  obtain ⟨v, f, samples, e⟩ := driveFault_eq (a := a) (l := l)
    (s := updLoad l (fun _ => x) (updDrive l (fun d => { d with saturation := 3 }) s)) s.loads[l].deviation
    (by rw [updLoad_drives, updDrive_drives, put_self]; exact hc) hs u
  refine ⟨v, f.of_sample, ?_, by rw [e]; rfl⟩
  rw [samples, updLoad_loads, put_self, more]

end
end Sys2Proof.Proofs
end

section
/-! O31: what follows the drive fault in the same event (R63, R96). -/

namespace Sys2Proof.Proofs

open Sys2Proof Sys2Proof.Machine Sys2Proof.Safety

section
variable {s t u v : State} {l j k : LaneId} {a : ActId}

/-! ### What the measurement and the end of the event keep -/

theorem Level.trans (h : Level s t) (g : Level t u) : Level s u := by
  obtain ⟨y, h⟩ := h
  obtain ⟨x, g⟩ := g
  have e := congrArg (fun q : Surr => { q with pin := x.pin, measured := x.measured, lowRun := x.lowRun, low := x.low }) h
  exact ⟨x, g.trans e⟩

theorem level_of_outer (h : outer t = outer s) : Level s t := .of_surr (surr_of_outer h)

theorem slot_measure (mv : Nat) (s : State) : (Machine.measure mv s).request.slot = s.request.slot := by
  obtain ⟨x, e⟩ := calm_measure mv s
  exact (slot_of_calm e).trans rfl
theorem tx_measure (mv : Nat) (s : State) : (Machine.measure mv s).tx = s.tx := by
  obtain ⟨x, e⟩ := calm_measure mv s
  exact (tx_of_outer (outer_of_calm e)).trans rfl
theorem binding_measure (mv : Nat) (s : State) (a : ActId) : (Machine.measure mv s).acts[a].binding = s.acts[a].binding := by
  obtain ⟨x, e⟩ := calm_measure mv s
  exact (binding_of_calm e a).trans rfl

/-- A lane outside CLAIMING and IDLE is left alone by the evaluation of a pending preempt (R63). -/
theorem moves_finish_settled (u : Unlisted s l) (h : s.lanes[l].state ≠ .idle) : Moves (· ≠ l) s (finish s) :=
  moves_finish s fun t k m e q => by
    subst q
    exact h ((m.spared id u).apart.state.symm.trans e)

theorem spared_finish (u : Unlisted s l) (h : s.lanes[l].state ≠ .idle) : Spared l s (finish s) :=
  (moves_finish_settled u h).spared (fun n => n rfl) u

/-! ### The evaluation of a pending preempt (R63) -/

theorem earlyRefusal_ne (st : Station) (run : RunReq) : earlyRefusal s st run ≠ some .preemptPending := by
  unfold earlyRefusal
  extract_lets object
  have own : object ≠ some .preemptPending := by
    simp only [object]
    cases run with
    | recipe m p n =>
      dsimp only; split
      · decide
      · split
        · decide
        · split <;> decide
    | step m p a x c q =>
      dsimp only; split
      · decide
      · split <;> decide
    | learn a => dsimp only; split <;> decide
  clear_value object
  split
  · decide
  · split
    · exact own
    · split
      · decide
      · split <;> decide

theorem decideRun_refused {st : Station} {run : RunReq} {x : Verdict} (h : decideRun s st run = .refused x) :
    x ≠ .preemptPending := by
  unfold decideRun at h
  split at h
  · next y e =>
    cases h
    exact fun q => earlyRefusal_ne st run (q ▸ e)
  · split at h
    · cases h; decide
    · dsimp only at h
      split at h
      · cases h; decide
      · split at h
        · cases h
        · split at h
          · cases h; decide
          · cases h

theorem reply_slot (st : Station) (tag kind : Byte) (o : Option ReqObject) (x : Verdict) (ls : LaneSet) (h c : Bool)
    (s : State) : (reply st tag kind o x ls h c s).request.slot = s.request.slot := by
  unfold reply; dsimp only; split
  · rw [activate_request]
  · rfl

theorem startRecord_slot (st : Station) (tag : Byte) (mode : AdvanceMode) (down : Bool) (partner : Option LaneId)
    (x : Track) (k : LaneId) (s : State) :
    (startRecord st tag mode down partner x k s).request.slot = s.request.slot := by
  unfold startRecord; dsimp only
  rw [updLane_request]
  exact foldl_keeps (fun s => s.request.slot)
    (f := fun s a => { s with acts := put s.acts a { s.acts[a] with binding := some k } }) (fun _ _ => rfl) _ s

theorem accept_slot (st : Station) (tag : Byte) (run : RunReq) (ts : List Track) (s : State) :
    (accept st tag run ts s).request.slot = s.request.slot := by
  rw [accept_eq, reply_slot]
  have taken (pairs : List (Track × LaneId)) (v : State) : (takeAll pairs v).request.slot = v.request.slot :=
    slot_of_calm (calm_foldl (fun s (q : Track × LaneId) => calm_takeFirst s q.2 q.1) _ _)
  have recorded (ls : List LaneId) (pairs : List (Track × LaneId)) :
      (recordAll st tag (runMode s run).1 (runMode s run).2 ls pairs s).request.slot = s.request.slot :=
    foldl_keeps (fun s => s.request.slot) (fun s (q : Track × LaneId) => startRecord_slot st tag _ _ _ q.1 q.2 s) _ s
  rw [taken, quickenPeriod_request, recorded]

theorem refuse_replies (st : Station) (tag kind : Byte) (o : Option ReqObject) (x : Verdict) (s : State) :
    (refuse st tag kind o x s).tx.replies = s.tx.replies ++ [replyFrame st tag kind x 0#4 false false] := by
  rw [refuse, reply]; dsimp only; split
  · rw [activate_tx]
  · rfl

/-- A pending preempt that awaits no lane any more is answered once and its slot is empty (R63). -/
theorem finish_answers {p : Preempt} (h : s.request.slot = some p) (z : p.awaited = 0#4) :
    (finish s).request.slot = none ∧ ∃ x ls down clamp, x ≠ .preemptPending ∧
      (finish s).tx.replies = s.tx.replies ++ [replyFrame p.station p.tag p.run.kind x ls down clamp] := by
  have c := calm_tryTune { s with request := { s.request with slot := none } }
  have slot : (tryTune { s with request := { s.request with slot := none } }).request.slot = none := slot_of_calm c
  have tx : (tryTune { s with request := { s.request with slot := none } }).tx = s.tx :=
    (tx_of_outer (outer_of_calm c)).trans rfl
  rw [finish, slot_of_calm (calm_tryTune _), tx_of_outer (outer_tryTune _)]
  unfold settlePreempt
  simp only [h, z, if_true]
  generalize tryTune { s with request := { s.request with slot := none } } = y at slot tx
  have refused : ∀ (o : Option ReqObject) (v : Verdict), v ≠ .preemptPending →
      (refuse p.station p.tag p.run.kind o v y).request.slot = none ∧ ∃ x ls down clamp, x ≠ Verdict.preemptPending ∧
        (refuse p.station p.tag p.run.kind o v y).tx.replies =
          s.tx.replies ++ [replyFrame p.station p.tag p.run.kind x ls down clamp] := fun o v hx =>
    ⟨(reply_slot ..).trans slot, v, _, _, _, hx, by rw [refuse_replies, tx]⟩
  split
  · next x e => exact refused (some p.run.object) x (decideRun_refused e)
  · exact refused (some p.run.object) .conflict (by decide)
  · next ts e =>
    obtain ⟨-, replies⟩ := accept_answer p.station p.tag p.run ts y
    rw [tx_of_outer (outer_tryTune _), tx] at replies
    exact ⟨(accept_slot ..).trans slot, _, _, _, _, by decide, replies⟩

/-! ### The fault of a lane that no pending preempt awaits -/

theorem Faulting.calm_handed (f : Faulting l a s v) : (handOnFault l v).request.slot = s.request.slot ∧
    (handOnFault l v).tx = s.tx ∧ (∀ b : ActId, (handOnFault l v).acts[b].binding = s.acts[b].binding) ∧
    (handOnFault l v).supply.low = s.supply.low ∧ (handOnFault l v).supply.lowRun = s.supply.lowRun := by
  have c := handOnFault_calm l v
  have e := surr_of_outer (outer_of_calm c)
  exact ⟨(slot_of_calm c).trans f.slot, (tx_of_outer (outer_of_calm c)).trans f.tx,
    fun b => (binding_of_calm c b).trans (f.binding b), (low_of_surr e).trans f.supply.1,
    (lowRun_of_surr e).trans f.supply.2⟩

theorem Faulting.still (f : Faulting l a s v) :
    ¬ ((handOnFault l v).lanes[l].state = .moving ∨ (handOnFault l v).lanes[l].state = .reversing) := by
  rw [f.own.apart.state, f.state]; simp

/-- A sample that is no onset of supply low tells the partner and leaves the others alone (R96). -/
theorem Faulting.handedOn (f : Faulting l a s v) (w : WaitListFits s)
    (sp : ∀ k, Unlisted (handOnFault l v) k → Spared k (handOnFault l v) t) : FaultHandedOn s t l := fun k hk => by
  split
  · next i =>
    obtain ⟨done, u, nf, -⟩ := f.partner w hk i
    exact partnerFaulted_spared done (sp k u) u nf
  · next n =>
    intro nc nf
    have u := unlisted_of_state w nc
    have first := f.others w hk n u
    exact (first.trans (sp k (first.apart.list u))).record nf

theorem awaited_none {p : Preempt} (w : Unawaited s l) (h : s.request.slot = some p) : has p.awaited l = false := by
  obtain ⟨-, n⟩ := w
  rw [h, Option.all_some, Bool.not_eq_true'] at n
  exact n

/-- The drive fault of a lane that no pending preempt awaits (R89, R96, R130). -/
theorem driveFault_unawaited {mv : Nat} (w : WaitListFits s) (un : Unawaited s l) (f : Faulting l a s v)
    (h : v.loads[l].samples = s.loads[l].samples + 1) :
    ∃ t, finish (Machine.measure mv (preemptCleared l s.request.slot (handOnFault l v))) = t ∧
      Broken l a s t ∧ t.lanes[l] = faultedRecord s.lanes[l] ∧ t.loads[l].samples = s.loads[l].samples + 1 ∧
      (∀ b : ActId, t.acts[b].binding = s.acts[b].binding) ∧
      (9000 ≤ mv ∨ s.supply.low = true ∨ s.supply.lowRun < 9 → FaultHandedOn s t l) := by
  obtain ⟨slot, -, binding, low, run⟩ := f.calm_handed
  have cleared : preemptCleared l s.request.slot (handOnFault l v) = handOnFault l v := by
    unfold preemptCleared; split
    · next p e => rw [awaited_none un e]; rfl
    · rfl
  have waits : PreemptWaits (Machine.measure mv (handOnFault l v)) := by
    rw [PreemptWaits, slot_measure, slot]; exact un.1
  have list := f.own.apart.list f.broken.list
  have measured := spared_measure mv list f.still
  have sp := (f.own.trans measured).trans (spared_tryTune (measured.apart.list list))
  rw [cleared, finish_of_waits waits]
  refine ⟨_, rfl, f.broken.spared sp ?_, ?_, ?_, fun b => ?_, fun steady => f.handedOn w fun k u => ?_⟩
  · exact ((level_of_outer (outer_of_calm (handOnFault_calm l v))).trans (level_measure mv _)).trans
      (level_of_outer (outer_tryTune _))
  · rw [sp.record (by rw [f.state]; decide), f.lane]
  · rw [sp.apart.load, h]
  · rw [binding_of_calm (calm_tryTune _), binding_measure, binding]
  · have still := spared_measure_steady mv (s := handOnFault l v) (by rw [low, run]; exact steady) k
    exact still.trans (spared_tryTune (still.apart.list u))

/-! ### The fault of a lane that a pending preempt awaits -/

/-- The drive fault of a lane that a pending preempt awaits (R63, R89, R90, R96). -/
theorem driveFault_awaited {mv : Nat} {p : Preempt} (w : WaitListFits s) (hp : s.request.slot = some p)
    (aw : has p.awaited l = true) (f : Faulting l a s v) :
    ∃ t, finish (Machine.measure mv (preemptCleared l s.request.slot (handOnFault l v))) = t ∧
      Broken l a s t ∧ Unbound l t ∧ t.lanes[l] = { (faultedRecord s.lanes[l]).leaving with
        state := .offline, lastResult := some .preempted, ctx := none, inline := none, bound := [] } ∧
      (if p.awaited &&& ~~~single l = 0#4 then t.request.slot = none ∧ ∃ v ls down clamp, v ≠ .preemptPending ∧
          t.tx.replies = s.tx.replies ++ [replyFrame p.station p.tag p.run.kind v ls down clamp]
        else t.request.slot = some { p with awaited := p.awaited &&& ~~~single l } ∧ t.tx.replies = s.tx.replies) ∧
      (9000 ≤ mv ∨ s.supply.low = true ∨ s.supply.lowRun < 9 → ∀ j : LaneId, j ≠ l → InForce s l j →
        PartnerFaulted s t j) := by
  obtain ⟨slot, tx, -, low, run⟩ := f.calm_handed
  have list := f.own.apart.list f.broken.list
  have lane : (handOnFault l v).lanes[l] = faultedRecord s.lanes[l] := by
    rw [f.own.record (by rw [f.state]; decide), f.lane]
  have broken := f.broken.spared f.own (level_of_outer (outer_of_calm (handOnFault_calm l v)))
  have cleared : preemptCleared l s.request.slot (handOnFault l v) = enterOffline l .preempted (handOnFault l v) := by
    have phase : (handOnFault l v).drives[l].phase ≠ .braking := by rw [broken.relay.1]; decide
    have fault : (handOnFault l v).lanes[l].faultReason = some .driveFault := by rw [lane]; rfl
    have state : (handOnFault l v).lanes[l].state = .faulted := by rw [lane]; rfl
    rw [hp]; unfold preemptCleared; dsimp only
    rw [if_pos aw]; unfold clearFaultLane leaveFaulted
    simp only [state, fault, phase, ne_eq, not_true, if_false, if_true]
  obtain ⟨freed, held⟩ := freed_enterOffline .preempted list
  have moved : Moves (· = l) (handOnFault l v) (enterOffline l .preempted (handOnFault l v)) :=
    moves_enterOffline (L := (· = l)) _ rfl _
  rw [cleared]
  generalize enterOffline l .preempted (handOnFault l v) = q at freed held moved
  have offline : q.lanes[l].state = .offline := by rw [freed.lane]
  have measured := spared_measure mv freed.list (by rw [offline]; simp)
  have list := measured.apart.list freed.list
  have settled : (Machine.measure mv q).lanes[l].state ≠ .idle := by rw [measured.apart.state, offline]; decide
  have sp := measured.trans (spared_finish list settled)
  have slotq : (Machine.measure mv q).request.slot = some { p with awaited := p.awaited &&& ~~~single l } := by
    rw [slot_measure, freed.slot, slot, hp]; rfl
  have txq : (Machine.measure mv q).tx.replies = s.tx.replies := by
    rw [tx_measure, tx_of_outer freed.outer, tx]
  refine ⟨_, rfl, ?_, ?_, ?_, ?_, fun steady j hj i => ?_⟩
  · exact (broken.of_level (level_of_outer freed.outer) freed.drive held freed.list).spared sp
      ((level_measure mv q).trans (.of_surr (surr_finish _)))
  · refine (moves_finish_settled list settled).unbound (fun n => n rfl) fun b => ?_
    rw [binding_measure]; exact freed.unbound b
  · rw [sp.record (by rw [offline]; decide), freed.lane, lane]
  · split
    · next z =>
      obtain ⟨none, x, ls, down, clamp, hx, replies⟩ := finish_answers slotq z
      exact ⟨none, x, ls, down, clamp, hx, by rw [replies, txq]⟩
    · next z =>
      have waits : PreemptWaits (Machine.measure mv q) := by
        rw [PreemptWaits, slotq, Option.all_some, bne_iff_ne]; exact z
      rw [finish_of_waits waits, slot_of_calm (calm_tryTune _), tx_of_outer (outer_tryTune _)]
      exact ⟨slotq, txq⟩
  · obtain ⟨done, u, nf, ni⟩ := f.partner w hj i
    have first : Spared j (handOnFault l v) q := moved.spared hj u
    have supply : q.supply.low = s.supply.low ∧ q.supply.lowRun = s.supply.lowRun :=
      ⟨(low_of_surr (surr_of_outer freed.outer)).trans low, (lowRun_of_surr (surr_of_outer freed.outer)).trans run⟩
    have still := first.trans (spared_measure_steady mv (by rw [supply.1, supply.2]; exact steady) j)
    have all := still.trans (spared_finish (still.apart.list u) (by rw [still.apart.state]; exact ni))
    exact partnerFaulted_spared done all u nf

end

/-- Settles O31: the channel fails and its fault is logged, the lane enters FAULTED, the partner is told, and a lane that
a pending preempt awaits is cleared at once, with the evaluation of the preempt at the end of the event. -/
theorem thirdSaturatedSampleIsADriveFault : Obligations.ThirdSaturatedSampleIsADriveFault := by
  unfold Obligations.ThirdSaturatedSampleIsADriveFault
  intro s l reading mv w
  have runs : s.drives[l].phase = .driving → s.lanes[l].state = .moving ∨ s.lanes[l].state = .reversing := fun hd => by
    obtain ⟨follow, -⟩ := w
    obtain ⟨-, drives, -⟩ := follow l
    exact drives hd
  have unlisted : s.drives[l].phase = .driving → Unlisted s l := fun hd =>
    unlisted_of_state w (by rcases runs hd with h | h <;> rw [h] <;> decide)
  constructor
  · intro a hc k hk hd hr h2 un
    obtain ⟨v, f, samples, e⟩ := takeSample_fault (m := k) (mv := mv) hc hr h2 (runs hd) (unlisted hd)
    obtain ⟨t, ht, broken, lane, samples, binding, handed⟩ := driveFault_unawaited (mv := mv) w un f samples
    refine ⟨t, by rw [exec_loadSample hc hk hd, e, ht], broken.relay, broken.failed, by rw [lane]; rfl, by rw [lane]; rfl,
      by rw [lane]; rfl, by rw [lane]; rfl, broken.held, by rw [lane]; rfl, samples,
      fun b => ⟨binding b, broken.pos b⟩, broken.ram, broken.logged, handed⟩
  · intro a hc k hk p hp hd hr h2 aw
    obtain ⟨v, f, -, e⟩ := takeSample_fault (m := k) (mv := mv) hc hr h2 (runs hd) (unlisted hd)
    obtain ⟨t, ht, broken, unbound, lane, answer, partner⟩ := driveFault_awaited (mv := mv) w hp aw f
    refine ⟨t, by rw [exec_loadSample hc hk hd, e, ht], by rw [lane], by rw [lane], by rw [lane]; rfl, by rw [lane],
      by rw [lane], ⟨broken.held, by rw [lane], unbound⟩, broken.relay, broken.failed, broken.logged, answer,
      fun steady j hj h1 h3 h4 => partner steady j hj ⟨h1, h3, h4⟩⟩

end Sys2Proof.Proofs
end

section
/-! O52: chain walks and plan tracks (R28, R34, R35). -/

namespace Sys2Proof.Proofs

open Sys2Proof Sys2Proof.Machine Sys2Proof.Safety

section
variable {steps : Vector StepRec 96} {n m : StepId} {l : List ActId} {w v : Walk} {a : ActId} {k i : Nat}

/-! ### Chains -/

/-- The chain from step `n` meets END, and the actuators that its steps name, in the order of the visits, are `l` (R28). -/
inductive Chain (steps : Vector StepRec 96) : StepId → List ActId → Prop
  | last {n : StepId} {a : ActId} : steps[n].actuator = some a → steps[n].next = none → Chain steps n [a]
  | more {n m : StepId} {a : ActId} {l : List ActId} : steps[n].actuator = some a → steps[n].next = some m →
      Chain steps m l → Chain steps n (a :: l)

theorem stepAfter_succ_of_end (h : steps[n].next = none) : stepAfter steps (k + 1) n = none := by
  rw [stepAfter, h]

theorem stepAfter_succ_of_next (h : steps[n].next = some m) : stepAfter steps (k + 1) n = stepAfter steps k m := by
  rw [stepAfter, h]

theorem Chain.ne_nil (h : Chain steps n l) : l ≠ [] := by
  cases h <;> exact List.cons_ne_nil _ _

theorem Chain.head (h : Chain steps n l) : steps[n].actuator = l.head? := by
  cases h with
  | last ha _ => exact ha
  | more ha _ _ => exact ha

theorem Chain.unique {l' : List ActId} (h : Chain steps n l) (h' : Chain steps n l') : l = l' := by
  induction h generalizing l' with
  | last ha hn =>
    cases h' with
    | last hb _ => rw [Option.some.inj (ha.symm.trans hb)]
    | more _ hm _ => rw [hn] at hm; cases hm
  | more ha hn _ ih =>
    cases h' with
    | last _ hm => rw [hn] at hm; cases hm
    | more hb hm h' =>
      cases hn.symm.trans hm
      rw [Option.some.inj (ha.symm.trans hb), ih h']

/-- What a chain names from its `i`th further step on. -/
theorem Chain.drop (h : Chain steps n l) (hi : stepAfter steps i n = some m) : Chain steps m (l.drop i) := by
  induction i generalizing n l with
  | zero => cases hi; exact h
  | succ i ih =>
    cases h with
    | last _ hn => rw [stepAfter_succ_of_end hn] at hi; cases hi
    | more _ hn h => rw [stepAfter_succ_of_next hn] at hi; exact ih h hi

theorem Chain.actuator_stepAfter (h : Chain steps n l) (hi : stepAfter steps i n = some m) :
    steps[m].actuator = l[i]? := by
  rw [(h.drop hi).head, List.head?_drop]

theorem Chain.exists_stepAfter (h : Chain steps n l) (hi : i < l.length) : ∃ m, stepAfter steps i n = some m := by
  induction i generalizing n l with
  | zero => exact ⟨n, rfl⟩
  | succ i ih =>
    cases h with
    | last => simp at hi
    | more _ hn h =>
      obtain ⟨m, hm⟩ := ih h (Nat.lt_of_succ_lt_succ hi)
      exact ⟨m, (stepAfter_succ_of_next hn).trans hm⟩

theorem Chain.ends (h : Chain steps n l) : ∃ m, stepAfter steps (l.length - 1) n = some m ∧ steps[m].next = none := by
  have pos := List.length_pos_iff.2 h.ne_nil
  obtain ⟨m, hm⟩ := h.exists_stepAfter (i := l.length - 1) (by omega)
  refine ⟨m, hm, ?_⟩
  have one : (l.drop (l.length - 1)).length = 1 := by rw [List.length_drop]; omega
  have rest := h.drop hm
  generalize l.drop (l.length - 1) = r at one rest
  cases rest with
  | last _ hn => exact hn
  | more _ _ h =>
    rw [List.length_cons, Nat.add_eq_right, List.length_eq_zero_iff] at one
    exact absurd one h.ne_nil

theorem Chain.mem_iff (h : Chain steps n l) :
    a ∈ l ↔ ∃ (i : Nat) (j : StepId), i < l.length ∧ stepAfter steps i n = some j ∧ steps[j].actuator = some a := by
  rw [List.mem_iff_getElem?]
  constructor
  · rintro ⟨i, hi⟩
    have lt := (List.getElem?_eq_some_iff.1 hi).1
    obtain ⟨j, hj⟩ := h.exists_stepAfter lt
    exact ⟨i, j, lt, hj, (h.actuator_stepAfter hj).trans hi⟩
  · rintro ⟨i, j, -, hj, ha⟩
    exact ⟨i, (h.actuator_stepAfter hj).symm.trans ha⟩

/-- A chain that meets END after `k` further steps, each of which names an actuator (R28). -/
theorem exists_chain (hk : stepAfter steps k n = some m) (hm : steps[m].next = none)
    (named : ∀ (i : Nat) (j : StepId), i ≤ k → stepAfter steps i n = some j → ∃ a, steps[j].actuator = some a) :
    ∃ l, Chain steps n l ∧ l.length = k + 1 := by
  obtain ⟨a, ha⟩ := named 0 n (Nat.zero_le k) rfl
  induction k generalizing n a with
  | zero => cases hk; exact ⟨[a], .last ha hm, rfl⟩
  | succ k ih =>
    cases hn : steps[n].next with
    | none => rw [stepAfter_succ_of_end hn] at hk; cases hk
    | some p =>
      rw [stepAfter_succ_of_next hn] at hk
      have later (i : Nat) (j : StepId) (hi : i ≤ k) (hj : stepAfter steps i p = some j) :
          ∃ b, steps[j].actuator = some b :=
        named (i + 1) j (Nat.succ_le_succ hi) ((stepAfter_succ_of_next hn).trans hj)
      obtain ⟨b, hb⟩ := later 0 p (Nat.zero_le k) rfl
      obtain ⟨l, h, len⟩ := ih hk later b hb
      exact ⟨a :: l, .more ha hn h, by rw [List.length_cons, len]⟩

/-- A chain that comes back to a visited step never meets END. -/
theorem Chain.not_cyclic (h : Chain steps n l) (hi : stepAfter steps i n = some m) (hk : 0 < k) :
    stepAfter steps k m ≠ some m := by
  intro back
  have rest := h.drop hi
  have same := congrArg List.length (rest.unique (rest.drop back))
  have pos := List.length_pos_iff.2 rest.ne_nil
  rw [List.length_drop (i := k)] at same
  omega

/-! ### The visits of a walk -/

theorem steps_visit : (w.visit a).steps = w.steps + 1 := rfl

theorem mem_visit {b : ActId} : b ∈ (w.visit a).acts ↔ b ∈ w.acts ∨ b = a := by
  unfold Walk.visit
  split
  · next h => exact ⟨.inl, fun o => o.elim id fun e => e ▸ h⟩
  · simp

theorem nodup_visit (h : w.acts.Nodup) : (w.visit a).acts.Nodup := by
  unfold Walk.visit
  split
  · exact h
  · next new => exact List.nodup_append.2 ⟨h, List.nodup_singleton a, by
      rintro b hb _ hc rfl
      exact new (List.mem_singleton.1 hc ▸ hb)⟩

theorem isPrefix_visit : w.acts <+: (w.visit a).acts := by
  unfold Walk.visit
  split
  · exact ⟨[], List.append_nil _⟩
  · exact ⟨[a], rfl⟩

/-- What a walk has found after visits that name the actuators of `l` (R34). -/
def visitAll (w : Walk) (l : List ActId) : Walk := l.foldl Walk.visit w

theorem visitAll_cons : visitAll w (a :: l) = visitAll (w.visit a) l := rfl

theorem steps_visitAll : (visitAll w l).steps = w.steps + l.length := by
  induction l generalizing w with
  | nil => rfl
  | cons x l ih => rw [visitAll_cons, ih, steps_visit, List.length_cons, Nat.add_right_comm, Nat.add_assoc]

theorem mem_visitAll : a ∈ (visitAll w l).acts ↔ a ∈ w.acts ∨ a ∈ l := by
  induction l generalizing w with
  | nil => simp [visitAll]
  | cons x l ih => rw [visitAll_cons, ih, mem_visit, List.mem_cons, or_assoc]

theorem nodup_visitAll (h : w.acts.Nodup) : (visitAll w l).acts.Nodup := by
  induction l generalizing w with
  | nil => exact h
  | cons x l ih => exact ih (nodup_visit h)

theorem isPrefix_visitAll : w.acts <+: (visitAll w l).acts := by
  induction l generalizing w with
  | nil => exact ⟨[], List.append_nil _⟩
  | cons x l ih => exact isPrefix_visit.trans ih

/-! ### Walks -/

theorem walkFrom_of_end (ha : steps[n].actuator = some a) (hn : steps[n].next = none) :
    walkFrom steps (k + 1) n w = if 4 < (w.visit a).acts.length then none else some (w.visit a) := by
  rw [walkFrom]; simp only [ha, hn]

theorem walkFrom_of_next (ha : steps[n].actuator = some a) (hn : steps[n].next = some m) :
    walkFrom steps (k + 1) n w = if 4 < (w.visit a).acts.length then none else walkFrom steps k m (w.visit a) := by
  rw [walkFrom]; simp only [ha, hn]

/-- A walk with `k` visits left succeeds exactly on a chain of at most `k` steps whose visits leave the list at no more
than four actuators, and then it has found what those visits find (R34). -/
theorem walkFrom_eq_some_iff : walkFrom steps k n w = some v ↔
    ∃ l, Chain steps n l ∧ l.length ≤ k ∧ visitAll w l = v ∧ v.acts.length ≤ 4 := by
  constructor
  · intro h
    induction k generalizing n w with
    | zero => cases h
    | succ k ih =>
      cases ha : steps[n].actuator with
      | none => rw [walkFrom] at h; simp only [ha] at h; cases h
      | some a =>
        cases hn : steps[n].next with
        | none =>
          rw [walkFrom_of_end ha hn] at h
          obtain ⟨few, found⟩ := Option.ite_none_left_eq_some.1 h
          cases found
          exact ⟨[a], .last ha hn, Nat.le_add_left 1 k, rfl, Nat.le_of_not_lt few⟩
        | some m =>
          rw [walkFrom_of_next ha hn] at h
          obtain ⟨l, chain, len, found⟩ := ih (Option.ite_none_left_eq_some.1 h).2
          exact ⟨a :: l, .more ha hn chain, Nat.succ_le_succ len, found⟩
  · rintro ⟨l, chain, len, rfl, few⟩
    induction chain generalizing k w with
    | last ha hn =>
      obtain ⟨k, rfl⟩ := Nat.exists_eq_add_of_le' len
      rw [List.length_singleton, walkFrom_of_end ha hn, if_neg (Nat.not_lt.2 few : ¬ 4 < (w.visit _).acts.length)]; rfl
    | @more n m a l ha hn _ ih =>
      obtain ⟨k, rfl⟩ := Nat.exists_eq_add_of_le' len
      have early : (w.visit a).acts.length ≤ 4 := isPrefix_visitAll.length_le.trans few
      rw [List.length_cons, ← Nat.add_assoc, walkFrom_of_next ha hn, if_neg (Nat.not_lt.2 early)]
      exact ih (Nat.le_add_left _ _) few

theorem walk_eq_some_iff : walk steps n = some w ↔
    ∃ l, Chain steps n l ∧ l.length ≤ 24 ∧ visitAll ⟨[], 0⟩ l = w ∧ w.acts.length ≤ 4 := walkFrom_eq_some_iff

theorem mem_visitAll_start : a ∈ (visitAll ⟨[], 0⟩ l).acts ↔ a ∈ l := by
  simp [mem_visitAll]

theorem steps_visitAll_start : (visitAll ⟨[], 0⟩ l).steps = l.length := by
  rw [steps_visitAll, Nat.zero_add]

theorem head_visitAll_start (h : l ≠ []) : (visitAll ⟨[], 0⟩ l).acts.head? = l.head? := by
  obtain ⟨a, r, rfl⟩ := List.exists_cons_of_ne_nil h
  obtain ⟨t, ht⟩ : [a] <+: (visitAll ⟨[], 0⟩ (a :: r)).acts := isPrefix_visitAll (w := ⟨[a], 1⟩)
  rw [← ht]; rfl

/-- A chain of at most 24 steps that name at most four actuators between them has a walk (R34). -/
theorem Chain.walk_eq {acts : List ActId} (h : Chain steps n l) (len : l.length ≤ 24) (few : acts.length ≤ 4)
    (named : l ⊆ acts) : walk steps n = some (visitAll ⟨[], 0⟩ l) := by
  have distinct : (visitAll ⟨[], 0⟩ l).acts.Nodup := nodup_visitAll List.nodup_nil
  have sub : (visitAll ⟨[], 0⟩ l).acts ⊆ acts := fun a ha => named (mem_visitAll_start.1 ha)
  exact walk_eq_some_iff.2 ⟨l, h, len, rfl, (distinct.subperm sub).length_le.trans few⟩

/-! ### Plans -/

theorem meets_actSet {xs ys : List ActId} : meets (actSet xs) (actSet ys) = true ↔ ∃ a ∈ xs, a ∈ ys := by
  simp only [meets_iff, has_actSet]

theorem has_planActs {ts : List Track} : has (planActs ts) a = true ↔ ∃ t ∈ ts, a ∈ t.acts := by
  suffices h : ∀ z : ActSet, has (ts.foldl (fun x t => x ||| actSet t.acts) z) a = true ↔
      has z a = true ∨ ∃ t ∈ ts, a ∈ t.acts by
    rw [planActs, h, has_zero]; simp
  induction ts with
  | nil => intro z; simp
  | cons t ts ih =>
    intro z
    rw [List.foldl_cons, ih, has_or, Bool.or_eq_true, has_actSet, List.exists_mem_cons_iff, or_assoc]

section
variable {s : State} {mode : AdvanceMode} {p : Bool} {r : RecipeId} {wa wb : Walk} {b : StepId}

/-! The tracks of a recipe's plan, by the outcomes of its walks (R34, R35). -/

theorem planTracks_of_walkA_none (hA : walk s.ram.steps s.ram.recipes[r].trackA = none) :
    planTracks s (.recipe mode p r) = none := by
  simp only [planTracks, hA, Option.map_none]

theorem planTracks_of_trackB_none (hA : walk s.ram.steps s.ram.recipes[r].trackA = some wa)
    (hB : s.ram.recipes[r].trackB = none) :
    planTracks s (.recipe mode p r) = some [trackOf s r false s.ram.recipes[r].trackA wa] := by
  simp only [planTracks, hA, hB, Option.map_some, trackOf]

theorem planTracks_of_walkB_none (hA : walk s.ram.steps s.ram.recipes[r].trackA = some wa)
    (hB : s.ram.recipes[r].trackB = some b) (hb : walk s.ram.steps b = none) :
    planTracks s (.recipe mode p r) = none := by
  simp only [planTracks, hA, hB, hb, Option.map_some, Option.map_none]

theorem planTracks_of_walks (hA : walk s.ram.steps s.ram.recipes[r].trackA = some wa)
    (hB : s.ram.recipes[r].trackB = some b) (hb : walk s.ram.steps b = some wb) :
    planTracks s (.recipe mode p r) = if ∃ a ∈ wa.acts, a ∈ wb.acts then none
      else some [trackOf s r false s.ram.recipes[r].trackA wa, trackOf s r true b wb] := by
  simp only [planTracks, hA, hB, hb, Option.map_some, meets_actSet, trackOf]

end
end

/-- Settles O52: a walk succeeds exactly on a chain that meets END, and what it has found are the visits of that chain. -/
theorem chainWalksAndPlansSucceedByTheirRules : Obligations.ChainWalksAndPlansSucceedByTheirRules := by
  unfold Obligations.ChainWalksAndPlansSucceedByTheirRules
  refine ⟨fun steps n w h => ?_, fun steps n m k acts hk hm hend few named => ?_,
    fun steps n m i k hi hk back => ?_, fun s m p n => ?_, fun ts a => has_planActs⟩
  · obtain ⟨l, chain, len, rfl, few⟩ := walk_eq_some_iff.1 h
    have pos := List.length_pos_iff.2 chain.ne_nil
    have head := head_visitAll_start chain.ne_nil
    rw [steps_visitAll_start]
    refine ⟨List.length_pos_iff.2 fun e => ?_, few, nodup_visitAll List.nodup_nil, head.trans chain.head.symm, pos, len,
      chain.ends, fun i j hi hj => ?_, fun a => mem_visitAll_start.trans chain.mem_iff⟩
    · rw [e] at head
      exact chain.ne_nil (List.head?_eq_none_iff.1 head.symm)
    · rw [chain.actuator_stepAfter hj, List.getElem?_eq_getElem hi]; rfl
  · obtain ⟨l, chain, len⟩ := exists_chain hm hend fun i j hi hj => (named i j hi hj).imp fun _ h => h.2
    have within : l ⊆ acts := fun a ha => by
      obtain ⟨i, j, hi, hj, hja⟩ := chain.mem_iff.1 ha
      obtain ⟨b, hb, hjb⟩ := named i j (by omega) hj
      exact Option.some.inj (hja.symm.trans hjb) ▸ hb
    refine ⟨_, chain.walk_eq (by omega) few within, steps_visitAll_start.trans len, fun a => ?_⟩
    rw [mem_visitAll_start, chain.mem_iff, len]
    simp only [Nat.lt_succ_iff]
  · refine Option.eq_none_iff_forall_ne_some.2 fun w h => ?_
    obtain ⟨l, chain, -⟩ := walk_eq_some_iff.1 h
    exact chain.not_cyclic hi hk back
  · exact ⟨planTracks_of_walkA_none, fun wa hA => ⟨planTracks_of_trackB_none hA, fun b hB =>
      ⟨planTracks_of_walkB_none hA hB, fun wb => planTracks_of_walks hA hB⟩⟩⟩

end Sys2Proof.Proofs
end

section
/-! How a lane, its drive channel and the wait list fit together, and when a lane is in MOVING (R74, R76, R77, R84, R88,
R99, R100, R103, R187): the part of the two invariants that belongs to one lane, which the operations on other lanes keep. -/

namespace Sys2Proof.Proofs

open Sys2Proof Sys2Proof.Machine Sys2Proof.Safety

section
variable {L : LaneId → Prop} {p q p' q' : Prop} {s t v : State} {l k : LaneId}

/-! ### One lane's part of the invariants -/

/-- How many entries the lane has on the wait list. -/
def entries (k : LaneId) (s : State) : Nat := (s.waitList.map fun e => e.lane).count k

theorem entries_eq_zero : entries k s = 0 ↔ Unlisted s k := by
  simp [entries, List.count_eq_zero, Unlisted]

theorem entries_congr (h : t.waitList = s.waitList) : entries k t = entries k s := by rw [entries, h, entries]

/-- The conditions on one lane: its channel and the wait list follow its state; with `p`, it is in MOVING only while its
conditions hold; with `q`, it has no step context in IDLE and OFFLINE. -/
structure Fit (p q : Prop) (k : LaneId) (s : State) : Prop where
  making : s.drives[k].phase = .making → s.lanes[k].state = .arming
  driving : s.drives[k].phase = .driving → s.lanes[k].state = .moving ∨ s.lanes[k].state = .reversing
  reversal : s.drives[k].phase = .braking → s.drives[k].reversal = true → s.lanes[k].state = .reversing
  moving : s.lanes[k].state = .moving → s.drives[k].phase = .driving
  listed : entries k s = if s.lanes[k].state = .claiming then 1 else 0
  claiming : s.lanes[k].state = .claiming → s.lanes[k].ctx.isSome = true ∧ heldBy s k = 0#12
  safe : p → s.lanes[k].state = .moving → interlock s = true ∧ s.supply.low = false ∧
    (s.lanes[k].mode = some .hold → s.lanes[k].lapseTimer.isSome = true)
  empty : q → s.lanes[k].state.free = true → s.lanes[k].ctx = none

/-- Every lane fits; with `q`, in DOZE and SLEEP every lane is IDLE or OFFLINE. -/
structure AllFit (p q : Prop) (s : State) : Prop where
  lane : ∀ k, Fit p q k s
  asleep : q → s.power.mode ≠ .active → allIdle s = true

theorem allIdle_iff : allIdle s = true ↔ ∀ k : LaneId, s.lanes[k].state.free = true := by
  simp [allIdle, mem_allLanes]

theorem waitListFits_iff : WaitListFits s ↔ AllFit False False s := by
  constructor
  · rintro ⟨channels, nodup, listed, claims⟩
    refine ⟨fun k => ?_, False.elim⟩
    obtain ⟨making, driving, reversal, moving⟩ := channels k
    refine ⟨making, driving, reversal, moving, ?_, fun h => (claims k h).2, False.elim, False.elim⟩
    split
    · next h =>
      have some_entry : entries k s ≠ 0 := fun z => (claims k h).1 (entries_eq_zero.1 z)
      have one_entry : entries k s ≤ 1 := List.nodup_iff_count_le_one.1 nodup k
      omega
    · next h => exact entries_eq_zero.2 fun e he g => h (g ▸ listed e he)
  · rintro ⟨fits, -⟩
    refine ⟨fun k => ⟨(fits k).making, (fits k).driving, (fits k).reversal, (fits k).moving⟩,
      List.nodup_iff_count_le_one.2 fun k => ?_, fun e he => ?_, fun k h => ⟨fun u => ?_, (fits k).claiming h⟩⟩
    · have := (fits k).listed
      unfold entries at this; rw [this]; split <;> omega
    · by_contra h
      have := (fits e.lane).listed
      rw [if_neg h] at this
      exact entries_eq_zero.1 this e he rfl
    · have := (fits k).listed
      rw [if_pos h, entries_eq_zero.2 u] at this
      cases this

theorem safeMotion_iff (w : WaitListFits s) : SafeMotion s ↔ AllFit True True s := by
  constructor
  · rintro ⟨-, safe, asleep, empty⟩
    refine ⟨fun k => ?_, fun _ => asleep⟩
    have fit := (waitListFits_iff.1 w).lane k
    exact { fit with safe := fun _ => safe k, empty := fun _ => empty k }
  · rintro ⟨fits, asleep⟩
    exact ⟨w.1, fun k => (fits k).safe trivial, asleep trivial, fun k => (fits k).empty trivial⟩

theorem Fit.mono (h : Fit p q k s) (hp : p' → p) (hq : q' → q) : Fit p' q' k s :=
  { h with safe := fun x => h.safe (hp x), empty := fun x => h.empty (hq x) }

theorem AllFit.mono (h : AllFit p q s) (hp : p' → p) (hq : q' → q) : AllFit p' q' s :=
  ⟨fun k => (h.lane k).mono hp hq, fun x => h.asleep (hq x)⟩

theorem Fit.unlisted (h : Fit p q k s) (n : s.lanes[k].state ≠ .claiming) : Unlisted s k :=
  entries_eq_zero.1 (by rw [h.listed, if_neg n])

/-- The lane's entry is one of a lane in CLAIMING. -/
theorem Fit.claims (h : Fit p q k s) {e : WaitEntry} (he : entryOf s k = some e) : s.lanes[k].state = .claiming := by
  by_contra n
  obtain ⟨mem, lane⟩ := entryOf_some s he
  exact h.unlisted n e mem lane

/-! ### What a lane's part depends on -/

/-- Everything that `Fit` speaks of but the step context, which it needs only present or absent. -/
def viewOf (k : LaneId) (s : State) : (LaneState × Bool × Bool × Bool) × (Phase × Bool) × (Nat × ZoneSet) × Bool × Bool :=
  ((s.lanes[k].state, s.lanes[k].ctx.isSome, decide (s.lanes[k].mode = some .hold), s.lanes[k].lapseTimer.isSome),
    (s.drives[k].phase, s.drives[k].reversal), (entries k s, heldBy s k), interlock s, s.supply.low)

theorem Fit.of_view (h : Fit p q k s) (e : viewOf k t = viewOf k s) : Fit p q k t := by
  simp only [viewOf, Prod.mk.injEq] at e
  obtain ⟨⟨state, ctx, hold, lapse⟩, ⟨phase, rev⟩, ⟨list, zones⟩, lock, low⟩ := e
  obtain ⟨making, driving, reversal, moving, listed, claiming, safe, empty⟩ := h
  rw [decide_eq_decide] at hold
  have none_iff : t.lanes[k].ctx = none ↔ s.lanes[k].ctx = none := by
    rw [← Option.isSome_eq_false_iff.trans Option.isNone_iff_eq_none, ctx,
      Option.isSome_eq_false_iff, Option.isNone_iff_eq_none]
  exact ⟨by rwa [phase, state], by rwa [phase, state], by rwa [phase, rev, state], by rwa [phase, state],
    by rwa [list, state], by rwa [state, ctx, zones], by rwa [state, lock, low, hold, lapse], by rwa [state, none_iff]⟩

end
end Sys2Proof.Proofs
end

section
/-! What the operations on other lanes keep of a lane's part of the invariants, and how a change of one lane is judged. -/

namespace Sys2Proof.Proofs

open Sys2Proof Sys2Proof.Machine Sys2Proof.Safety

section
variable {L : LaneId → Prop} {p q : Prop} {s t v : State} {l k : LaneId}

/-! ### Vehicle and supply low -/

/-- No elementary change reaches the Vehicle State or the supply condition. -/
theorem Move.conditions (m : Move L s t) : t.vehicle = s.vehicle ∧ t.supply.low = s.supply.low := by
  have of_calm {u : State} (h : calm u = calm s) : u.vehicle = s.vehicle ∧ u.supply.low = s.supply.low :=
    ⟨vehicle_of_surr (surr_of_outer (outer_of_calm h)), low_of_surr (surr_of_outer (outer_of_calm h))⟩
  cases m with
  | grant e => exact of_calm (calm_grant ..)
  | suspend => exact of_calm (calm_suspendTune ..)
  | activate => exact of_calm (calm_activate ..)
  | lane k h f => exact of_calm (calm_updLane ..)
  | timer k h f => exact of_calm (calm_updLane ..)
  | bind k h as => exact ⟨vehicle_of_surr (surr_of_outer (outer_bindAll ..)), low_of_surr (surr_of_outer (outer_bindAll ..))⟩
  | unbind k h => exact ⟨vehicle_of_surr (surr_of_outer (outer_unbindLane ..)), low_of_surr (surr_of_outer (outer_unbindLane ..))⟩
  | reply => exact ⟨vehicle_of_surr (surr_reply ..), low_of_surr (surr_reply ..)⟩
  | log => exact ⟨by simp, by simp⟩
  | _ => exact ⟨rfl, rfl⟩

theorem Moves.vehicle (m : Moves L s t) : t.vehicle = s.vehicle :=
  m.keep (P := fun u => u.vehicle = s.vehicle) (fun _ _ m h => m.conditions.1.trans h) rfl

theorem Moves.low (m : Moves L s t) : t.supply.low = s.supply.low :=
  m.keep (P := fun u => u.supply.low = s.supply.low) (fun _ _ m h => m.conditions.2.trans h) rfl

theorem Moves.interlock (m : Moves L s t) : interlock t = interlock s := by
  unfold Machine.interlock; rw [m.vehicle]

/-! ### Entries on the wait list -/

theorem entries_map (f : WaitEntry → WaitEntry) (h : ∀ e, (f e).lane = e.lane) :
    entries k { s with waitList := s.waitList.map f } = entries k s := by
  simp only [entries, List.map_map]
  congr 1
  exact List.map_congr_left fun e _ => h e

theorem entries_leaveList (h : l ≠ k) : entries k (leaveList l s) = entries k s := by
  simp only [entries, leaveList, List.count, List.countP_map, List.countP_filter]
  refine List.countP_congr fun e _ => ?_
  simp only [Function.comp_apply, beq_iff_eq, Bool.and_eq_true, decide_eq_true_eq]
  exact ⟨And.left, fun e => ⟨e, fun g => h (g.symm.trans e)⟩⟩

theorem entries_append (e : WaitEntry) (h : e.lane ≠ k) :
    entries k { s with waitList := s.waitList ++ [e] } = entries k s := by
  simp [entries, List.count_append, h]

theorem deliverUnfence_drives (z : ZoneSet) (s : State) : (deliverUnfence z s).drives = s.drives :=
  foldl_keeps State.drives (fun s k => by split <;> simp) _ s

theorem suspendTune_sameBut (s : State) : (suspendTune s).holders = s.holders ∧ (suspendTune s).drives = s.drives ∧
    (suspendTune s).waitList = s.waitList := by
  unfold suspendTune; split
  · exact ⟨rfl, rfl, rfl⟩
  · simp [deliverUnfence_drives, (deliverUnfence_sameBut _ _).1, (deliverUnfence_sameBut _ _).2.2.2.2]

theorem suspendTune_waitList (s : State) : (suspendTune s).waitList = s.waitList := (suspendTune_sameBut s).2.2

theorem enterArming_waitList (s : State) : (enterArming l s).waitList = s.waitList := by
  unfold enterArming; split
  · rfl
  · simp [suspendTune_waitList]

theorem grant_waitList (e : WaitEntry) (s : State) : (grant e s).waitList = (leaveList e.lane s).waitList := by
  unfold grant; dsimp only
  rw [enterArming_waitList]; split <;> rfl

theorem bindAll_waitList (l : LaneId) (as : List ActId) (s : State) : (bindAll l as s).waitList = s.waitList := by
  unfold bindAll; exact foldl_keeps State.waitList (fun _ _ => by rfl) as s

/-- Only its own grant changes how often a lane outside `L` is listed. -/
theorem Move.entries_or_granted (m : Move L s t) (hl : ¬ L k) : entries k t = entries k s ∨
    ∃ e, entryOf s k = some e ∧ grantable s e.wanted = true ∧ t = Machine.grant e s := by
  have ne : ∀ {l}, L l → l ≠ k := fun h e => hl (e ▸ h)
  cases m with
  | grant e he g =>
    by_cases h : e.lane = k
    · exact .inr ⟨e, h ▸ he, g, rfl⟩
    · exact .inl ((entries_congr (grant_waitList e s)).trans (entries_leaveList h))
  | leave l h => exact .inl (entries_leaveList (ne h))
  | join e h => exact .inl (entries_append e (ne h))
  | relist f h => exact .inl (entries_map f h)
  | suspend => exact .inl (entries_congr (suspendTune_waitList s))
  | activate => exact .inl (entries_congr (by simp))
  | reply => exact .inl (entries_congr (by simp))
  | lane => exact .inl (entries_congr (by simp))
  | timer => exact .inl (entries_congr (by simp))
  | bind k h as => exact .inl (entries_congr (bindAll_waitList k as s))
  | unbind => exact .inl (entries_congr (by simp))
  | log => exact .inl (entries_congr (by simp))
  | _ => exact .inl (entries_congr rfl)

/-! ### A lane that no plain change reaches -/

theorem Fit.spared (f : Fit p q k s) (sp : Spared k s t) (e : entries k t = entries k s) (hv : t.vehicle = s.vehicle)
    (hl : t.supply.low = s.supply.low) : Fit p q k t := by
  have lapse : t.lanes[k].lapseTimer = s.lanes[k].lapseTimer := by
    have := congrArg Lane.lapseTimer sp.apart.record; exact this
  refine f.of_view ?_
  simp only [viewOf, sp.apart.state, sp.apart.ctx, sp.apart.mode, lapse, sp.apart.drive, e, sp.apart.zones,
    interlock, hv, hl]

/-- A lane off the wait list that enters ARMING fits whatever its state was (R76, R118). -/
theorem fit_enterArming (h : s.lanes[k].ctx.isSome = true) (u : Unlisted s k) : Fit p q k (enterArming k s) := by
  obtain ⟨c, hc⟩ := Option.isSome_iff_exists.1 h
  have e : enterArming k s = suspendTune (updLane k (fun r => { r.leaving with state := .arming }) (armOrder k c.act s)) := by
    unfold enterArming; rw [hc]
  have state : (enterArming k s).lanes[k].state = .arming := by
    rw [e, (apart_suspendTune _).state, updLane_lanes, put_self]
  have phase : (enterArming k s).drives[k].phase = .making := by
    rw [e, (suspendTune_sameBut _).2.1, updLane_drives, armOrder, updDrive_drives, put_self]
  have list : entries k (enterArming k s) = 0 := by
    rw [entries_congr (enterArming_waitList s)]; exact entries_eq_zero.2 u
  refine ⟨fun _ => state, ?_, ?_, ?_, ?_, ?_, ?_, ?_⟩ <;> simp [-Fin.getElem_fin, state, phase, list, LaneState.free]

theorem grant_eq (e : WaitEntry) (s : State) : ∃ u, grant e s = enterArming e.lane u ∧ u.lanes = s.lanes ∧
    u.waitList = (leaveList e.lane s).waitList := by
  unfold grant; dsimp only
  split
  · exact ⟨_, rfl, rfl, rfl⟩
  · exact ⟨_, rfl, rfl, rfl⟩

theorem Move.fit (m : Move L s t) (hl : ¬ L k) (f : Fit p q k s) : Fit p q k t := by
  have granted : (∃ e, entryOf s k = some e ∧ grantable s e.wanted = true ∧ t = Machine.grant e s) → Fit p q k t := by
    rintro ⟨e, he, -, rfl⟩
    obtain ⟨mem, rfl⟩ := entryOf_some s he
    obtain ⟨u, eq, lanes, list⟩ := grant_eq e s
    rw [eq]
    exact fit_enterArming (by rw [lanes]; exact (f.claiming (f.claims he)).1)
      (by rw [Unlisted, list]; exact unlisted_leaveList e.lane s)
  rcases m.spared_or_granted hl with sp | g
  · rcases m.entries_or_granted hl with e | g
    · exact f.spared sp e m.conditions.1 m.conditions.2
    · exact granted g
  · exact granted g

/-- Operations that write other lanes alone keep a lane's part of the invariants. -/
theorem Moves.fit (m : Moves L s t) (hl : ¬ L k) (f : Fit p q k s) : Fit p q k t :=
  m.keep (fun _ _ m => m.fit hl) f

/-! ### The whole state -/

/-- Operations that write no lane keep the invariants. -/
theorem AllFit.moves (a : AllFit p q s) (m : Moves (fun _ => False) s t) : AllFit p q t := by
  refine ⟨fun k => m.fit id (a.lane k), fun hq ht => ?_⟩
  have idle := a.asleep hq fun h => ht (m.active h)
  rw [allIdle_iff] at idle ⊢
  intro k
  have nc : s.lanes[k].state ≠ .claiming := fun h => by have := idle k; rw [h] at this; cases this
  rw [(m.spared id ((a.lane k).unlisted nc)).apart.state]
  exact idle k

/-- A change of no lane record and of no mode keeps the invariants when every lane still fits. -/
theorem AllFit.of_fit (a : AllFit p q s) (lanes : t.lanes = s.lanes) (mode : t.power.mode = s.power.mode)
    (fits : ∀ k, Fit p q k t) : AllFit p q t :=
  ⟨fits, fun hq ht => by
    have idle := a.asleep hq (by rw [← mode]; exact ht)
    rw [allIdle_iff] at idle ⊢
    rw [lanes]; exact idle⟩

/-- One lane alone may be written. -/
abbrev Just (l : LaneId) : LaneId → Prop := fun k => k = l

theorem just (l : LaneId) : Just l l := rfl

/-- An operation on one lane, which then fits and stays free if it was, keeps the invariants. -/
theorem AllFit.only (a : AllFit p q s) (m : Moves (Just l) s t) (own : Fit p q l t)
    (free : s.lanes[l].state.free = true → t.lanes[l].state.free = true) : AllFit p q t := by
  refine ⟨fun k => ?_, fun hq ht => ?_⟩
  · by_cases h : k = l
    · exact h ▸ own
    · exact m.fit h (a.lane k)
  · have idle := a.asleep hq fun h => ht (m.active h)
    rw [allIdle_iff] at idle ⊢
    intro k
    by_cases h : k = l
    · exact h ▸ free (idle l)
    · have nc : s.lanes[k].state ≠ .claiming := fun e => by have := idle k; rw [e] at this; cases this
      rw [(m.spared h ((a.lane k).unlisted nc)).apart.state]
      exact idle k

theorem AllFit.single (a : AllFit p q s) (m : Moves (Just l) s t) (own : Fit p q l t) (busy : s.lanes[l].state.free = false) :
    AllFit p q t := a.only m own fun h => by rw [busy] at h; cases h

end
end Sys2Proof.Proofs
end

section
/-! A lane whose channel rests, and what the operations on that lane make of it (R73 to R77, R80, R82, R86, R99 to R105). -/

namespace Sys2Proof.Proofs

open Sys2Proof Sys2Proof.Machine Sys2Proof.Safety

section
variable {L : LaneId → Prop} {p q : Prop} {s t v : State} {l k : LaneId}

/-! ### Channels at rest -/

/-- The lane is off the wait list, and a stop order leaves its channel at rest. -/
structure Stoppable (k : LaneId) (s : State) : Prop where
  list : Unlisted s k
  making : s.drives[k].phase ≠ .making
  reversal : s.drives[k].phase = .braking → s.drives[k].reversal = false

/-- The lane is off the wait list, and its channel's relay is open or in a 50 ms brake. -/
structure Resting (k : LaneId) (s : State) : Prop extends Stoppable k s where
  driving : s.drives[k].phase ≠ .driving

/-- The states of a lane that is at work but neither in motion nor waiting for zones. -/
def atHalt : LaneState → Bool
  | .waitGate | .settling | .stopping | .fenced | .dwell | .waitAdvance | .paused | .faulted => true
  | _ => false

/-- The lane is at work, neither in motion nor waiting for zones, and its channel rests. -/
structure Parked (k : LaneId) (s : State) : Prop extends Resting k s where
  state : atHalt s.lanes[k].state = true

theorem Stoppable.of_same (h : Stoppable k s) (d : t.drives[k] = s.drives[k]) (w : t.waitList = s.waitList) :
    Stoppable k t := ⟨by rw [Unlisted, w]; exact h.list, by rw [d]; exact h.making, by rw [d]; exact h.reversal⟩

theorem Resting.of_same (h : Resting k s) (d : t.drives[k] = s.drives[k]) (w : t.waitList = s.waitList) :
    Resting k t := ⟨h.toStoppable.of_same d w, by rw [d]; exact h.driving⟩

theorem Resting.apart (h : Resting k s) (ap : Apart k s t) : Resting k t :=
  ⟨⟨ap.list h.list, by rw [ap.drive]; exact h.making, by rw [ap.drive]; exact h.reversal⟩,
    by rw [ap.drive]; exact h.driving⟩

/-- Other lanes' operations leave a parked lane parked. -/
theorem Parked.apart (h : Parked k s) (ap : Apart k s t) : Parked k t :=
  ⟨h.toResting.apart ap, by rw [ap.state]; exact h.state⟩

theorem Parked.of_same (h : Parked k s) (d : t.drives[k] = s.drives[k]) (w : t.waitList = s.waitList)
    (st : t.lanes[k].state = s.lanes[k].state) : Parked k t := ⟨h.toResting.of_same d w, by rw [st]; exact h.state⟩

theorem Parked.updLane (h : Resting k s) {f : Lane → Lane} (hf : atHalt (f s.lanes[k]).state = true) :
    Parked k (updLane k f s) :=
  ⟨h.of_same (by simp) (by simp), by rw [updLane_lanes, put_self]; exact hf⟩

theorem Resting.fit (h : Resting k s) (hm : s.lanes[k].state ≠ .moving) (hc : s.lanes[k].state ≠ .claiming)
    (he : q → s.lanes[k].state.free = true → s.lanes[k].ctx = none) : Fit p q k s :=
  ⟨fun e => absurd e h.making, fun e => absurd e h.driving, fun e r => absurd (h.reversal e) (by simp [-Fin.getElem_fin, r]),
    fun e => absurd e hm, by rw [if_neg hc]; exact entries_eq_zero.2 h.list, fun e => absurd e hc,
    fun _ e => absurd e hm, he⟩

theorem atHalt_busy {x : LaneState} (h : atHalt x = true) : x.free = false := by revert h; cases x <;> decide

theorem Parked.busy (h : Parked k s) : s.lanes[k].state.free = false := atHalt_busy h.state

theorem Parked.fit (h : Parked k s) : Fit p q k s := by
  have st := h.state
  refine h.toResting.fit (fun e => ?_) (fun e => ?_) fun _ e => ?_
  · rw [e] at st; cases st
  · rw [e] at st; cases st
  · rw [h.busy] at e; cases e

theorem Fit.stoppable (f : Fit p q k s) (hc : s.lanes[k].state ≠ .claiming) (ha : s.lanes[k].state ≠ .arming)
    (hr : s.lanes[k].state ≠ .reversing ∨ s.drives[k].phase = .driving) : Stoppable k s :=
  ⟨f.unlisted hc, fun e => ha (f.making e), fun e => by
    rcases hr with hr | hr
    · exact Bool.eq_false_iff.2 fun r => hr (f.reversal e r)
    · rw [e] at hr; cases hr⟩

theorem Fit.driven (f : Fit p q k s) (h : s.drives[k].phase = .driving) : Stoppable k s := by
  rcases f.driving h with e | e
  · exact f.stoppable (by rw [e]; decide) (by rw [e]; decide) (.inr h)
  · exact f.stoppable (by rw [e]; decide) (by rw [e]; decide) (.inr h)

theorem Fit.resting (f : Fit p q k s) (h : s.lanes[k].state.free = true ∨ atHalt s.lanes[k].state = true) :
    Resting k s := by
  have ne (x : LaneState) (hx : x.free = false) (hy : atHalt x = false) : s.lanes[k].state ≠ x := fun e => by
    rw [e, hx, hy] at h; rcases h with h | h <;> cases h
  refine ⟨f.stoppable (ne _ rfl rfl) (ne _ rfl rfl) (.inl (ne _ rfl rfl)), fun e => ?_⟩
  exact (f.driving e).elim (ne _ rfl rfl) (ne _ rfl rfl)

theorem Fit.parked (f : Fit p q k s) (h : atHalt s.lanes[k].state = true) : Parked k s := ⟨f.resting (.inr h), h⟩

theorem resting_openRelay (h : Unlisted s k) : Resting k (openRelay k s) := by
  have phase : (openRelay k s).drives[k].phase = .relayOpen := by rw [openRelay_drives, put_self]; rfl
  exact ⟨⟨h, by rw [phase]; decide, fun e => by rw [phase] at e; cases e⟩, by rw [phase]; decide⟩

theorem resting_brake (h : Stoppable k s) (ms : Nat) : Resting k (brake k ms false s) := by
  by_cases d : s.drives[k].phase = .driving
  · obtain ⟨phase, -, -, rev⟩ := braking_brake (ms := ms) (rev := false) d
    have list : Unlisted (brake k ms false s) k := by
      rw [Unlisted, show (brake k ms false s).waitList = s.waitList by simp]; exact h.list
    exact ⟨⟨list, by rw [phase]; decide, fun _ => rev⟩, by rw [phase]; decide⟩
  · have e : brake k ms false s = s := by unfold brake; dsimp only; rw [if_neg d]
    rw [e]; exact ⟨h, d⟩

/-! ### Entries into the states that have no motion -/

theorem parked_enterPaused (h : Resting k s) (r : PauseReason) (x : ResumePoint) : Parked k (enterPaused k r x s) :=
  .updLane h rfl
theorem parked_enterFenced (h : Resting k s) : Parked k (enterFenced k s) := by
  unfold enterFenced; exact .updLane h rfl
theorem parked_enterWaitAdvance (h : Resting k s) : Parked k (enterWaitAdvance k s) := .updLane h rfl
theorem parked_enterStopping (h : Stoppable k s) (d : StopDest) : Parked k (enterStopping k d s) :=
  .updLane (resting_brake h _) rfl
theorem parked_enterSettling (h : Stoppable k s) : Parked k (enterSettling k s) := .updLane (resting_brake h _) rfl
theorem parked_endBackOff (h : Stoppable k s) (d : StopDest) : Parked k (endBackOff k d s) :=
  parked_enterStopping (h.of_same (by simp) (by simp)) d

theorem resting_release (h : Resting k s) (zs : ZoneSet) :
    Resting k (release k zs s) ∧ (release k zs s).lanes[k].ctx = s.lanes[k].ctx ∧
    (release k zs s).lanes[k].state = s.lanes[k].state := by
  unfold release; dsimp only; split
  · exact ⟨h, rfl, rfl⟩
  · have sp := (moves_scan (L := fun _ => False) (mark (.lane k) (mark .sets (setHolders (zs &&& heldBy s k) none s)))).spared
      id (l := k) h.list
    have rest : Resting k (mark (.lane k) (mark .sets (setHolders (zs &&& heldBy s k) none s))) := h.of_same rfl rfl
    exact ⟨rest.apart sp.apart, sp.apart.ctx, sp.apart.state⟩

theorem parked_release (h : Parked k s) (zs : ZoneSet) : Parked k (release k zs s) := by
  obtain ⟨rest, -, state⟩ := resting_release h.toResting zs
  exact ⟨rest, by rw [state]; exact h.state⟩

theorem resting_releaseAll (h : Resting k s) : Resting k (releaseAll k s) := (resting_release h _).1

theorem parked_enterWaitGate (h : Resting k s) : Parked k (enterWaitGate k s) := .updLane (resting_releaseAll h) rfl

theorem resting_computeSweep (h : Resting k s) : Resting k (computeSweep k s) := h.of_same (by simp) (by simp)

theorem computeSweep_ctx (k : LaneId) (s : State) :
    (computeSweep k s).lanes[k].ctx.isSome = s.lanes[k].ctx.isSome := by
  unfold computeSweep; split
  · rfl
  · simp [-Fin.getElem_fin, setSweep]

/-! ### Claims and the ARMING decision -/

/-- A lane that joins the wait list is in CLAIMING with one entry and no zone, or has been granted its zones (R74, R100). -/
theorem fit_join (h : Resting k s) (n : s.lanes[k].ctx.isSome = true) : Fit p q k (join k s) := by
  obtain ⟨c, hc⟩ := Option.isSome_iff_exists.1 n
  obtain ⟨v, sp, held, lanes, drives, -, list⟩ := releaseAll_own h.list
  unfold join; rw [hc]; dsimp only
  refine (moves_scan (L := fun _ => False) _).fit id ?_
  have rest := resting_releaseAll h
  have ctx : (releaseAll k s).lanes[k].ctx.isSome = true := by rw [sp.apart.ctx, lanes]; exact n
  refine ⟨?_, ?_, ?_, ?_, ?_, ?_, ?_, ?_⟩ <;> simp only [updLane_lanes, updLane_drives, put_self]
  · exact fun e => absurd e rest.making
  · exact fun e => absurd e rest.driving
  · exact fun e r => absurd (rest.reversal e) (by rw [r]; decide)
  · exact nofun
  · rw [if_pos trivial, entries_congr (updLane_waitList ..)]
    have none_before := entries_eq_zero.2 rest.list
    simp only [entries, List.map_append, List.count_append] at none_before ⊢
    rw [none_before]; simp
  · refine fun _ => ⟨ctx, ?_⟩
    rw [heldBy_congr (updLane_holders ..)]
    exact (heldBy_congr rfl k).trans (sp.apart.zones.trans held)
  · exact fun _ => nofun
  · exact fun _ => nofun

/-- The claim of a lane with a step context; without one it does nothing (R74). -/
theorem fit_claim (h : Resting k s) (n : s.lanes[k].ctx = none → Fit p q k s) : Fit p q k (claim k s) := by
  cases hc : s.lanes[k].ctx with
  | none =>
    have e : computeSweep k s = s := by unfold computeSweep; rw [hc]
    have f := n hc
    unfold claim join; rw [e, hc]; exact f
  | some c => exact fit_join (resting_computeSweep h) (by rw [computeSweep_ctx, hc]; rfl)

theorem fit_arm (h : Resting k s) (n : s.lanes[k].ctx.isSome = true) : Fit p q k (arm k s) :=
  (moves_rescanned (L := fun _ => False) _ _).fit id (fit_enterArming n h.list)

theorem fit_armOrFence (h : Resting k s) (n : s.lanes[k].ctx.isSome = true) : Fit p q k (armOrFence k s) := by
  obtain ⟨c, hc⟩ := Option.isSome_iff_exists.1 n
  have last : ∀ t, Resting k t → t.lanes[k].ctx.isSome = true →
      Fit p q k (if meets c.sweep (fenced t) then enterFenced k t else arm k t) := by
    intro t ht hn; split
    · exact (parked_enterFenced ht).fit
    · exact fit_arm ht hn
  unfold armOrFence; rw [hc]; dsimp only
  split
  · obtain ⟨rest, ctx, -⟩ := resting_release h (heldBy s k &&& ~~~c.sweep)
    exact last _ rest (by rw [ctx]; exact n)
  · exact last _ h n

theorem resting_updCtx (h : Resting k s) (f : StepCtx → StepCtx) : Resting k (updCtx k f s) :=
  h.of_same (by simp) (by simp)
theorem resting_restartLearn (h : Resting k s) : Resting k (restartLearn k s) := h.of_same (by simp [restartLearn]) (by simp [restartLearn])
theorem restartLearn_ctx (k : LaneId) (s : State) :
    (restartLearn k s).lanes[k].ctx.isSome = s.lanes[k].ctx.isSome := by simp [-Fin.getElem_fin, restartLearn]
theorem updCtx_ctx (k : LaneId) (f : StepCtx → StepCtx) (s : State) :
    (updCtx k f s).lanes[k].ctx.isSome = s.lanes[k].ctx.isSome := by simp [-Fin.getElem_fin]

theorem fit_homingDue (h : Resting k s) (n : s.lanes[k].ctx.isSome = true) :
    Fit p q k (match (computeSweep k s).lanes[k].ctx with
      | none => computeSweep k s
      | some c => if covers (computeSweep k s) k c.sweep then armOrFence k (computeSweep k s)
        else join k (computeSweep k s)) := by
  have rest := resting_computeSweep h
  have ctx : (computeSweep k s).lanes[k].ctx.isSome = true := by rw [computeSweep_ctx]; exact n
  split
  · next e => rw [e] at ctx; cases ctx
  · split
    · exact fit_armOrFence rest ctx
    · exact fit_join rest ctx

/-- The ARMING decision of a lane with a step context; without one it does nothing (R75). -/
theorem fit_armingDecision (h : Resting k s) (n : s.lanes[k].ctx = none → Fit p q k s) :
    Fit p q k (armingDecision k s) := by
  unfold armingDecision; split
  · next hc => exact n hc
  · next c hc =>
    have ctx : s.lanes[k].ctx.isSome = true := by rw [hc]; rfl
    split
    · exact fit_armOrFence h ctx
    · split
      · exact fit_homingDue (resting_updCtx h _) (by rw [updCtx_ctx]; exact ctx)
      · exact fit_homingDue (resting_updCtx h _) (by rw [updCtx_ctx]; exact ctx)
      · exact fit_armOrFence (resting_restartLearn h) (by rw [restartLearn_ctx]; exact ctx)
      · exact fit_armOrFence (resting_restartLearn h) (by rw [restartLearn_ctx]; exact ctx)
      all_goals exact fit_armOrFence h ctx

theorem fit_claimAtNext (h : Resting k s) (n : s.lanes[k].ctx = none → Fit p q k s) : Fit p q k (claimAtNext k s) := by
  unfold claimAtNext; split
  · next hc => exact n hc
  · split
    · exact (parked_enterWaitGate h).fit
    · split
      · exact fit_armingDecision h n
      · exact fit_claim h n

/-! ### The ends of an arrangement -/

theorem Freed.fit {x : LaneState} {r : Result} (f : Freed k x r s t) (h : Resting k s) : Fit p q k t := by
  have state : t.lanes[k].state = x := by rw [f.lane]
  have free := f.free
  have rest : Resting k t := ⟨⟨f.list, by rw [f.drive]; exact h.making, by rw [f.drive]; exact h.reversal⟩,
    by rw [f.drive]; exact h.driving⟩
  refine rest.fit (fun e => ?_) (fun e => ?_) fun _ _ => by rw [f.lane]
  · rw [← state, e] at free; cases free
  · rw [← state, e] at free; cases free

/-- The wait list aside, a lane that enters IDLE needs a resting channel alone: its entry goes (R70). -/
theorem fit_enterIdle (h : Resting k (leaveList k s)) (r : Result) : Fit p q k (enterIdle k r s) := by
  obtain ⟨f, -⟩ := freed_enterIdle k r s
  have state : (enterIdle k r s).lanes[k].state = .idle := by rw [f.lane]
  have rest : Resting k (enterIdle k r s) := ⟨⟨f.list, by rw [f.drive]; exact h.making, by rw [f.drive]; exact h.reversal⟩,
    by rw [f.drive]; exact h.driving⟩
  exact rest.fit (by rw [state]; decide) (by rw [state]; decide) fun _ _ => by rw [f.lane]

theorem resting_leaveList (h : Resting k s) : Resting k (leaveList k s) :=
  ⟨⟨unlisted_leaveList k s, h.making, h.reversal⟩, h.driving⟩

theorem Fit.resting_leaveList (f : Fit p q k s) (h : s.lanes[k].state = .claiming) : Resting k (leaveList k s) := by
  have ne {x : LaneState} (hx : x ≠ .claiming) : s.lanes[k].state ≠ x := fun e => hx (e.symm.trans h)
  exact ⟨⟨unlisted_leaveList k s, fun e => ne (by decide) (f.making e),
    fun e => Bool.eq_false_iff.2 fun r => ne (by decide) (f.reversal e r)⟩,
    fun e => (f.driving e).elim (ne (by decide)) (ne (by decide))⟩

theorem fit_leaveFaulted (h : Resting k s) (r : Result) : Fit p q k (leaveFaulted k r s) :=
  (freed_leaveFaulted r h.list).fit h

end
end Sys2Proof.Proofs
end

section
/-! The orders and events that reach one lane, and the invariants (R57 to R60, R73, R78, R82 to R93, R107, R113). -/

namespace Sys2Proof.Proofs

open Sys2Proof Sys2Proof.Machine Sys2Proof.Safety

section
variable {L : LaneId → Prop} {p q : Prop} {s t v : State} {l k : LaneId}

/-! ### Orders to one lane -/

/-- A write that keeps the lane's state, and a step context and a current hold where it has them. -/
theorem Fit.updLane (f : Fit p q k s) {g : Lane → Lane} (state : (g s.lanes[k]).state = s.lanes[k].state)
    (ctx : (g s.lanes[k]).ctx.isSome = s.lanes[k].ctx.isSome)
    (hold : s.lanes[k].state = .moving → (s.lanes[k].mode = some .hold → s.lanes[k].lapseTimer.isSome = true) →
      (g s.lanes[k]).mode = some .hold → (g s.lanes[k]).lapseTimer.isSome = true) : Fit p q k (updLane k g s) := by
  obtain ⟨making, driving, reversal, moving, listed, claiming, safe, empty⟩ := f
  rw [← Option.isNone_iff_eq_none, ← Option.not_isSome, ← ctx, Option.not_isSome, Option.isNone_iff_eq_none] at empty
  refine ⟨?_, ?_, ?_, ?_, ?_, ?_, ?_, ?_⟩ <;>
    simp only [updLane_lanes, put_self, updLane_drives, state, ctx, entries_congr (updLane_waitList ..),
      heldBy_congr (updLane_holders ..), interlock, updLane_vehicle, updLane_supply]
  · exact making
  · exact driving
  · exact reversal
  · exact moving
  · exact listed
  · exact claiming
  · exact fun x y => ⟨(safe x y).1, (safe x y).2.1, hold y (safe x y).2.2⟩
  · exact empty

theorem fit_testGate (f : Fit p q k s) : Fit p q k (testGate s k) := by
  unfold testGate; split
  · next h =>
    have rest := (f.parked (by rw [h]; rfl)).toResting
    split
    · exact f
    · split
      · exact fit_claim rest fun _ => f
      · exact f
  · exact f

theorem fit_haltLane (f : Fit p q k s) (r : PauseReason) : Fit p q k (haltLane k r s) := by
  unfold haltLane; dsimp only; split
  · next h => exact (parked_enterStopping (f.driven (f.moving h)) _).fit
  · next h => exact (parked_enterPaused (resting_openRelay (f.unlisted (by rw [h]; decide))) _ _).fit
  · next h => exact (parked_enterPaused (f.resting_leaveList h) _ _).fit
  iterate 4 next h => exact (parked_enterPaused (f.resting (.inr (by rw [h]; rfl))) _ _).fit
  · exact f.updLane rfl rfl fun _ => id
  iterate 3
    · split
      · exact f
      · exact f.updLane rfl rfl fun _ => id
  all_goals exact f

theorem fit_clearFaultLane (f : Fit p q k s) (r : Result) : Fit p q k (clearFaultLane k r s) := by
  unfold clearFaultLane; dsimp only; split
  · exact f
  · next h =>
    split
    · split
      · exact f
      · exact f.updLane rfl rfl fun _ => id
    · rw [ne_eq, not_not] at h
      exact fit_leaveFaulted (f.resting (.inr (by rw [h]; rfl))) r

theorem fit_cancelLane (f : Fit p q k s) (r : Result) : Fit p q k (cancelLane k r s) := by
  have halted (h : atHalt s.lanes[k].state = true) : Fit p q k (enterIdle k r s) :=
    fit_enterIdle (resting_leaveList (f.resting (.inr h))) r
  unfold cancelLane; dsimp only; split
  · next h => exact halted (by rw [h]; rfl)
  · next h => exact fit_enterIdle (f.resting_leaveList h) r
  iterate 4 next h => exact halted (by rw [h]; rfl)
  · next h => exact fit_enterIdle (resting_leaveList (resting_openRelay (f.unlisted (by rw [h]; decide)))) r
  · next h => exact (parked_enterStopping (f.driven (f.moving h)) _).fit
  iterate 3
    · split
      · exact f
      · exact f.updLane rfl rfl fun _ => id
  · exact fit_clearFaultLane f _
  all_goals exact f

theorem fit_afterDwell (h : Resting k s) (n : s.lanes[k].ctx = none → Fit p q k s) : Fit p q k (afterDwell k s) := by
  unfold afterDwell; split
  · next e => exact n e
  · split
    · exact fit_enterIdle (resting_leaveList h) _
    · split
      · exact (parked_enterWaitAdvance h).fit
      · exact fit_claimAtNext h n

theorem fit_resumeLane (f : Fit p q k s) : Fit p q k (resumeLane k s) := by
  unfold resumeLane; dsimp only; split
  · exact f
  · next h =>
    rw [ne_eq, not_not] at h
    have rest := f.resting (.inr (by rw [h]; rfl))
    split
    · exact fit_armingDecision rest fun _ => f
    · exact fit_claim rest fun _ => f
    · exact fit_testGate (parked_enterWaitGate rest).fit
    · exact fit_afterDwell rest fun _ => f
    · exact (parked_enterWaitAdvance rest).fit
    · exact f

theorem fit_holdLane (f : Fit p q k s) : Fit p q k (holdLane k s) := by
  have held : Fit p q k (updLane k (fun r => { r with holdTime := some s.now, lapseTimer := some holdTime }) s) :=
    f.updLane rfl rfl fun _ _ _ => rfl
  unfold holdLane; dsimp only; split
  · exact f
  · split
    · split
      · next h =>
        simp only [Bool.and_eq_true, decide_eq_true_eq] at h
        refine fit_armingDecision (held.parked ?_).toResting fun _ => held
        rw [updLane_lanes, put_self, h.1]; rfl
      · exact held
    · split
      · next h =>
        simp only [Bool.and_eq_true, decide_eq_true_eq] at h
        exact fit_claimAtNext (f.resting (.inr (by rw [h.2]; rfl))) fun _ => f
      · exact f

theorem fit_interlockLost (f : Fit p q k s) : Fit p q k (interlockLost s k) := by
  unfold interlockLost; split
  · next h => exact (parked_enterStopping (f.driven (f.moving h)) _).fit
  · exact f

/-- At an onset of supply low a reversal brake becomes a 50 ms one (R88). -/
theorem fit_supplyLowOnset (f : Fit p q k s) : Fit p q k (supplyLowOnset s k) := by
  unfold supplyLowOnset; split
  · next h => exact (parked_enterStopping (f.driven (f.moving h)) _).fit
  · next h =>
    apply Parked.fit; apply parked_endBackOff
    refine ⟨f.unlisted (by rw [h]; decide), ?_, ?_⟩ <;> simp only [updDrive_drives, put_self]
    · split
      · next b => rw [b]; decide
      · exact fun e => by have := f.making e; rw [h] at this; cases this
    · split
      · exact fun _ => rfl
      · next b => exact fun e => absurd e b
  · exact f

theorem fit_fenceLane (f : Fit p q k s) (z : ZoneSet) : Fit p q k (fenceLane z s k) := by
  unfold fenceLane; split
  · split
    · next h => exact (parked_enterStopping (f.driven (f.moving h)) _).fit
    · next h => exact (parked_enterFenced (resting_openRelay (f.unlisted (by rw [h]; decide)))).fit
    · exact f.updLane rfl rfl fun _ => id
    · exact f
  · exact f

/-! ### What a FREE lane does with them -/

theorem haltLane_of_free (h : s.lanes[k].state.free = true) (r : PauseReason) : haltLane k r s = s := by
  unfold haltLane; cases e : s.lanes[k].state <;> simp_all [LaneState.free]

theorem cancelLane_of_free (h : s.lanes[k].state.free = true) (r : Result) : cancelLane k r s = s := by
  unfold cancelLane; cases e : s.lanes[k].state <;> simp_all [LaneState.free]

theorem clearFaultLane_of_free (h : s.lanes[k].state.free = true) (r : Result) : clearFaultLane k r s = s := by
  unfold clearFaultLane; cases e : s.lanes[k].state <;> simp_all [LaneState.free]

theorem resumeLane_of_free (h : s.lanes[k].state.free = true) : resumeLane k s = s := by
  unfold resumeLane; cases e : s.lanes[k].state <;> simp_all [LaneState.free]

theorem holdLane_of_free (h : s.lanes[k].state.free = true) : holdLane k s = s := by
  unfold holdLane; dsimp only; rw [h]; rfl

theorem testGate_of_free (h : s.lanes[k].state.free = true) : testGate s k = s := by
  unfold testGate; exact if_neg fun e => by rw [e] at h; cases h

theorem interlockLost_of_free (h : s.lanes[k].state.free = true) : interlockLost s k = s := by
  unfold interlockLost; exact if_neg fun e => by rw [e] at h; cases h

theorem supplyLowOnset_of_free (h : s.lanes[k].state.free = true) : supplyLowOnset s k = s :=
  supplyLowOnset_still fun e => by rcases e with e | e <;> (rw [e] at h; cases h)

theorem fenceLane_of_free (h : s.lanes[k].state.free = true) (z : ZoneSet) : fenceLane z s k = s := by
  unfold fenceLane; cases e : s.lanes[k].state <;> simp_all [LaneState.free]

/-! ### Operations that reach one lane after another -/

/-- What an operation on one lane must do for the invariants: write that lane alone, leave it fitting, and do nothing to a
FREE one. -/
structure Safely (f : State → LaneId → State) : Prop where
  moves : ∀ s k, Moves (Just k) s (f s k)
  fit : ∀ {p q s k}, Fit p q k s → Fit p q k (f s k)
  free : ∀ {s k}, s.lanes[k].state.free = true → f s k = s

theorem safely_haltLane (r : PauseReason) : Safely fun s k => haltLane k r s :=
  ⟨fun s k => moves_haltLane s (just k) r, fun f => fit_haltLane f r, fun h => haltLane_of_free h r⟩
theorem safely_cancelLane (r : Result) : Safely fun s k => cancelLane k r s :=
  ⟨fun s k => moves_cancelLane s (just k) r, fun f => fit_cancelLane f r, fun h => cancelLane_of_free h r⟩
theorem safely_clearFaultLane (r : Result) : Safely fun s k => clearFaultLane k r s :=
  ⟨fun s k => moves_clearFaultLane s (just k) r, fun f => fit_clearFaultLane f r, fun h => clearFaultLane_of_free h r⟩
theorem safely_resumeLane : Safely fun s k => resumeLane k s :=
  ⟨fun s k => moves_resumeLane s (just k), fit_resumeLane, resumeLane_of_free⟩
theorem safely_holdLane : Safely fun s k => holdLane k s :=
  ⟨fun s k => moves_holdLane s (just k), fit_holdLane, holdLane_of_free⟩
theorem safely_testGate : Safely testGate := ⟨fun s k => moves_testGate s fun _ => just k, fit_testGate, testGate_of_free⟩
theorem safely_interlockLost : Safely interlockLost :=
  ⟨fun s k => moves_interlockLost s fun _ => just k, fit_interlockLost, interlockLost_of_free⟩
theorem safely_supplyLowOnset : Safely supplyLowOnset :=
  ⟨fun s k => moves_supplyLowOnset s fun _ => just k, fit_supplyLowOnset, supplyLowOnset_of_free⟩
theorem safely_fenceLane (z : ZoneSet) : Safely (fenceLane z) :=
  ⟨fun s k => moves_fenceLane s z fun _ => just k, fun f => fit_fenceLane f z, fun h => fenceLane_of_free h z⟩

theorem AllFit.one {f : State → LaneId → State} (a : AllFit p q s) (h : Safely f) (k : LaneId) : AllFit p q (f s k) := by
  cases e : s.lanes[k].state.free with
  | true => rw [h.free e]; exact a
  | false => exact a.single (h.moves s k) (h.fit (a.lane k)) e

theorem AllFit.foldl {α : Type} {f : State → α → State} (h : ∀ s x, AllFit p q s → AllFit p q (f s x)) (xs : List α)
    (a : AllFit p q s) : AllFit p q (xs.foldl f s) := by
  induction xs generalizing s with
  | nil => exact a
  | cons x xs ih => exact ih (h s x a)

theorem AllFit.each {f : State → LaneId → State} (a : AllFit p q s) (h : Safely f) (ks : List LaneId) :
    AllFit p q (ks.foldl f s) := AllFit.foldl (fun _ k a => a.one h k) ks a

theorem AllFit.deliver {f : LaneId → State → State} (a : AllFit p q s) (h : Safely fun s k => f k s) (ls : LaneSet) :
    AllFit p q (deliver f ls s) := by
  refine AllFit.foldl (fun s k a => ?_) _ a
  split
  · exact a.one h k
  · exact a

theorem AllFit.gateEvent (a : AllFit p q s) : AllFit p q (gateEvent s) := a.each safely_testGate _

theorem AllFit.fenceEvent (a : AllFit p q s) (x y : FenceView) : AllFit p q (fenceEvent x y s) := by
  unfold Machine.fenceEvent; dsimp only; split
  · exact a
  · have fences := (((a.moves (moves_mark _ .sets)).each (safely_fenceLane (y.all &&& ~~~x.all)) allLanes)).moves
      (moves_deliverUnfence _ (x.all &&& ~~~y.all))
    split
    · exact fences.moves (moves_yieldTests _)
    · exact fences.moves (moves_scan _)

theorem AllFit.handOn (a : AllFit p q s) (x : FenceView) (c : ChanId) : AllFit p q (handOn x c s) := by
  unfold Machine.handOn; dsimp only
  have active := (a.fenceEvent (x.within (s.ram.channels[c].guard))
    ((fenceView s).within (s.ram.channels[c].guard))).moves (Move.activate _).one
  split
  · exact active
  · exact active.moves (Move.dequeue _ c).one

theorem AllFit.handOnAll (a : AllFit p q s) (x : FenceView) (cs : List ChanId) : AllFit p q (handOnAll x cs s) := by
  unfold Machine.handOnAll
  suffices h : ∀ y : FenceView × State, AllFit p q y.2 → AllFit p q (cs.foldl (fun (p : FenceView × State) c =>
      (p.1.refreshed (fenceView p.2) (p.2.ram.channels[c].guard), Machine.handOn p.1 c p.2)) y).2 from h (x, s) a
  induction cs with
  | nil => exact fun _ a => a
  | cons c cs ih => exact fun y a => ih (_, _) (a.handOn y.1 c)

theorem AllFit.tryTune (a : AllFit p q s) : AllFit p q (tryTune s) := a.moves (moves_tryTune s)

end
end Sys2Proof.Proofs
end

section
/-! The Drive Unit's events and the ends of brakes, and the invariants (R76, R79 to R81, R89, R119, R121 to R130, R142 to
R147, R152 to R156). -/

namespace Sys2Proof.Proofs

open Sys2Proof Sys2Proof.Machine Sys2Proof.Safety

section
variable {L : LaneId → Prop} {p q : Prop} {s t v : State} {l k : LaneId}

/-! ### Drives -/

/-- An operation that takes a lane at a halt, whose channel rests, to another halt. -/
theorem AllFit.parked (a : AllFit p q s) (m : Moves (Just l) s t) (h : atHalt s.lanes[l].state = true)
    (f : Resting l s → Parked l t) : AllFit p q t :=
  a.single m (f ((a.lane l).resting (.inr h))).fit (atHalt_busy h)

/-- A write to the channel that keeps its phase and the kind of its brake. -/
theorem Fit.updDrive (f : Fit p q k s) {g : Drive → Drive} (phase : (g s.drives[k]).phase = s.drives[k].phase)
    (rev : (g s.drives[k]).reversal = s.drives[k].reversal) : Fit p q k (updDrive k g s) := by
  refine f.of_view ?_
  simp only [viewOf, updDrive_drives, put_self, phase, rev]; rfl

theorem AllFit.updDrive (a : AllFit p q s) (k : LaneId) (g : Drive → Drive)
    (phase : ∀ d, (g d).phase = d.phase := by exact fun _ => rfl)
    (rev : ∀ d, (g d).reversal = d.reversal := by exact fun _ => rfl) : AllFit p q (updDrive k g s) :=
  a.of_fit rfl rfl fun j => by
    by_cases e : j = k
    · subst e; exact (a.lane _).updDrive (phase _) (rev _)
    · exact (Move.drive s k (just k) g).fit e (a.lane j)

theorem fit_slowTested (f : Fit p q k s) (r : Int) (c : SpeedClass) : Fit p q k (slowTested k r c s) := by
  unfold slowTested; split
  · exact f.updDrive rfl rfl
  · exact f

/-- The evaluation of a drive: it goes on, or ends in STOPPING or SETTLING (R121, R122, R128). -/
theorem fit_evaluateDrive (f : Fit p q k s) : Fit p q k (evaluateDrive k s) := by
  rcases evaluateDrive_cases k s with e | ⟨a, c, hc, hk, hd⟩
  · rw [e]; exact f
  · have slow : ∀ r, Fit p q k (slowTested k r c s) ∧ Stoppable k (slowTested k r c s) := fun r =>
      ⟨fit_slowTested f r c, (fit_slowTested f r c).driven (by rw [slowTested_drive]; exact hd)⟩
    rw [evaluateDrive_driving hc hk hd]; dsimp only
    split
    · split
      · exact (parked_endBackOff (slow _).2 _).fit
      · exact (slow _).1
    · split
      · exact (parked_enterSettling (slow _).2).fit
      · exact (slow _).1

/-- The lane of a DRIVING channel is at work. -/
theorem Fit.driving_busy (f : Fit p q k s) (h : s.drives[k].phase = .driving) : s.lanes[k].state.free = false := by
  rcases f.driving h with e | e <;> (rw [e]; rfl)

theorem AllFit.evaluateDrive (a : AllFit p q s) (k : LaneId) : AllFit p q (evaluateDrive k s) := by
  rcases evaluateDrive_cases k s with e | ⟨-, -, -, -, hd⟩
  · rw [e]; exact a
  · exact a.single (moves_evaluateDrive s (just k)) (fit_evaluateDrive (a.lane k)) ((a.lane k).driving_busy hd)

/-- The conditions of R76 hold: interlock, supply, and a current hold in HOLD mode. -/
structure MayDrive (k : LaneId) (s : State) : Prop where
  lock : interlock s = true
  supply : s.supply.low = false
  hold : s.lanes[k].mode = some .hold → s.lanes[k].lapseTimer.isSome = true

theorem fit_driveStart (m : MayDrive k s) (u : Unlisted s k) (c : StepCtx) : Fit p q k (driveStart k c s) := by
  rw [driveStart_eq]
  refine fit_evaluateDrive ?_
  have state := started_lane k c s
  have phase : (started k c s).drives[k].phase = .driving := by rw [started_drive]
  have list : entries k (started k c s) = 0 := by
    rw [entries_eq_zero, Unlisted]
    simpa [started, startChannel, reportDriveStart] using u
  have conditions : interlock (started k c s) = true ∧ (started k c s).supply.low = false ∧
      ((started k c s).lanes[k].mode = some .hold → (started k c s).lanes[k].lapseTimer.isSome = true) := by
    obtain ⟨lock, supply, hold⟩ := m
    simp only [started, updLane_lanes, put_self]
    exact ⟨by simpa [interlock, startChannel, reportDriveStart] using lock,
      by simpa [startChannel, reportDriveStart] using supply,
      by simpa [-Fin.getElem_fin, startChannel, reportDriveStart, Lane.leaving] using hold⟩
  refine ⟨?_, fun _ => .inl state, ?_, fun _ => phase, ?_, ?_, fun _ _ => conditions, ?_⟩
  · rw [phase]; exact nofun
  · rw [phase]; exact nofun
  · rw [state, list]; rfl
  · rw [state]; exact nofun
  · rw [state]; exact fun _ => nofun

/-- The relay of a lane outside MOVING opens (R117). -/
theorem fit_openRelay (f : Fit p q k s) (h : s.lanes[k].state ≠ .moving) : Fit p q k (openRelay k s) := by
  have phase : (openRelay k s).drives[k].phase = .relayOpen := by rw [openRelay_drives, put_self]; rfl
  refine ⟨?_, ?_, ?_, fun e => absurd e h, f.listed, f.claiming, fun _ e => absurd e h, f.empty⟩ <;> rw [phase]
  · exact nofun
  · exact nofun
  · exact nofun

/-- The end of ARMING: the drive starts when its conditions hold; else the relay opens (R76). -/
theorem fit_armingEnd (f : Fit p q k s) (h : s.lanes[k].state = .arming) : Fit p q k (armingEnd k s) := by
  have list := f.unlisted (by rw [h]; decide)
  have rest := resting_openRelay list
  have opened : Fit p q k (openRelay k s) := fit_openRelay f (by rw [h]; decide)
  have checks : ∀ (b : Bool) (c : StepCtx), Fit p q k (
      if b && !s.acts[c.act].referenced then armingDecision k (openRelay k s)
      else if !interlock s then enterPaused k .interlock .motion (openRelay k s)
      else if s.supply.low then enterPaused k .supply .motion (openRelay k s)
      else if s.lanes[k].mode = some .hold && !s.lanes[k].holdCurrent then
        enterPaused k .holdLapsed .motion (openRelay k s)
      else driveStart k c s) := by
    intro b c
    split
    · exact fit_armingDecision rest fun _ => opened
    split
    · exact (parked_enterPaused rest _ _).fit
    split
    · exact (parked_enterPaused rest _ _).fit
    split
    · exact (parked_enterPaused rest _ _).fit
    · next hi hl hh =>
      refine fit_driveStart ⟨by simpa using hi, by simpa using hl, fun hold => ?_⟩ list c
      simpa [-Fin.getElem_fin, hold, Lane.holdCurrent, ← Option.isSome_iff_ne_none] using hh
  unfold armingEnd; split
  · exact opened
  · exact checks _ _

/-! ### Contacts and faults -/

theorem fit_reversing (u : Unlisted s k) (h : s.lanes[k].state = .reversing) (m : s.drives[k].phase ≠ .making) :
    Fit p q k s := by
  have list := entries_eq_zero.2 u
  refine ⟨fun e => absurd e m, fun _ => .inr h, fun _ _ => h, ?_, by rw [list, h]; rfl, ?_, ?_, ?_⟩ <;> rw [h]
  · exact nofun
  · exact nofun
  · exact fun _ => nofun
  · exact fun _ => nofun

/-- A channel in its reversal brake belongs to a lane in REVERSING (R143). -/
theorem fit_firmContact (f : Fit p q k s) (h : s.drives[k].phase = .driving) : Fit p q k (firmContact k s) := by
  unfold firmContact; dsimp only; split
  · refine fit_reversing ?_ ?_ ?_
    · simpa [Unlisted] using (f.driven h).list
    · simp [-Fin.getElem_fin]
    · simp [-Fin.getElem_fin, brake_drives, h]
  · exact f

/-- A lane whose channel rests enters FAULTED, its zones go, and its partner is halted (R89, R96). The lane was at work in
`u`, and only it has changed since. -/
theorem AllFit.enterFaulted {u : State} (a : AllFit p q u) (m : Moves (Just k) u s) (busy : u.lanes[k].state.free = false)
    (h : Resting k s) (r : FaultReason) : AllFit p q (enterFaulted k r s) := by
  have own (f : Lane → Lane) (hf : atHalt (f s.lanes[k]).state = true) :
      AllFit p q (releaseAll k (updLoad k Load.stepEnded (updLane k f s))) := by
    have parked : Parked k (updLoad k Load.stepEnded (updLane k f s)) := (Parked.updLane h hf).of_same rfl rfl rfl
    exact a.single (((m.tail (.lane s k (just k) f)).tail (.load _ k (just k) _)).trans (moves_releaseAll _ (just k)))
      (parked_release parked _).fit busy
  have handed : ∀ t, AllFit p q t → AllFit p q (match partnerOf t k with
      | some x => haltLane x .partnerFault t
      | none => t) := by
    intro t a; split
    · exact a.one (safely_haltLane _) _
    · exact a
  have done := handed _ (own (fun r' => { r'.leaving with
    state := .faulted, faultReason := some r, lastResult := some .faulted, ctx := none }) rfl)
  unfold Machine.enterFaulted; dsimp only; split
  · split
    · exact done.one (safely_clearFaultLane _) k
    · exact done
  · exact done

theorem AllFit.driveFault (a : AllFit p q s) (h : s.drives[k].phase = .driving) (dev : Option Int) :
    AllFit p q (driveFault k dev s) := by
  have busy := (a.lane k).driving_busy h
  have m : Moves (Just k) s _ := ((((Move.drive s k (just k) fun d => { d.opened with failed := true }).one.trans
    (moves_stopConnected _ s.drives[k].connected)).trans (moves_resumeSupplyTimer _)).tail
      (.log _ .driveFault (some k) s.drives[k].connected (s.drives[k].connected.map fun a => s.acts[a].position) dev
        s.lanes[k].arrangementId none))
  unfold Machine.driveFault; dsimp only
  generalize hv : logEntry _ _ _ _ _ _ _ _ = v at m ⊢
  have same : v.drives = put s.drives k { s.drives[k].opened with failed := true } ∧ v.waitList = s.waitList ∧
      v.lanes = s.lanes := by
    subst hv
    split <;> simp [-Fin.getElem_fin]
  obtain ⟨drives, list, lanes⟩ := same
  have phase : v.drives[k].phase = .relayOpen := by rw [drives, put_self]; rfl
  have rest : Resting k v := ⟨⟨by rw [Unlisted, list]; exact ((a.lane k).driven h).list, by rw [phase]; decide,
    by rw [phase]; exact nofun⟩, by rw [phase]; decide⟩
  split
  · exact a.enterFaulted m busy rest _
  · exact a.enterFaulted m busy rest _
  · next hm hr =>
    rcases (a.lane k).driving h with e | e
    · exact absurd (by rw [lanes]; exact e) hm
    · exact absurd (by rw [lanes]; exact e) hr

theorem AllFit.reverseBlocked (a : AllFit p q s) (h : s.drives[k].phase = .driving) : AllFit p q (reverseBlocked k s) := by
  unfold Machine.reverseBlocked; dsimp only
  exact (a.enterFaulted (moves_brake s (just k) _ _) ((a.lane k).driving_busy h) (resting_brake ((a.lane k).driven h) _) _).moves
    (Move.log ..).one

theorem AllFit.firmReported (a : AllFit p q s) (h : s.drives[k].phase = .driving) : AllFit p q (firmReported k s) := by
  unfold Machine.firmReported; split
  · exact a.single (moves_firmContact s (just k)) (fit_firmContact (a.lane k) h) ((a.lane k).driving_busy h)
  · exact a.reverseBlocked h
  · exact a

theorem Fit.note (f : Fit p q k s) (i : BitVec 7) : Fit p q k (note k i s) := f.updLane rfl rfl fun _ => id
theorem Fit.updLoad (f : Fit p q k s) (g : Load → Load) : Fit p q k (updLoad k g s) := f.of_view rfl
theorem Fit.updCtx (f : Fit p q k s) (g : StepCtx → StepCtx) : Fit p q k (updCtx k g s) :=
  f.updLane rfl (by simp) fun _ => id

theorem fit_softReported (f : Fit p q k s) : Fit p q k (softReported k s) := by
  have seen : Fit p q k (Machine.updLoad k (fun x => { x with eligible := false }) (Machine.note k incSoftSeen s)) :=
    (f.note _).updLoad _
  unfold softReported; split
  · next h =>
    dsimp only; split
    · exact seen
    · split
      · have state : (Machine.updLoad k (fun x => { x with eligible := false })
            (Machine.note k incSoftSeen s)).lanes[k].state = .moving := by simpa [-Fin.getElem_fin] using h
        exact (parked_enterStopping (seen.driven (seen.moving state)) _).fit
      · exact fit_evaluateDrive ((seen.updCtx _).updDrive rfl rfl)
  · exact f.note _
  · exact f.note _
  · exact f

theorem AllFit.reportOutcome (a : AllFit p q s) (h : s.drives[k].phase = .driving) (o : LoadOutcome) :
    AllFit p q (reportOutcome k o s) := by
  unfold Machine.reportOutcome; split
  · exact a
  · exact a.single (moves_softReported s (just k)) (fit_softReported (a.lane k)) ((a.lane k).driving_busy h)
  · exact a.firmReported h

/-! ### Stalls and pulses -/

theorem AllFit.referenceAtLow (b : AllFit p q s) (h : s.drives[k].phase = .driving) (a : ActId) :
    AllFit p q (referenceAtLow k a s) := by
  have m : Moves (Just k) s _ := moves_updAct s a (fun x => { x with position := 0, referenced := true, manualPulses := 0 })
    (Nat.zero_le _) rfl
  have settled := b.single (m.trans (moves_enterSettling _ (just k)))
    (parked_enterSettling (((b.lane k).driven h).of_same (by simp) (by simp))).fit ((b.lane k).driving_busy h)
  unfold Machine.referenceAtLow; dsimp only; split
  · exact settled
  · exact settled.gateEvent

theorem AllFit.takeStall (b : AllFit p q s) (h : s.drives[k].phase = .driving) (a : ActId) (m : MotionKind) :
    AllFit p q (takeStall k a m s) := by
  have low := b.referenceAtLow h a
  have high : AllFit p q (completeAtHigh k a s) := by
    unfold completeAtHigh
    exact b.single ((moves_updAct s a _ (Nat.zero_le _) rfl).trans (moves_enterSettling _ (just k)))
      (parked_enterSettling (((b.lane k).driven h).of_same (by simp) (by simp))).fit ((b.lane k).driving_busy h)
  have stall : ∀ x y : Bool, AllFit p q (if x then Machine.referenceAtLow k a s else if y then completeAtHigh k a s
      else Machine.firmReported k s) := by
    intro x y; split
    · exact low
    · split
      · exact high
      · exact b.firmReported h
  have rise : AllFit p q (riseEnd k a s) := by
    have stop : ∀ g, Stoppable k (Machine.updLoad k g s) := fun g => ((b.lane k).driven h).of_same rfl rfl
    unfold riseEnd; dsimp only
    exact b.single ((Move.load s k (just k) _).one.trans (moves_enterSettling _ (just k)))
      (parked_enterSettling (stop _)).fit ((b.lane k).driving_busy h)
  cases m with
  | homing => exact low
  | learnHome => exact low
  | learnRise => exact rise
  | step => exact stall _ _
  | correction => exact stall _ _
  | learnReturn => exact stall _ _
  | backOff => exact b.firmReported h

theorem AllFit.restartStall (b : AllFit p q s) (a : ActId) (k : LaneId) : AllFit p q (restartStall a s k) := by
  unfold Machine.restartStall; dsimp only; split
  · exact b.updDrive k _
  · exact b

theorem AllFit.countPulse (b : AllFit p q s) (a : ActId) : AllFit p q (countPulse a s) := by
  have stalls : AllFit p q (allLanes.foldl (Machine.restartStall a) s) :=
    AllFit.foldl (fun _ k b => b.restartStall a k) _ b
  unfold Machine.countPulse; dsimp only; split
  · exact stalls
  · refine AllFit.foldl (fun s k b => ?_) _ (stalls.moves (moves_updAct _ a _ (le_refl _) rfl))
    unfold evaluateOn; split
    · exact b.evaluateDrive k
    · exact b

/-! ### The end of SETTLING -/

theorem Parked.note (h : Parked k s) (i : BitVec 7) : Parked k (note k i s) := .updLane h.toResting h.state
theorem Parked.noteIf (h : Parked k s) (b : Bool) (i : BitVec 7) : Parked k (if b then Machine.note k i s else s) := by
  split
  · exact h.note i
  · exact h
theorem Parked.updCtx (h : Parked k s) (f : StepCtx → StepCtx) : Parked k (updCtx k f s) := .updLane h.toResting h.state
theorem Parked.updLoad (h : Parked k s) (f : Load → Load) : Parked k (updLoad k f s) := h.of_same rfl rfl rfl
theorem Parked.computeSweep (h : Parked k s) : Parked k (computeSweep k s) := by
  refine h.of_same (by simp) (by simp) ?_
  unfold Machine.computeSweep; split
  · rfl
  · simp [-Fin.getElem_fin, setSweep]
theorem Parked.loadStep (h : Parked k s) (r : StepRec) (c : CurStep) : Parked k (loadStep k r c s) := by
  unfold Machine.loadStep; split
  · exact h
  · exact Parked.updLoad (.updLane h.toResting h.state) _
theorem Parked.enterIdle (h : Parked k s) (r : Result) : Fit p q k (enterIdle k r s) :=
  fit_enterIdle (resting_leaveList h.toResting) r

/-- A complete step: the track ends, the lane dwells or pauses, or the next step is loaded (R80). -/
theorem fit_completeStep (h : Parked k s) (o : Option PendingOrder) (c : StepCtx) : Fit p q k (completeStep k o c s) := by
  have counted : Parked k (Machine.updLane k (fun r => { r with stepsCompleted := r.stepsCompleted + 1 }) s) :=
    .updLane h.toResting h.state
  have dwell : ∀ t, Parked k t → Fit p q k (Machine.updLane k (fun r => { r.leaving with
      state := .dwell, dwellTimer := some (c.step.dwell * 10) }) t) := fun t ht => (Parked.updLane ht.toResting rfl).fit
  unfold completeStep; dsimp only; split
  · exact counted.enterIdle _
  · split
    · split
      · exact counted.enterIdle _
      · split
        · exact (parked_enterPaused (counted.updCtx _).toResting _ _).fit
        · exact dwell _ (counted.updCtx _)
    · next n _ =>
      have loaded := fun zs => parked_release (counted.loadStep (s.ram.steps[n]) (.stored n)).computeSweep zs
      simp only [updLane_ram]
      split
      · exact (parked_enterPaused (loaded _).toResting _ _).fit
      · split
        · exact dwell _ (loaded _)
        · split
          · exact (parked_enterWaitAdvance (loaded _).toResting).fit
          · exact fit_claimAtNext (loaded _).toResting fun _ => (loaded _).fit

theorem fit_homingEnd (h : Parked k s) (o : Option PendingOrder) (c : StepCtx) : Fit p q k (homingEnd k o c s) := by
  have pre := fun (b : Bool) (f : StepCtx → StepCtx) (g : Load → Load) =>
    (((h.noteIf b incClamped).updCtx f).updLoad g).computeSweep
  unfold homingEnd; dsimp only; split
  · exact (pre _ _ _).enterIdle _
  · exact (parked_enterPaused (pre _ _ _).toResting _ _).fit
  · exact fit_claimAtNext (pre _ _ _).toResting fun _ => (pre _ _ _).fit

theorem Parked.adapt (h : Parked k s) (a : ActId) : Parked k (adapt k a s) := by
  unfold Machine.adapt; dsimp only; split
  · split
    · exact h.of_same rfl rfl rfl
    · exact h.of_same rfl rfl rfl
  · exact h

theorem fit_stepEnd (h : Parked k s) (o : Option PendingOrder) (c : StepCtx) : Fit p q k (stepEnd k o c s) := by
  have a : Parked k (if c.motion = .step then Machine.adapt k c.act s else s) := by
    split
    · exact h.adapt _
    · exact h
  unfold stepEnd; dsimp only
  generalize (if c.motion = .step then Machine.adapt k c.act s else s) = t at a ⊢
  split
  · exact fit_completeStep a _ _
  · split
    · exact fit_completeStep (a.note _) _ _
    · generalize meets _ (guardLostZones t) = g
      have b := a.noteIf g incGuardLost
      generalize (if g = true then Machine.note k incGuardLost t else t) = u at b ⊢
      split
      · split
        · exact (b.updCtx _).enterIdle _
        · exact (parked_enterPaused (b.updCtx _).toResting _ _).fit
        · exact fit_armingDecision (b.updCtx _).toResting fun _ => (b.updCtx _).fit
      · exact fit_completeStep (b.note _) _ _

theorem fit_learnNext (h : Parked k s) (o : Option PendingOrder) : Fit p q k (learnNext k o s) := by
  unfold learnNext; split
  · exact h.enterIdle _
  · exact (parked_enterPaused h.toResting _ _).fit
  · exact fit_armingDecision h.toResting fun _ => h.fit

theorem Parked.storeLearned (h : Parked k s) (a : ActId) (lr : LearnRec) (t : Nat) :
    Parked k (storeLearned k a lr t s) := by
  unfold Machine.storeLearned; extract_lets _ pos _ _ r0 u r v w x
  have placed : Parked k v :=
    h.of_same (by simp [v, u, r0]) (by simp [v, u, r0]) (by simp [-Fin.getElem_fin, v, u, r0])
  exact ((placed.noteIf _ _).updCtx _).updLoad _

theorem AllFit.learnEnd (a : AllFit p q s) (h : Parked k s) (o : Option PendingOrder) (c : StepCtx) :
    AllFit p q (learnEnd k o c s) := by
  unfold Machine.learnEnd; split
  · exact a
  · split
    · exact a.single (((moves_updCtx s (just k) _).tail (.load _ k (just k) _)).trans (moves_learnNext _ (just k) _))
        (fit_learnNext ((h.updCtx _).updLoad _) _) h.busy
    · dsimp only; split
      · exact a.single ((moves_storeLearned s (just k) _ _ _).trans (moves_learnNext _ (just k) _))
          (fit_learnNext (h.storeLearned _ _ _) _) h.busy
      · exact a.enterFaulted (Move.log ..).one h.busy (h.toResting.of_same (by simp) (by simp)) _
    · dsimp only
      have b := moves_noteUnless s (just k)
        (s.acts[c.act].position - c.pt + (c.pt - s.acts[c.act].position) ≤ tolerance) incOffTarget
      have parked : Parked k (if s.acts[c.act].position - c.pt + (c.pt - s.acts[c.act].position) ≤ tolerance then s
          else Machine.note k incOffTarget s) := by
        split
        · exact h
        · exact h.note _
      generalize (if s.acts[c.act].position - c.pt + (c.pt - s.acts[c.act].position) ≤ tolerance then s
        else Machine.note k incOffTarget s) = t at b parked ⊢
      have counted : Parked k (Machine.updLane k (fun x => { x with stepsCompleted := 1 }) t) :=
        .updLane parked.toResting parked.state
      have e := fun r => a.single ((b.tail (.lane t k (just k) fun x => { x with stepsCompleted := 1 })).trans
        (moves_enterIdle _ (just k) r)) (counted.enterIdle r) h.busy
      split
      · exact e _
      · exact e _

theorem AllFit.settlingEnd (a : AllFit p q s) (h : Parked k s) : AllFit p q (settlingEnd k s) := by
  unfold Machine.settlingEnd; dsimp only; split
  · exact a
  · split
    · exact a.single (moves_homingEnd s (just k) _ _) (fit_homingEnd h _ _) h.busy
    iterate 3 exact a.single (moves_stepEnd s (just k) _ _) (fit_stepEnd h _ _) h.busy
    iterate 3 exact a.learnEnd h _ _

theorem fit_stoppingEnd (h : Parked k s) : Fit p q k (stoppingEnd k s) := by
  unfold stoppingEnd; split
  · exact h.enterIdle _
  · exact (parked_enterPaused h.toResting _ _).fit
  · exact (parked_enterFenced h.toResting).fit
  · exact h.fit

/-- The capture and the open relay at the end of a 50 ms brake leave a parked lane parked (R124). -/
theorem Parked.openRelay (h : Parked k s) : Parked k (openRelay k s) := ⟨resting_openRelay h.list, h.state⟩

theorem AllFit.brakeEnd (a : AllFit p q s) (h : s.drives[k].phase = .braking) : AllFit p q (brakeEnd k s) := by
  have captured (hs : atHalt s.lanes[k].state = true) : Parked k (Machine.openRelay k (match s.drives[k].connected with
      | some a => capture a s
      | none => s)) := by
    have parked := (a.lane k).parked hs
    split
    · exact Parked.openRelay (parked.of_same rfl rfl rfl)
    · exact parked.openRelay
  have moves : Moves (Just k) s (Machine.openRelay k (match s.drives[k].connected with
      | some a => capture a s
      | none => s)) := by
    split
    · exact (Move.write s _ _).one.trans (moves_openRelay _ (just k))
    · exact moves_openRelay s (just k)
  have ends (hs : s.lanes[k].state = .settling ∨ s.lanes[k].state = .stopping) (u : State)
      (hu : u = Machine.openRelay k (match s.drives[k].connected with
        | some a => capture a s
        | none => s)) : AllFit p q (if s.lanes[k].state = .settling then Machine.settlingEnd k (Machine.gateEvent u)
      else stoppingEnd k (Machine.gateEvent u)) := by
    have parked : Parked k u := hu ▸ captured (by rcases hs with e | e <;> (rw [e]; rfl))
    have done := (a.single (hu ▸ moves) parked.fit (by rcases hs with e | e <;> (rw [e]; rfl))).gateEvent
    have state : u.lanes[k].state = s.lanes[k].state := by subst hu; split <;> rfl
    have after : Parked k (Machine.gateEvent u) := parked.apart
      (apart_gateEvent u (by rw [state]; rcases hs with e | e <;> (rw [e]; decide)) parked.list)
    split
    · exact done.settlingEnd after
    · exact done.single (moves_stoppingEnd _ (just k)) (fit_stoppingEnd after) after.busy
  unfold Machine.brakeEnd; dsimp only; split
  · next e => exact ends (.inl e) _ rfl
  · next e => exact ends (.inr e) _ rfl
  · have still : s.lanes[k].state ≠ .moving := fun e => by rw [(a.lane k).moving e] at h; cases h
    have opened : AllFit p q (Machine.openRelay k s) := a.of_fit rfl rfl fun j => by
      by_cases e : j = k
      · subst e; exact fit_openRelay (a.lane _) still
      · exact (moves_openRelay s (just k)).fit e (a.lane j)
    split
    · next e _ =>
      have faulted : s.lanes[k].state = .faulted := e
      have parked := (a.lane k).parked (by rw [faulted]; rfl)
      exact a.single ((moves_openRelay s (just k)).trans (moves_leaveFaulted _ (just k) _))
        (fit_leaveFaulted parked.openRelay.toResting _) parked.busy
    · exact opened

theorem fit_reversalBrakeEnd (f : Fit p q k s) (h : s.lanes[k].state = .reversing)
    (b : s.drives[k].phase = .braking) : Fit p q k (reversalBrakeEnd k s) := by
  have list := f.unlisted (by rw [h]; decide)
  unfold reversalBrakeEnd; dsimp only; split
  · split
    · unfold skipBackOff; dsimp only
      apply Parked.fit; apply parked_endBackOff
      refine ⟨list, ?_, fun _ => ?_⟩ <;> simp only [updDrive_drives, put_self]
      rw [b]; decide
    · unfold startBackOff; dsimp only
      refine fit_evaluateDrive (fit_reversing ?_ ?_ ?_)
      · simpa [Unlisted, startChannel, reportDriveStart] using list
      · simpa [-Fin.getElem_fin, startChannel, reportDriveStart] using h
      · simp [-Fin.getElem_fin, startChannel, reportDriveStart]
  · exact f

theorem AllFit.reversalBrakeEnd (a : AllFit p q s) (h : s.drives[k].phase = .braking) (r : s.drives[k].reversal = true) :
    AllFit p q (reversalBrakeEnd k s) := by
  have state := (a.lane k).reversal h r
  exact a.single (moves_reversalBrakeEnd s (just k)) (fit_reversalBrakeEnd (a.lane k) state h) (by rw [state]; rfl)

end
end Sys2Proof.Proofs
end

section
/-! The supply, the interlock, power, requests and presence events, and the invariants. -/

namespace Sys2Proof.Proofs

open Sys2Proof Sys2Proof.Machine Sys2Proof.Safety

section
variable {L : LaneId → Prop} {p q : Prop} {s t v : State} {l k : LaneId}

/-! ### Changes outside the lanes -/

/-- What the invariants speak of. -/
def groundOf (s : State) : (Vector Lane 4 × Vector Drive 4 × Vector (Option LaneId) 12 × List WaitEntry) ×
    (Bool × Bool × PowerMode) :=
  ((s.lanes, s.drives, s.holders, s.waitList), (interlock s, s.supply.low, s.power.mode))

theorem AllFit.of_same (a : AllFit p q s) (h : groundOf t = groundOf s) : AllFit p q t := by
  simp only [groundOf, Prod.mk.injEq] at h
  obtain ⟨⟨lanes, drives, holders, list⟩, lock, low, mode⟩ := h
  refine a.of_fit lanes mode fun k => (a.lane k).of_view ?_
  simp only [viewOf, lanes, drives, entries_congr list, heldBy_congr holders, lock, low]

/-- With the conditions of motion checked afresh, the rest of the invariants is enough. -/
theorem AllFit.safe (a : AllFit False q s) (h : p → ∀ k : LaneId, s.lanes[k].state = .moving → MayDrive k s) :
    AllFit p q s :=
  ⟨fun k => { a.lane k with safe := fun hp e => ⟨(h hp k e).lock, (h hp k e).supply, (h hp k e).hold⟩ }, a.asleep⟩

/-- A change of the conditions of motion alone. -/
theorem AllFit.of_ground (a : AllFit p q s)
    (h : (t.lanes, t.drives, t.holders, t.waitList, t.power.mode) = (s.lanes, s.drives, s.holders, s.waitList, s.power.mode)) :
    AllFit False q t := by
  simp only [Prod.mk.injEq] at h
  obtain ⟨lanes, drives, holders, list, mode⟩ := h
  refine (a.mono (p' := False) (q' := q) False.elim id).of_fit lanes mode fun k => ?_
  obtain ⟨making, driving, reversal, moving, listed, claiming, -, empty⟩ := a.lane k
  refine ⟨?_, ?_, ?_, ?_, ?_, ?_, nofun, ?_⟩ <;>
    simp only [lanes, drives, entries_congr list, heldBy_congr holders] <;> assumption

theorem AllFit.mayDrive (a : AllFit p q s) (hp : p) (h : s.lanes[k].state = .moving) : MayDrive k s := by
  obtain ⟨lock, low, hold⟩ := (a.lane k).safe hp h
  exact ⟨lock, low, hold⟩

/-! ### Events that stop every lane in MOVING (R88) -/

theorem Moves.not_moving (m : Moves L s t) (hl : ¬ L k) (n : s.lanes[k].state ≠ .moving) : t.lanes[k].state ≠ .moving := by
  rcases (m.left hl).state with e | e <;> rw [e]
  · exact n
  · decide

theorem foldl_unmoving {f : State → LaneId → State} (hf : Safely f) (stops : ∀ s k, (f s k).lanes[k].state ≠ .moving)
    (ks : List LaneId) (h : k ∈ ks ∨ s.lanes[k].state ≠ .moving) : (ks.foldl f s).lanes[k].state ≠ .moving := by
  induction ks generalizing s with
  | nil => exact h.resolve_left List.not_mem_nil
  | cons x ks ih =>
    refine ih ?_
    by_cases e : k = x
    · exact .inr (e ▸ stops s x)
    · rcases h with h | h
      · exact .inl ((List.mem_cons.1 h).resolve_left e)
      · exact .inr ((hf.moves s x).not_moving e h)

theorem interlockLost_stops (s : State) (k : LaneId) : (interlockLost s k).lanes[k].state ≠ .moving := by
  unfold interlockLost; split
  · simp [-Fin.getElem_fin]
  · assumption

theorem supplyLowOnset_stops (s : State) (k : LaneId) : (supplyLowOnset s k).lanes[k].state ≠ .moving := by
  unfold supplyLowOnset; split
  · simp [-Fin.getElem_fin]
  · simp [-Fin.getElem_fin]
  · assumption

/-- An event that stops every lane in MOVING restores the conditions of motion. -/
theorem AllFit.stopAll {f : State → LaneId → State} (a : AllFit False q s) (hf : Safely f)
    (stops : ∀ s k, (f s k).lanes[k].state ≠ .moving) : AllFit p q (allLanes.foldl f s) :=
  (a.each hf allLanes).safe fun _ k e => absurd e (foldl_unmoving hf stops allLanes (.inl (mem_allLanes k)))

theorem AllFit.measure (a : AllFit p q s) (mv : Nat) : AllFit p q (measure mv s) := by
  unfold Machine.measure; dsimp only; split
  · split
    · refine AllFit.stopAll (AllFit.moves ?_ (moves_mark _ .general)) safely_supplyLowOnset supplyLowOnset_stops
      exact a.of_ground rfl
    · exact a.of_same rfl
  · refine AllFit.moves ?_ (moves_markIf _ _ .general)
    refine AllFit.safe (a.of_ground rfl) fun hp k e => ?_
    exact ⟨(a.mayDrive hp e).lock, rfl, (a.mayDrive hp e).hold⟩

/-- The reaction to a change of the interlock: `before` is its value when the lanes were last safe (R88, R182). -/
theorem AllFit.interlockEvent {before : Bool} (a : AllFit False q s)
    (h : p → ∀ k : LaneId, s.lanes[k].state = .moving → before = true ∧ s.supply.low = false ∧
      (s.lanes[k].mode = some .hold → s.lanes[k].lapseTimer.isSome = true)) : AllFit p q (interlockEvent before s) := by
  unfold Machine.interlockEvent; dsimp only
  refine AllFit.moves ?_ (moves_markIf _ _ .general)
  split
  · exact a.stopAll safely_interlockLost interlockLost_stops
  · next n =>
    refine a.safe fun hp k e => ?_
    obtain ⟨was, low, hold⟩ := h hp k e
    exact ⟨by simpa [was] using n, low, hold⟩

/-! ### Power -/

theorem AllFit.sleepEntry (a : AllFit p q s) (h : s.power.mode = .doze) : AllFit p q (sleepEntry s) :=
  ⟨fun k => (a.lane k).of_view rfl, fun hq _ => a.asleep hq (by rw [h]; decide)⟩

theorem AllFit.requestSleep (a : AllFit p q s) : AllFit p q (requestSleep s) := by
  unfold Machine.requestSleep; split
  · exact a
  · next h =>
    rw [ne_eq, not_not] at h
    split
    · exact a.of_same rfl
    · exact a.sleepEntry h

theorem AllFit.sleepIfWaiting (a : AllFit p q s) : AllFit p q (sleepIfWaiting s) := by
  unfold Machine.sleepIfWaiting; split
  · next h =>
    simp only [Bool.and_eq_true, decide_eq_true_eq] at h
    exact a.sleepEntry h.2
  · exact a

theorem AllFit.takeVehicleState (a : AllFit p q s) (x : VehicleState) : AllFit p q (takeVehicleState x s) := by
  unfold Machine.takeVehicleState; dsimp only
  generalize hu : Machine.interlockEvent _ _ = u
  have e : AllFit p q u := by
    subst hu
    refine AllFit.interlockEvent (a.of_ground rfl) fun hp k e => ?_
    exact ⟨(a.mayDrive hp e).lock, (a.mayDrive hp e).supply, (a.mayDrive hp e).hold⟩
  have f : AllFit p q (if 5 < x.speed && !u.vehicle.freeze then
      mark .general { u with vehicle := { u.vehicle with freeze := true } } else u) := by
    split
    · refine AllFit.moves ?_ (moves_mark _ .general)
      exact e.of_same rfl
    · exact e
  split
  · exact f.requestSleep
  · exact f

theorem AllFit.enterDoze (a : AllFit p q s) (h : allIdle s = true) : AllFit p q (enterDoze s) := by
  have dozing : AllFit p q (mark .general { s with
      power := { s.power with mode := .doze, dozeTimer := none }
      presence := { s.presence with roundTimer := s.presence.roundTimer.map fun _ => roundDoze } }) := by
    refine AllFit.moves ?_ (moves_mark _ .general)
    exact ⟨fun k => (a.lane k).of_view rfl, fun _ _ => h⟩
  unfold Machine.enterDoze; dsimp only; split
  · exact dozing.requestSleep
  · exact dozing

/-- Lanes, channels and the wait list at their restart values (R98, R133). -/
theorem allFit_restart (lanes : s.lanes = tab fun _ => Lane.restart) (drives : s.drives = tab fun _ => Drive.restart)
    (list : s.waitList = []) (mode : s.power.mode = .active) : AllFit p q s := by
  refine ⟨fun k => ?_, fun _ h => absurd mode h⟩
  have lane : s.lanes[k] = Lane.restart := by rw [lanes, tab_get]
  have drive : s.drives[k] = Drive.restart := by rw [drives, tab_get]
  have rest : Resting k s := ⟨⟨by rw [Unlisted, list]; exact fun _ => nofun, by rw [drive]; decide, by rw [drive]; exact nofun⟩,
    by rw [drive]; decide⟩
  exact rest.fit (by rw [lane]; decide) (by rw [lane]; decide) fun _ _ => by rw [lane]; rfl

/-- A restart with the supply at or above 6.0 V takes the restart values and measures the supply once (R184, R192). -/
theorem restartPart_loading (c : Cause) (h : ¬ s.supply.pin < brownoutSupply) :
    ∃ x, restartPart c s = { restartValues s with startUp := .loading c, supply := x } := by
  obtain ⟨x, e⟩ := measure_first (s := { restartValues s with startUp := .loading c }) (restartValues s).supply.pin rfl rfl
  unfold restartPart; dsimp only
  exact ⟨_, (if_neg h).trans (by rw [e])⟩

theorem allFit_restartPart (c : Cause) (s : State) : AllFit p q (restartPart c s) := by
  by_cases h : s.supply.pin < brownoutSupply
  · have e : restartPart c s = { restartValues s with startUp := .held c } := by
      unfold restartPart; dsimp only; exact if_pos h
    rw [e]; exact allFit_restart rfl rfl rfl rfl
  · obtain ⟨x, e⟩ := restartPart_loading c h
    rw [e]; exact allFit_restart rfl rfl rfl rfl

/-- A part in SLEEP has no lane at work, so that the wake finds no lane in motion (R190, R191). -/
theorem AllFit.wake (a : AllFit p p s) (h : s.power.mode = .sleep) : AllFit p p (wake s) := by
  have still (hp : p) (k : LaneId) : s.lanes[k].state ≠ .moving := fun e => by
    have idle := allIdle_iff.1 (a.asleep hp (by rw [h]; decide)) k
    rw [e] at idle; cases idle
  unfold Machine.wake; dsimp only
  generalize hu : mark .general _ = u
  have woken : AllFit p p u := by
    subst hu
    refine AllFit.moves ⟨fun k => ?_, fun _ e => absurd rfl e⟩ (moves_mark _ .general)
    exact { a.lane k with safe := fun hp e => absurd e (still hp k) }
  split
  · exact allFit_restartPart _ _
  · exact (woken.measure _).of_same rfl

theorem AllFit.passTime (a : AllFit p q s) (ms : Nat) : AllFit p q (passTime ms s) := by
  have state (k : LaneId) : (Machine.passTime ms s).lanes[k].state = s.lanes[k].state := by
    simp [-Fin.getElem_fin, Machine.passTime, Lane.elapsed]
  refine ⟨fun k => (a.lane k).of_view ?_, fun hq hm => ?_⟩
  · have list : entries k (Machine.passTime ms s) = entries k s :=
      (entries_congr rfl).trans (entries_map (fun e => { e with yieldTimer := elapse ms e.yieldTimer }) fun _ => rfl)
    have lock : interlock (Machine.passTime ms s) = interlock s := rfl
    simp only [viewOf, state, list, lock]
    simp [-Fin.getElem_fin, Machine.passTime, Lane.elapsed, Drive.elapsed, elapse, heldBy]
  · have idle := a.asleep hq hm
    rw [allIdle_iff] at idle ⊢
    exact fun k => by rw [state]; exact idle k

end
end Sys2Proof.Proofs
end

section
/-! Requests, service frames, presence events and every command, and the invariants. -/

namespace Sys2Proof.Proofs

open Sys2Proof Sys2Proof.Machine Sys2Proof.Safety

section
variable {L : LaneId → Prop} {p q : Prop} {s t v : State} {l k : LaneId}

/-! ### Acceptance -/

theorem fit_bindAll (f : Fit p q k s) (as : List ActId) : Fit p q k (bindAll l as s) := by
  have same := surr_of_outer (outer_bindAll s l as)
  exact f.spared (.of (apart_bindAll s as) (by simp)) (entries_congr (bindAll_waitList l as s)) (vehicle_of_surr same)
    (low_of_surr same)

/-- The record of an acceptance keeps every lane fitting: its hold, if it needs one, is current (R55, R84). -/
theorem fit_startRecord (f : Fit p q k s) (st : Station) (tag : Byte) (mode : AdvanceMode) (down : Bool)
    (partner : Option LaneId) (x : Track) : Fit p q k (startRecord st tag mode down partner x l s) := by
  have bound : Fit p q k (bindAll l x.acts s) := fit_bindAll f x.acts
  unfold startRecord; dsimp only
  by_cases e : k = l
  · subst e
    exact bound.updLane rfl rfl fun _ _ h => by rw [if_pos (Option.some.inj h)]; rfl
  · exact (Move.lane _ l (just l) _).fit e bound

/-- A lane that is IDLE takes its first step (R55, R72). -/
theorem fit_takeFirst (f : Fit p q k s) (h : s.lanes[k].state = .idle) (x : Track) : Fit p q k (takeFirst k x s) := by
  have rest := f.resting (.inl (by rw [h]; rfl))
  unfold takeFirst; split
  · next rec cur _ =>
    have loaded : Resting k (loadStep k rec cur s) := rest.of_same (by simp) (by simp)
    have none_same (e : (loadStep k rec cur s).lanes[k].ctx = none) : loadStep k rec cur s = s := by
      unfold loadStep at e ⊢; split at e
      · rfl
      · simp [-Fin.getElem_fin] at e
    unfold takeFirstStep; dsimp only; split
    · exact fit_claim loaded fun e => by rw [none_same e]; exact f
    · exact (parked_enterWaitGate loaded).fit
  · next a _ _ _ =>
    unfold takeLearn; dsimp only
    exact fit_claim (rest.of_same (by simp) (by simp)) fun e => by simp [-Fin.getElem_fin] at e
  · exact f

theorem recordAll_fits (st : Station) (tag : Byte) (mode : AdvanceMode) (down : Bool) (ls : List LaneId)
    (pairs : List (Track × LaneId)) (h : ∀ k, Fit p q k s) (k : LaneId) :
    Fit p q k (recordAll st tag mode down ls pairs s) := by
  unfold recordAll
  induction pairs generalizing s with
  | nil => exact h k
  | cons x xs ih => exact ih fun k => fit_startRecord (h k) st tag mode down _ _

theorem recordAll_state (st : Station) (tag : Byte) (mode : AdvanceMode) (down : Bool) (ls : List LaneId)
    (pairs : List (Track × LaneId)) (k : LaneId) :
    (recordAll st tag mode down ls pairs s).lanes[k].state = s.lanes[k].state := by
  unfold recordAll
  induction pairs generalizing s with
  | nil => rfl
  | cons x xs ih =>
    rw [List.foldl_cons, ih, startRecord_lane]
    split
    · rfl
    · rfl

/-- Lanes that are IDLE and distinct take their first steps one after another. -/
theorem takeAll_fits {pairs : List (Track × LaneId)} (distinct : pairs.Pairwise fun x y => x.2 ≠ y.2)
    (h : ∀ k, Fit p q k s) (idle : ∀ x ∈ pairs, s.lanes[x.2].state = .idle) (k : LaneId) :
    Fit p q k (takeAll pairs s) := by
  unfold takeAll
  induction pairs generalizing s with
  | nil => exact h k
  | cons x xs ih =>
    rw [List.pairwise_cons] at distinct
    have here := idle x (List.mem_cons_self ..)
    have m := moves_takeFirst s (just x.2) x.1
    refine ih distinct.2 (fun k => ?_) fun y hy => ?_
    · by_cases e : k = x.2
      · subst e; exact fit_takeFirst (h _) here x.1
      · exact m.fit e (h k)
    · have waits := idle y (List.mem_cons_of_mem _ hy)
      have list := (h y.2).unlisted (by rw [waits]; decide)
      rw [(m.spared (Ne.symm (distinct.1 y hy)) list).apart.state]; exact waits

/-- The acceptance of a request: its lanes are IDLE, each takes its first step, and the reply makes the part ACTIVE
(R55, R187). -/
theorem AllFit.accept (a : AllFit p q s) (st : Station) (tag : Byte) (run : RunReq) (ts : List Track) :
    AllFit p q (accept st tag run ts s) := by
  rw [accept_eq]
  have le : ((idleLanes s).take ts.length).length ≤ ts.length := List.length_take_le ..
  have distinct : (ts.zip ((idleLanes s).take ts.length)).Pairwise fun x y => x.2 ≠ y.2 := by
    rw [← List.pairwise_map (f := Prod.snd) (R := (· ≠ ·)), List.map_snd_zip le]
    exact ((by decide : allLanes.Nodup).filter _).sublist (List.take_sublist ..)
  have idle : ∀ x ∈ ts.zip ((idleLanes s).take ts.length), s.lanes[x.2].state = .idle := fun x hx =>
    (mem_idleLanes s).1 (List.mem_of_mem_take (List.of_mem_zip hx).2)
  have started := takeAll_fits (p := p) (q := q) distinct (s := quickenPeriod (recordAll st tag (runMode s run).1
    (runMode s run).2 ((idleLanes s).take ts.length) (ts.zip ((idleLanes s).take ts.length)) s))
    (fun k => (moves_quickenPeriod (L := fun _ => False) _).fit id (recordAll_fits st tag _ _ _ _ a.lane k))
    fun x hx => by rw [quickenPeriod_lanes, recordAll_state]; exact idle x hx
  refine ⟨fun k => (Move.reply (L := fun _ => False) ..).fit id (started k), fun _ h => absurd ?_ h⟩
  unfold reply; dsimp only; rw [if_pos rfl]; exact activate_mode _

/-! ### Requests -/

theorem AllFit.refuse (a : AllFit p q s) (st : Station) (tag kind : Byte) (o : Option ReqObject) (x : Verdict) :
    AllFit p q (refuse st tag kind o x s) := a.moves (moves_refuse _ _ _ _ _ _)

theorem AllFit.reply (a : AllFit p q s) (st : Station) (tag kind : Byte) (o : Option ReqObject) (x : Verdict)
    (ls : LaneSet) (h c : Bool) : AllFit p q (reply st tag kind o x ls h c s) := a.moves (Move.reply ..).one

theorem AllFit.settlePreempt (a : AllFit p q s) : AllFit p q (settlePreempt s) := by
  unfold Machine.settlePreempt; split
  · exact a
  · split
    · have tuned := (a.moves (Move.slot s none).one).tryTune
      dsimp only; split
      · exact tuned.refuse ..
      · exact tuned.refuse ..
      · exact tuned.accept ..
    · exact a

theorem AllFit.finish (a : AllFit p q s) : AllFit p q (finish s) := a.settlePreempt.tryTune

theorem AllFit.preempt (a : AllFit p q s) (st : Station) (tag : Byte) (run : RunReq) (acts : ActSet) :
    AllFit p q (preempt st tag run acts s) := by
  have cancelled := a.deliver (safely_cancelLane .preempted) (lanesBound s acts)
  unfold Machine.preempt; dsimp only
  exact AllFit.refuse ((cancelled.moves (moves_supersede _)).moves (Move.slot _ _).one) ..

theorem AllFit.serveRun (a : AllFit p q s) (st : Station) (kind : Byte) (body : List Byte) :
    AllFit p q (serveRun st kind body s) := by
  unfold Machine.serveRun; split
  · exact a.refuse ..
  · dsimp only; split
    · exact a.refuse ..
    · split
      · exact (a.preempt ..).finish
      · exact a.refuse ..
    · exact (a.accept ..).tryTune

theorem AllFit.serveHalt (a : AllFit p q s) (st : Station) (body : List Byte) : AllFit p q (serveHalt st body s) := by
  have halted : ∀ (drops : Bool) (ls : LaneSet), AllFit p q (Machine.deliver (fun l => haltLane l .halted) ls
      (if drops then supersede s else s)) := by
    intro drops ls
    refine AllFit.deliver ?_ (safely_haltLane .halted) ls
    split
    · exact a.moves (moves_supersede s)
    · exact a
  unfold Machine.serveHalt; dsimp only; split
  · exact a.refuse ..
  · split
    · exact a.refuse ..
    · split
      · exact ((halted _ _).reply ..).tryTune
      · exact (halted _ _).refuse ..

theorem AllFit.serveResume (a : AllFit p q s) (st : Station) (body : List Byte) : AllFit p q (serveResume st body s) := by
  unfold Machine.serveResume; dsimp only; (repeat' split)
  iterate 5 exact a.refuse ..
  exact ((a.reply ..).deliver safely_resumeLane _).finish

theorem AllFit.serveCancel (a : AllFit p q s) (st : Station) (body : List Byte) : AllFit p q (serveCancel st body s) := by
  unfold Machine.serveCancel; dsimp only; (repeat' split)
  iterate 3 exact a.refuse ..
  exact ((a.reply ..).deliver (safely_cancelLane .cancelled) _).finish

theorem AllFit.serveClearFault (a : AllFit p q s) (st : Station) (body : List Byte) :
    AllFit p q (serveClearFault st body s) := by
  unfold Machine.serveClearFault; dsimp only; (repeat' split)
  iterate 3 exact a.refuse ..
  exact ((a.reply ..).deliver (safely_clearFaultLane .faulted) _).finish

theorem AllFit.serveAckRestart (a : AllFit p q s) (st : Station) (body : List Byte) :
    AllFit p q (serveAckRestart st body s) := by
  unfold Machine.serveAckRestart; dsimp only; (repeat' split)
  iterate 3 exact a.refuse ..
  refine AllFit.reply (AllFit.moves ?_ (moves_mark _ .general)) ..
  exact a.of_same rfl

theorem AllFit.serveHold (a : AllFit p q s) (st : Station) (body : List Byte) : AllFit p q (serveHold st body s) := by
  unfold Machine.serveHold; dsimp only; (repeat' split)
  · exact a
  · exact (a.deliver safely_holdLane _).tryTune
  · exact a

theorem AllFit.serveRequest (a : AllFit p q s) (st : Station) (kind : Byte) (body : List Byte) :
    AllFit p q (serveRequest st kind body s) := by
  unfold Machine.serveRequest; (repeat' split)
  · exact a.serveRun ..
  · exact a.serveHold ..
  · exact a.serveHalt ..
  · exact a.serveResume ..
  · exact a.serveCancel ..
  · exact a.serveClearFault ..
  · exact a.serveAckRestart ..
  · exact a.refuse ..

theorem AllFit.busTraffic (a : AllFit p q s) : AllFit p q (busTraffic s) := a.of_same rfl

/-- A received request keeps the invariants when serving it does. -/
theorem AllFit.receiveRequest (a : AllFit p p s) (st : Station) (kind : Byte) (body : List Byte)
    {serve : State → State} (h : ∀ s, AllFit p p s → AllFit p p (serve s)) :
    AllFit p p (receiveRequest st kind body serve s) := by
  unfold Machine.receiveRequest; dsimp only; split
  · next asleep =>
    split
    · exact (a.wake asleep).of_same rfl
    · exact a.wake asleep
  · split
    · exact h _ a.busTraffic
    · exact a.busTraffic.refuse ..

/-! ### The service operations -/

theorem AllFit.serveService (a : AllFit p q s) (op : Byte) (body : List Byte) : AllFit p q (serveService op body s) := by
  have answer (op tag : Byte) (x : Verdict) : AllFit p q (serviceAnswer op tag x s) := a.of_same rfl
  have reply (op tag : Byte) (x : Verdict) (b : Bool) (w : BitVec 16) : AllFit p q (serviceReply op tag x b w s) := a.of_same rfl
  have begun (x : SvcOp) : AllFit p q (beginService x s) := a.of_same rfl
  have restart : AllFit p q (serveRestart body s) := by
    unfold Machine.serveRestart; dsimp only; split
    · exact answer ..
    · exact allFit_restartPart _ _
  unfold Machine.serveService; (repeat' split)
  · unfold serveRead; dsimp only; (repeat' split)
    iterate 2 exact answer ..
    iterate 2 exact reply ..
    exact answer ..
  · unfold serveWrite; dsimp only; (repeat' split)
    iterate 5 exact answer ..
    exact begun _
  · unfold serveClearLog; dsimp only; (repeat' split)
    iterate 2 exact answer ..
    exact begun _
  · unfold serveFactoryProfile; dsimp only; (repeat' split)
    iterate 3 exact answer ..
    exact begun _
  · exact restart
  · exact answer ..

theorem AllFit.receiveService (a : AllFit p p s) (op : Byte) (body : List Byte) {serve : State → State}
    (h : ∀ s, AllFit p p s → AllFit p p (serve s)) : AllFit p p (receiveService op body serve s) := by
  unfold Machine.receiveService; dsimp only; split
  · next asleep =>
    split
    · exact (a.wake asleep).of_same rfl
    · exact a.wake asleep
  · split
    · exact h _ a.busTraffic
    · exact a.busTraffic.of_same rfl

theorem AllFit.beginSeeding (a : AllFit p q s) (c : ChanId) : AllFit p q (beginSeeding c s) :=
  a.of_same (by simp [groundOf, interlock])

theorem AllFit.driftTest (a : AllFit p q s) (c : ChanId) : AllFit p q (driftTest c s) :=
  a.of_same (by simp [groundOf, interlock])

theorem AllFit.setGuardLost (a : AllFit p q s) (c : ChanId) (x : Bool) : AllFit p q (setGuardLost c x s) := by
  unfold Machine.setGuardLost
  refine AllFit.moves ?_ (moves_markIf _ _ .general)
  exact a.of_same rfl

theorem AllFit.unreference (b : AllFit p q s) (a : ActId) (n : Nat) : AllFit p q (unreference a n s) := by
  unfold Machine.unreference; dsimp only
  refine AllFit.gateEvent (AllFit.moves (AllFit.moves ?_ (moves_markIf _ _ _)) (moves_markIf _ _ _))
  exact b.of_same rfl

theorem AllFit.writeConsequences (a : AllFit p q s) (u : State) (f : FieldRef) : AllFit p q (writeConsequences u f s) := by
  unfold Machine.writeConsequences; split
  · exact a.unreference ..
  · exact a.unreference ..
  · exact a.fenceEvent ..
  · exact ((a.setGuardLost _ _).beginSeeding _).handOn _ _
  · exact a.driftTest _
  · exact a

theorem AllFit.completeWrite (a : AllFit p q s) (tag : Byte) (f : FieldRef) (x : BitVec 16) :
    AllFit p q (completeWrite tag f x s) := by
  unfold Machine.completeWrite; dsimp only; split
  · exact AllFit.sleepIfWaiting (a.of_same rfl)
  · split
    · exact AllFit.sleepIfWaiting (a.of_same rfl)
    · refine (AllFit.writeConsequences ?_ _ _).tryTune.sleepIfWaiting
      exact a.of_same rfl

theorem AllFit.completeClearLog (a : AllFit p q s) (tag : Byte) : AllFit p q (completeClearLog tag s) := by
  unfold Machine.completeClearLog; dsimp only; split
  · exact AllFit.sleepIfWaiting (a.of_same rfl)
  · exact AllFit.sleepIfWaiting (a.of_same rfl)

theorem AllFit.completeFactoryProfile (b : AllFit p q s) (tag : Byte) (a : ActId) :
    AllFit p q (completeFactoryProfile tag a s) := by
  unfold Machine.completeFactoryProfile; dsimp only; split
  · exact AllFit.sleepIfWaiting (b.of_same rfl)
  · exact AllFit.sleepIfWaiting (b.of_same rfl)

/-! ### Presence events and the start-up -/

theorem AllFit.seedAll (a : AllFit p q s) (x : FenceView) : AllFit p q (seedAll x s) := by
  refine AllFit.handOnAll (AllFit.foldl (fun _ c b => b.beginSeeding c) _ ?_) _ _
  exact a.of_same rfl

theorem AllFit.sampleRound (a : AllFit p q s) (counts : Vector (BitVec 16) 12) : AllFit p q (sampleRound counts s) := by
  unfold Machine.sampleRound; dsimp only
  refine AllFit.handOnAll (AllFit.foldl (fun s c b => ?_) _ ?_) _ _
  case refine_2 => exact a.of_same rfl
  unfold workChannel; dsimp only; split
  · exact b.of_same rfl
  · exact b.of_same rfl
  iterate 3
    refine AllFit.of_same (AllFit.driftTest ?_ c) rfl
    exact b.of_same rfl

theorem AllFit.tuneFailure (a : AllFit p q s) (c : ChanId) : AllFit p q (tuneFailure c s) := by
  refine (AllFit.beginSeeding (AllFit.setGuardLost ?_ _ _) _).handOn _ _
  exact a.of_same rfl

theorem AllFit.tuneSuccess (a : AllFit p q s) (c : ChanId) (g n : Nat) : AllFit p q (tuneSuccess c g n s) := by
  refine (AllFit.driftTest (AllFit.setGuardLost ?_ _ _) _).handOn _ _
  exact a.of_same rfl

theorem AllFit.trialEnd (a : AllFit p q s) (x : Tune) : AllFit p q (trialEnd x s) := by
  unfold Machine.trialEnd; dsimp only; split
  · exact a.of_same rfl
  · split
    · split
      · exact a.tuneSuccess ..
      · exact a.tuneFailure _
    · exact a.tuneFailure _

theorem AllFit.reseed (a : AllFit p q s) (c : ChanId) : AllFit p q (reseed c s) := by
  refine AllFit.handOn (AllFit.moves ?_ (moves_mark _ .general)) _ _
  exact a.of_same rfl

theorem AllFit.manualPulse (b : AllFit p q s) (a : ActId) : AllFit p q (manualPulse a s) := by
  have written (f : ActRun → ActRun) {u : State} (b : AllFit p q u) : AllFit p q (updAct a f u) :=
    b.of_same (by simp [groundOf, interlock])
  unfold Machine.manualPulse; dsimp only; split
  · exact b
  · split
    · exact AllFit.gateEvent (((written _ (written _ b)).of_same rfl))
    · exact written _ b

theorem AllFit.countRestart (a : AllFit p q s) (c : Cause) (fails : Group → Bool) : AllFit p q (countRestart c fails s) := by
  unfold Machine.countRestart; dsimp only
  refine AllFit.foldl (fun s g b => ?_) _ ?_
  · split
    · exact b.of_same rfl
    · exact b
  · refine AllFit.moves ?_ (moves_mark _ .general)
    exact a.of_same rfl

theorem AllFit.sendMarked (a : AllFit p q s) (r : Reporter) : AllFit p q (sendMarked r s) := by
  have lanes : AllFit p q (allLanes.foldl (fun s l => if has r.lanes l then sendLane s l else s) s) := by
    refine AllFit.foldl (fun s x b => ?_) _ a
    split
    · exact b.of_same rfl
    · exact b
  have one : ∀ {u : State} (c : Bool) (x : Place) (f : Frame), AllFit p q u →
      AllFit p q (if c then sendFrame x f u else u) := by
    intro u c x f b; split
    · exact b.of_same rfl
    · exact b
  have three := fun f g => one r.sets .sets f (one r.positions .positions g lanes)
  unfold Machine.sendMarked; dsimp only; split
  · exact (three _ _).of_same rfl
  · exact three _ _

theorem AllFit.rampDuty (a : AllFit p q s) (k : LaneId) (n : Nat) : AllFit p q (rampDuty k n s) := by
  unfold Machine.rampDuty; split
  · exact a.updDrive k _
  · exact a

theorem AllFit.takeSample (b : AllFit p q s) (h : s.drives[k].phase = .driving) (a : ActId) (m : MotionKind)
    (reading mv : Nat) : AllFit p q (takeSample k a m reading mv s) := by
  have taken : ∀ (x : Load) (n : Nat), AllFit p q (updLoad k (fun _ => x) (Machine.updDrive k (fun d => { d with saturation := n }) s)) :=
    fun x n => by
      refine AllFit.of_same (s := Machine.updDrive k (fun d => { d with saturation := n }) s) ?_ rfl
      exact b.updDrive k _
  have phase : ∀ (x : Load) (n : Nat),
      (updLoad k (fun _ => x) (Machine.updDrive k (fun d => { d with saturation := n }) s)).drives[k].phase = .driving :=
    fun x n => by rw [updLoad_drives, updDrive_drives, put_self]; exact h
  unfold Machine.takeSample; dsimp only
  generalize (if min fullScale reading = fullScale then s.drives[k].saturation + 1 else 0) = n
  split
  · exact ((taken _ _).driveFault (phase _ _) _).measure _
  · exact (((taken _ _).reportOutcome (phase _ _) _).rampDuty _ _).measure _

/-- At the expiry of its lapse timer a MOVING lane in HOLD mode stops (R84). -/
theorem fit_holdLapse (f : Fit p q k s) : Fit p q k (if s.lanes[k].state = .moving && s.lanes[k].mode = some .hold then
    enterStopping k (.paused .holdLapsed) (updLane k (fun r => { r with lapseTimer := none }) s)
    else updLane k (fun r => { r with lapseTimer := none }) s) := by
  split
  · next h =>
    simp only [Bool.and_eq_true, decide_eq_true_eq] at h
    exact (parked_enterStopping ((f.driven (f.moving h.1)).of_same (by simp) (by simp)) _).fit
  · next h =>
    simp only [Bool.and_eq_true, decide_eq_true_eq] at h
    exact f.updLane rfl rfl fun moving _ hold => absurd ⟨moving, hold⟩ h

theorem AllFit.holdLapse (a : AllFit p q s) (k : LaneId) :
    AllFit p q (if s.lanes[k].state = .moving && s.lanes[k].mode = some .hold then
      enterStopping k (.paused .holdLapsed) (updLane k (fun r => { r with lapseTimer := none }) s)
      else updLane k (fun r => { r with lapseTimer := none }) s) := by
  have lapsed := (Move.lane s k (just k) fun r => { r with lapseTimer := none }).one
  refine a.only ?_ (fit_holdLapse (a.lane k)) fun free => ?_
  · split
    · exact lapsed.trans (moves_enterStopping _ (just k) _)
    · exact lapsed
  · split
    · next h =>
      simp only [Bool.and_eq_true, decide_eq_true_eq] at h
      rw [h.1] at free; cases free
    · have kept : (updLane k (fun r => { r with lapseTimer := none }) s).lanes[k].state = s.lanes[k].state := by
        rw [updLane_lanes, put_self]
      exact (congrArg LaneState.free kept).trans free

theorem AllFit.held (a : AllFit p q s) : AllFit p q (serveHeldService (serveHeldRequest (setReady s))) := by
  have ready : AllFit p q (setReady s) := a.of_same rfl
  have requested : AllFit p q (serveHeldRequest (setReady s)) := by
    unfold serveHeldRequest; split
    · exact ready
    · dsimp only; split
      · exact ready.of_same rfl
      · refine AllFit.serveRequest ?_ ..
        exact ready.of_same rfl
  unfold serveHeldService; split
  · exact requested
  · dsimp only; split
    · exact requested.of_same rfl
    · refine AllFit.serveService ?_ ..
      exact requested.of_same rfl

theorem AllFit.restarted (a : AllFit p q s) (c : Cause) (fails : Group → Bool) :
    AllFit p q (Machine.seedAll FenceView.clear { setReady (Machine.countRestart c fails (loadStore fails s)) with
      report := { (setReady (Machine.countRestart c fails (loadStore fails s))).report with period := some slowPeriod } }) := by
  have loaded : AllFit p q (loadStore fails s) := a.of_same rfl
  have counted := loaded.countRestart c fails
  refine AllFit.seedAll ?_ _
  exact counted.of_same rfl

/-! ### Every command -/

theorem AllFit.exec (a : AllFit p p s) (i : Instr) (h : exec i s = .next t) : AllFit p p t := by
  cases i with
  | runRecipe st body => cases h; exact a.receiveRequest _ _ _ fun _ a => a.serveRun ..
  | runStep st body => cases h; exact a.receiveRequest _ _ _ fun _ a => a.serveRun ..
  | learn st body => cases h; exact a.receiveRequest _ _ _ fun _ a => a.serveRun ..
  | hold st body =>
    cases h; split
    · next asleep => exact a.wake asleep
    · dsimp only; split
      · exact a.busTraffic.serveHold ..
      · exact a.busTraffic
  | halt st body => cases h; exact a.receiveRequest _ _ _ fun _ a => a.serveHalt ..
  | resume st body => cases h; exact a.receiveRequest _ _ _ fun _ a => a.serveResume ..
  | cancel st body => cases h; exact a.receiveRequest _ _ _ fun _ a => a.serveCancel ..
  | clearFault st body => cases h; exact a.receiveRequest _ _ _ fun _ a => a.serveClearFault ..
  | ackRestart st body => cases h; exact a.receiveRequest _ _ _ fun _ a => a.serveAckRestart ..
  | unknownKindRequest st kind body =>
    simp only [Machine.exec, execUnknownKindRequest] at h; split at h
    · cases h
    · cases h; exact a.receiveRequest _ _ _ fun _ a => a.refuse ..
  | discardedFrame ident data =>
    simp only [Machine.exec, execDiscardedFrame] at h; split at h
    · cases h; split
      · next asleep => exact a.wake asleep
      · exact a.busTraffic
    · cases h
  | vehicleState data =>
    cases h; split
    · next asleep => exact a.wake asleep
    · dsimp only; split
      · exact a.busTraffic
      · exact a.busTraffic.takeVehicleState _
  | readField body => cases h; exact a.receiveService _ _ fun _ a => a.serveService opRead _
  | writeField body => cases h; exact a.receiveService _ _ fun _ a => a.serveService opWrite _
  | clearLog body => cases h; exact a.receiveService _ _ fun _ a => a.serveService opClearLog _
  | factoryProfile body => cases h; exact a.receiveService _ _ fun _ a => a.serveService opFactoryProfile _
  | restart body => cases h; exact a.receiveService _ _ fun _ a => a.serveService opRestart _
  | unknownServiceOperation data =>
    simp only [Machine.exec, execUnknownServiceOperation] at h; split at h
    · cases h
    · split at h
      · cases h; exact a.receiveService _ _ fun _ a => a.of_same rfl
      · cases h
  | serviceWriteCompletion =>
    simp only [Machine.exec, execServiceWriteCompletion] at h; split at h <;> cases h
    · exact a.completeWrite ..
    · exact a
  | clearLogCompletion =>
    simp only [Machine.exec, execClearLogCompletion] at h; split at h <;> cases h
    · exact a.completeClearLog _
    · exact a
  | factoryProfileCompletion =>
    simp only [Machine.exec, execFactoryProfileCompletion] at h; split at h <;> cases h
    · exact a.completeFactoryProfile ..
    · exact a
  | powerOn mv =>
    simp only [Machine.exec, execPowerOn] at h; split at h <;> cases h
    exact allFit_restartPart _ _
  | brownout mv =>
    simp only [Machine.exec, execBrownout] at h; split at h <;> cases h
    exact allFit_restartPart _ _
  | resetLine => cases h; exact allFit_restartPart _ _
  | brownoutRecovery mv =>
    simp only [Machine.exec, execBrownoutRecovery] at h; split at h <;> cases h
    split
    · exact allFit_restartPart _ _
    · exact a.of_same rfl
  | wakeLine =>
    cases h; split
    · next asleep => exact a.wake asleep
    · exact a
  | storeCheckComplete damaged =>
    cases h; split
    · exact a.restarted _ _
    · exact a
  | wakeStartUpComplete =>
    cases h; split
    · dsimp only; split
      · exact (a.held.seedAll _).tryTune
      · exact a.held
    · exact a
  | hallPulse x =>
    cases h; split
    · exact a
    · exact a
    all_goals
      split
      · exact (a.countPulse x).tryTune
      · exact (a.countPulse x).tryTune
      · exact a.manualPulse x
  | loadSample l reading mv =>
    cases h; dsimp only; split
    · split
      · next d => exact (a.takeSample d ..).finish
      · exact a
    · exact a
  | blankingEnd l =>
    cases h; dsimp only; split
    · exact a.updDrive l _
    · exact a
  | stall l =>
    cases h; dsimp only; split
    · split
      · next d =>
        simp only [Bool.and_eq_true, decide_eq_true_eq] at d
        exact (a.takeStall d.1.1 ..).finish
      · exact a
    · exact a
  | relayMade l =>
    cases h; split
    · next d =>
      have stopped : AllFit p p (Machine.updDrive l (fun d => { d with makeTimer := none }) s) :=
        a.updDrive l _
      have state : s.lanes[l].state = .arming := (a.lane l).making d
      exact (stopped.single (moves_armingEnd _ (just l)) (fit_armingEnd (stopped.lane l) state)
        (by rw [show (Machine.updDrive l (fun d => { d with makeTimer := none }) s).lanes = s.lanes from rfl, state]; rfl)).tryTune
    · exact a
  | brakeEnd l =>
    cases h; dsimp only; split
    · next d =>
      simp only [Bool.and_eq_true, decide_eq_true_eq] at d
      exact (a.brakeEnd d.1).finish
    · exact a
  | reversalBrakeEnd l =>
    cases h; dsimp only; split
    · next d =>
      simp only [Bool.and_eq_true, decide_eq_true_eq] at d
      exact (a.reversalBrakeEnd d.1 d.2).tryTune
    · exact a
  | runOnEnd x =>
    cases h; split
    · exact a.moves (moves_updAct s x _ (le_refl _) rfl)
    · exact a
  | gateTimerExpiry l =>
    cases h; split
    · next d =>
      simp only [Bool.and_eq_true, decide_eq_true_eq] at d
      exact a.parked (moves_enterPaused s (just l) _ _) (by rw [d.1]; rfl) fun rest => parked_enterPaused rest _ _
    · exact a
  | claimTimerExpiry l =>
    cases h; split
    · next d =>
      simp only [Bool.and_eq_true, decide_eq_true_eq] at d
      exact (a.single ((Move.leave s l (just l)).one.trans (moves_enterPaused _ (just l) _ _))
        (parked_enterPaused ((a.lane l).resting_leaveList d.1) _ _).fit (by rw [d.1]; rfl)).tryTune
    · exact a
  | dwellTimerExpiry l =>
    cases h; split
    · next d =>
      simp only [Bool.and_eq_true, decide_eq_true_eq] at d
      have parked := (a.lane l).parked (by rw [d.1]; rfl)
      exact (a.single (moves_afterDwell s (just l)) (fit_afterDwell parked.toResting fun _ => parked.fit) parked.busy).finish
    · exact a
  | pauseTimerExpiry l =>
    cases h; split
    · next d =>
      simp only [Bool.and_eq_true, Bool.or_eq_true, decide_eq_true_eq] at d
      have parked := (a.lane l).parked (by rcases d.1 with e | e <;> (rw [e]; rfl))
      exact (a.single (moves_enterIdle s (just l) _) (parked.enterIdle _) parked.busy).finish
    · exact a
  | holdLapse l =>
    cases h; dsimp only; split
    · exact a.holdLapse l
    · exact a
  | clearTimerExpiry l =>
    cases h; dsimp only; split
    · next d =>
      simp only [Bool.and_eq_true, decide_eq_true_eq] at d
      have parked := (a.lane l).parked (by rw [d.1]; rfl)
      split
      · exact a.single (moves_enterPaused s (just l) _ _) (parked_enterPaused parked.toResting _ _).fit parked.busy
      · exact (a.single (moves_armingDecision s (just l)) (fit_armingDecision parked.toResting fun _ => parked.fit)
          parked.busy).tryTune
    · exact a
  | totalTimerExpiry l =>
    cases h; split
    · next d =>
      simp only [Bool.and_eq_true, decide_eq_true_eq] at d
      exact a.parked (moves_enterPaused s (just l) _ _) (by rw [d.1]; rfl) fun rest => parked_enterPaused rest _ _
    · exact a
  | yieldTimerExpiry l =>
    cases h; split
    · exact a
    · split
      · refine AllFit.tryTune (((a.moves (Move.relist s _ ?_).one).moves (moves_yieldTest _ _)).moves (moves_rescanned _ _))
        intro e; split <;> rfl
      · exact a
  | haltTimeout c =>
    cases h; split
    · exact (a.reseed c).tryTune
    · exact a
  | driftTimerExpiry c =>
    cases h; split
    · refine AllFit.tryTune ?_
      exact a.of_same rfl
    · exact a
  | freshnessTimerExpiry =>
    cases h; split
    · refine AllFit.interlockEvent (a.of_ground rfl) fun hp k e => ?_
      exact ⟨(a.mayDrive hp e).lock, (a.mayDrive hp e).supply, (a.mayDrive hp e).hold⟩
    · exact a
  | dozeTimerExpiry =>
    cases h; split
    · next d =>
      simp only [Bool.and_eq_true, decide_eq_true_eq] at d
      exact a.enterDoze d.1.2
    · exact a
  | silenceTimerExpiry =>
    cases h; split
    · refine AllFit.requestSleep ?_
      exact a.of_same rfl
    · exact a
  | supplyMeasurement mv =>
    cases h; split
    · exact (a.measure mv).of_same rfl
    · exact a.of_same rfl
  | presenceSampleRound counts =>
    cases h; split
    · exact (a.sampleRound counts).tryTune
    · exact a
  | seedingEnd c =>
    cases h; split
    · refine ((AllFit.driftTest ?_ c).handOn _ c).tryTune
      exact a.of_same rfl
    · exact a
  | tuneTrialEnd =>
    cases h; split
    · exact a
    · split
      · exact (a.trialEnd _).tryTune
      · exact a
  | coalescingTimerExpiry =>
    cases h; split
    · dsimp only; split
      · refine AllFit.sendMarked ?_ _
        exact a.of_same rfl
      · exact a.of_same rfl
    · exact a
  | periodTimerExpiry =>
    cases h; split
    · dsimp only; split
      · refine AllFit.sendMarked ?_ _
        exact a.of_same rfl
      · exact a.of_same rfl
    · exact a

theorem AllFit.step (a : AllFit p p s) (h : step s = .next t) : AllFit p p t := by
  unfold Machine.step at h; split at h
  · cases h; exact a.passTime _
  · next c rest _ => exact AllFit.exec (s := { s with pending := rest }) (a.of_same rfl) c h

/-- Settles O58: a lane's part of the invariant holds after every change of that lane, and every change of another lane
keeps it. -/
theorem waitListStaysTheClaimingLanes : Obligations.WaitListStaysTheClaimingLanes := fun _ _ w h =>
  waitListFits_iff.2 ((waitListFits_iff.1 w).step h)

/-- Settles O57, as O58, with the conditions of motion restored by every event that ends them. -/
theorem motionStaysSafe : Obligations.MotionStaysSafe := fun _ _ w m h =>
  (safeMotion_iff (waitListStaysTheClaimingLanes _ _ w h)).2 (((safeMotion_iff w).1 m).step h)

end
end Sys2Proof.Proofs
end

section
/-! Supply measurements and load samples, and what a supply-low onset makes of each lane (R88, R120, R129, R130, R137,
R184, R185, R206). -/

namespace Sys2Proof.Proofs

open Sys2Proof Sys2Proof.Machine Sys2Proof.Safety

section
variable {s t u : State} {l : LaneId} {a : ActId}

/-! ### A fold over the lanes, seen from one lane -/

/-- Where the work on another lane keeps `p`, a fold over the lanes leaves of `p` what the work on the lane itself makes of
a state that has it as at the start. -/
theorem foldl_allLanes_at {α : Type} (p : State → α) {f : State → LaneId → State} (l : LaneId)
    (other : ∀ s m, m ≠ l → p (f s m) = p s) (s : State) : ∃ v, p v = p s ∧ p (allLanes.foldl f s) = p (f v l) := by
  have keeps : ∀ (xs : List LaneId) (u : State), l ∉ xs → p (xs.foldl f u) = p u := by
    intro xs
    induction xs with
    | nil => exact fun _ _ => rfl
    | cons x xs ih =>
      intro u n
      rw [List.mem_cons, not_or] at n
      rw [List.foldl_cons, ih _ n.2, other _ _ (Ne.symm n.1)]
  obtain ⟨xs, ys, e⟩ := List.append_of_mem (mem_allLanes l)
  have nd : (xs ++ l :: ys).Nodup := e ▸ (by decide : allLanes.Nodup)
  rw [List.nodup_middle, List.nodup_cons, List.mem_append, not_or] at nd
  obtain ⟨⟨before, after⟩, -⟩ := nd
  refine ⟨xs.foldl f s, keeps xs s before, ?_⟩
  rw [e, List.foldl_append, List.foldl_cons, keeps ys _ after]

/-- The lane's record and its drive channel's. -/
def laneAndDrive (l : LaneId) (s : State) : Lane × Drive := (s.lanes[l], s.drives[l])

theorem laneAndDrive_eq : laneAndDrive l t = laneAndDrive l s ↔ t.lanes[l] = s.lanes[l] ∧ t.drives[l] = s.drives[l] :=
  Prod.mk_inj

theorem laneAndDrive_enterStopping {k : LaneId} (d : StopDest) (s : State) (h : l ≠ k) :
    laneAndDrive l (enterStopping k d s) = laneAndDrive l s := by
  refine laneAndDrive_eq.2 ⟨by rw [enterStopping_lanes, put_other _ h], ?_⟩
  rw [enterStopping_drives, brake_drives]; split
  · rw [put_other _ h]
  · rfl

/-! ### An onset of supply low -/

/-- The end of a back-off leaves a channel that is not DRIVING as it is. -/
theorem endBackOff_drives_still (d : StopDest) (h : s.drives[l].phase ≠ .driving) : (endBackOff l d s).drives = s.drives := by
  rw [endBackOff_drives, brake_drives, if_neg h]

theorem laneAndDrive_supplyLowOnset {k : LaneId} (s : State) (h : l ≠ k) :
    laneAndDrive l (supplyLowOnset s k) = laneAndDrive l s := by
  unfold supplyLowOnset; split
  · exact laneAndDrive_enterStopping _ s h
  · dsimp only
    unfold endBackOff
    rw [laneAndDrive_enterStopping _ _ h]
    exact laneAndDrive_eq.2 ⟨by rw [updCtx, updLane_lanes, put_other _ h, updDrive_lanes],
      by rw [updCtx_drives, updDrive_drives, put_other _ h]⟩
  · rfl

/-- Where a stopped reversal leads at an onset of supply low (R88). -/
def lostDest : Option StopDest → StopDest
  | some (.idle r) => .idle r
  | _ => .paused .supply

/-- A reversal brake becomes a brake of 50 ms that no back-off follows (R88). -/
def rebraked (d : Drive) : Drive :=
  if d.phase = .braking then { d with brakeTimer := some brakeTime, reversal := false } else d

theorem supplyLowOnset_moving (h : s.lanes[l].state = .moving) :
    supplyLowOnset s l = enterStopping l (.paused .supply) s := by
  unfold supplyLowOnset; split
  · rfl
  · next e => rw [h] at e; cases e
  · next n _ => exact absurd h n

theorem supplyLowOnset_reversing (h : s.lanes[l].state = .reversing) :
    supplyLowOnset s l = endBackOff l (lostDest s.lanes[l].stopDest) (updDrive l rebraked s) := by
  unfold supplyLowOnset; split
  · next e => rw [h] at e; cases e
  · rfl
  · next n => exact absurd h n

/-- An onset of supply low stops the MOVING and the REVERSING lanes and leaves every other as it is (R88). -/
theorem supplyLost_onset (s : State) : SupplyLost s (allLanes.foldl supplyLowOnset s) := by
  intro l
  obtain ⟨v, same, ends⟩ := foldl_allLanes_at (laneAndDrive l) l (fun u _ n => laneAndDrive_supplyLowOnset u (Ne.symm n)) s
  obtain ⟨vl, vd⟩ := laneAndDrive_eq.1 same
  obtain ⟨tl, td⟩ := laneAndDrive_eq.1 ends
  simp only [Braking]
  rw [tl, td, ← vl, ← vd]
  split
  · next moving =>
    rw [supplyLowOnset_moving moving, enterStopping_lanes, put_self]
    exact ⟨rfl, rfl, fun h => (enterStopping_driving _ h).2.1⟩
  · split
    · next reversing =>
      rw [supplyLowOnset_reversing reversing, endBackOff_lanes, put_self]
      have own : (updDrive l rebraked v).drives[l] = rebraked v.drives[l] := by rw [updDrive_drives, put_self]
      refine ⟨rfl, rfl, fun h => ?_, fun h => ?_⟩
      · have driving : (updDrive l rebraked v).drives[l].phase = .driving := by
          rw [own, rebraked, if_neg (by rw [h]; decide), h]
        rw [endBackOff_drives]
        exact braking_brake driving
      · have braking : rebraked v.drives[l] = { v.drives[l] with brakeTimer := some brakeTime, reversal := false } := by
          rw [rebraked, if_pos h]
        rw [endBackOff_drives_still _ (by rw [own, braking]; rw [h]; decide), own, braking]
        exact ⟨h, rfl, rfl⟩
    · next moving reversing =>
      rw [supplyLowOnset_still (not_or.2 ⟨moving, reversing⟩)]

@[simp] theorem supplyLowOnset_loads (s : State) (l : LaneId) : (supplyLowOnset s l).loads = s.loads := by
  unfold supplyLowOnset; split <;> simp
@[simp] theorem supplyLowOnset_holders (s : State) (l : LaneId) : (supplyLowOnset s l).holders = s.holders := by
  unfold supplyLowOnset; split <;> simp
@[simp] theorem supplyLowOnset_waitList (s : State) (l : LaneId) : (supplyLowOnset s l).waitList = s.waitList := by
  unfold supplyLowOnset; split <;> simp

/-! ### The mark of the general status frame -/

theorem general_markIf (b : Bool) (f : Flag) (h : s.report.general = true) : (markIf b f s).report.general = true := by
  have flagged : (s.report.flagged f).general = true := by cases f <;> simp [Reporter.flagged, h]
  unfold markIf mark; dsimp only; split
  · split <;> exact flagged
  · exact h

theorem general_updLane {f : Lane → Lane} (h : s.report.general = true) : (updLane l f s).report.general = true := by
  unfold updLane; dsimp only
  rw [followIdle_report]
  refine general_markIf _ _ (general_markIf _ _ ?_)
  exact h

theorem general_updAct {f : ActRun → ActRun} (h : s.report.general = true) : (updAct a f s).report.general = true := by
  unfold updAct; dsimp only
  refine general_markIf _ _ (general_markIf _ _ ?_)
  exact h

theorem general_brake {ms : Nat} {rev : Bool} (h : s.report.general = true) : (brake l ms rev s).report.general = true := by
  unfold brake; dsimp only; split
  · rw [resumeSupplyTimer_report]; split
    · exact general_updAct h
    · exact h
  · exact h

theorem general_enterStopping {d : StopDest} (h : s.report.general = true) :
    (enterStopping l d s).report.general = true :=
  general_updLane (general_brake h)

theorem general_supplyLowOnset (h : s.report.general = true) : (supplyLowOnset s l).report.general = true := by
  unfold supplyLowOnset; split
  · exact general_enterStopping h
  · dsimp only
    exact general_enterStopping (general_updLane h)
  · exact h

theorem general_onset (h : s.report.general = true) : (allLanes.foldl supplyLowOnset s).report.general = true := by
  generalize allLanes = xs
  induction xs generalizing s with
  | nil => exact h
  | cons x xs ih => exact ih (general_supplyLowOnset h)

/-- What the onset leaves depends on the lanes and on the phases of the channels alone. -/
theorem supplyLost_congr (lost : SupplyLost u t) (lanes : u.lanes = s.lanes)
    (phase : ∀ l : LaneId, u.drives[l].phase = s.drives[l].phase) : SupplyLost s t := by
  intro l
  have own := lost l
  rw [lanes, phase] at own
  exact own

/-- The supply of an onset of supply low (R184, R185). -/
def lowBegun (mv : Nat) (s : State) : State :=
  { s with supply := { s.supply with pin := mv, measured := mv, lowRun := 10, low := true } }

theorem measure_onset {mv : Nat} (h : mv < 9000) (run : 9 ≤ s.supply.lowRun) (low : s.supply.low = false) :
    measure mv s = allLanes.foldl supplyLowOnset (mark .general (lowBegun mv s)) := by
  have ten : min 10 (s.supply.lowRun + 1) = 10 := by omega
  simp only [Machine.measure, lowSupply, if_pos h, lowRunLimit, ten, low, Bool.not_false, decide_true, Bool.and_self, if_true]
  rfl

theorem measure_steady {mv : Nat} (h : mv < 9000) (steady : s.supply.low = true ∨ s.supply.lowRun < 9) :
    measure mv s = { s with supply := { s.supply with pin := mv, measured := mv, lowRun := min 10 (s.supply.lowRun + 1) } } := by
  have none : ¬ ((decide (min 10 (s.supply.lowRun + 1) = 10) && !s.supply.low) = true) := by
    rcases steady with low | run
    · rw [low]; simp
    · rw [decide_eq_false (by omega)]; simp
  simp only [Machine.measure, lowSupply, if_pos h, lowRunLimit, if_neg none]

theorem measure_high {mv : Nat} (h : ¬ mv < 9000) : measure mv s = markIf s.supply.low .general
    { s with supply := { s.supply with pin := mv, measured := mv, lowRun := 0, low := false } } := by
  simp only [Machine.measure, lowSupply, if_neg h]

theorem surr_onset (mv : Nat) (s : State) :
    surr (allLanes.foldl supplyLowOnset (mark .general (lowBegun mv s))) = surr (lowBegun mv s) :=
  (surr_of_outer (outer_of_calm (calm_foldl calm_supplyLowOnset _ _))).trans
    (surr_of_outer (outer_of_calm (calm_mark ..)))

theorem markIf_lanes_and_more (b : Bool) (f : Flag) (s : State) : SameLanes s (markIf b f s) := by
  unfold markIf; split <;> exact ⟨rfl, rfl, rfl, rfl⟩

/-! ### The measurement -/

/-- Settles O27, by the run of low measurements before this one. -/
theorem supplyMeasurementKeepsTheLowRun : Obligations.SupplyMeasurementKeepsTheLowRun := by
  intro s mv
  refine ⟨fun timed => ?_, fun stopped => ?_⟩
  · have start : exec (.supplyMeasurement mv) s = .next { measure mv s with
        supply := { (measure mv s).supply with timer := some supplyPeriod } } := by
      simp only [exec, execSupplyMeasurement]; rw [if_pos timed]
    refine ⟨_, start, ?_⟩
    obtain ⟨x, kept⟩ := calm_measure mv s
    have settings : SameSettings s (measure mv s) := sameSettings_of_calm (s := { s with supply := x }) kept
    have requests : SameRequests s (measure mv s) := sameRequests_of_calm (s := { s with supply := x }) kept
    have positions : SamePositions s (measure mv s) := fun a =>
      ⟨position_of_surr (surr_of_outer (outer_of_calm kept)) a, referenced_of_surr (surr_of_outer (outer_of_calm kept)) a⟩
    suffices own : (measure mv s).supply.measured = mv ∧
        (measure mv s).supply.lowRun = (if mv < 9000 then min 10 (s.supply.lowRun + 1) else 0) ∧
        (measure mv s).supply.low = (decide (mv < 9000) && (s.supply.low || decide (9 ≤ s.supply.lowRun))) ∧
        (if mv < 9000 ∧ 9 ≤ s.supply.lowRun ∧ s.supply.low = false then SupplyLost s (measure mv s)
         else SameLanes s (measure mv s)) by
      obtain ⟨measured, run, low, lanes⟩ := own
      refine ⟨measured, rfl, run, low, settings, positions, requests, ?_⟩
      split at lanes
      · next h => rw [if_pos h]; exact lanes
      · next h => rw [if_neg h]; exact lanes
    by_cases h : mv < 9000
    · by_cases onset : 9 ≤ s.supply.lowRun ∧ s.supply.low = false
      · obtain ⟨run, low⟩ := onset
        rw [measure_onset h run low, if_pos h, if_pos ⟨h, run, low⟩]
        have e := surr_onset mv s
        refine ⟨measured_of_surr e, (lowRun_of_surr e).trans ?_, (low_of_surr e).trans ?_,
          supplyLost_congr (supplyLost_onset _) rfl fun _ => rfl⟩
        · simp only [lowBegun]; omega
        · rw [decide_eq_true h, decide_eq_true run]; simp [lowBegun]
      · have steady : s.supply.low = true ∨ s.supply.lowRun < 9 := by
          rcases hl : s.supply.low with _ | _
          · exact .inr (by_contra fun n => onset ⟨by omega, hl⟩)
          · exact .inl rfl
        rw [measure_steady h steady, if_pos h, if_neg fun g => onset g.2, decide_eq_true h]
        refine ⟨rfl, rfl, ?_, rfl, rfl, rfl, rfl⟩
        rcases steady with low | run
        · simp [low]
        · simp [decide_eq_false (show ¬ 9 ≤ s.supply.lowRun by omega)]
    · rw [measure_high h, if_neg h, if_neg fun g => h g.1, decide_eq_false h]
      refine ⟨?_, ?_, ?_, markIf_lanes_and_more _ _ _⟩ <;> (unfold markIf; split <;> rfl)
  · simp only [exec, execSupplyMeasurement]; rw [if_neg (by rw [stopped]; simp)]

/-! ### The load sample -/

theorem put_put {α : Type} {n : Nat} (v : Vector α n) (i : Fin n) (x y : α) : put (put v i x) i y = put v i y :=
  table_ext fun j => by
    by_cases h : j = i
    · subst h; rw [put_self, put_self]
    · rw [put_other _ h, put_other _ h, put_other _ h]

/-- The state in which a sample without an outcome has been taken, and the supply has not been measured (R120, R137). -/
def sampled (l : LaneId) (a : ActId) (k : MotionKind) (reading : Nat) (s : State) : State :=
  { s with
    loads := put s.loads l (s.loads[l].sample k s.ram.actuators[a] s.acts[a].position (min 20000 reading)).1
    drives := put s.drives l { s.drives[l] with
      duty := min (s.drives[l].duty + 50) (limitInForce s.ram.actuators[a] s.drives[l])
      saturation := (if 20000 ≤ reading then s.drives[l].saturation + 1 else 0) } }

theorem takeSample_quiet {k : MotionKind} {reading mv : Nat} (driving : s.drives[l].phase = .driving)
    (run : ¬ (20000 ≤ reading ∧ s.drives[l].saturation = 2))
    (quiet : (s.loads[l].sample k s.ram.actuators[a] s.acts[a].position (min 20000 reading)).2 = .none) :
    takeSample l a k reading mv s = Machine.measure mv (sampled l a k reading s) := by
  have saturated : (if min fullScale reading = fullScale then s.drives[l].saturation + 1 else 0) =
      if 20000 ≤ reading then s.drives[l].saturation + 1 else 0 := if_congr (by simp [fullScale]) rfl rfl
  have still : ∀ x n, (updLoad l (fun _ => x) (updDrive l (fun d => { d with saturation := n }) s)).drives[l].phase =
      .driving := fun x n => by rw [updLoad_drives, updDrive_drives, put_self]; exact driving
  unfold takeSample; dsimp only
  rw [saturated, if_neg (by split <;> omega), quiet, reportOutcome, rampDuty, if_pos (still _ _)]
  refine congrArg (Machine.measure mv) ?_
  simp only [updDrive, updLoad, put_self, put_put]
  rfl

/-- With a lane in motion and a pending pre-emption that still waits nothing follows the sample (R63, R172). -/
theorem finish_still (waits : PreemptWaits s) (h : s.lanes[l].state.inMotion = true) : finish s = s := by
  rw [finish_of_waits waits, tryTune_of_motion _ h]

/-- Settles O30, by the run of low measurements before the sample. -/
theorem loadSampleFiltersAndRampsTheDuty : Obligations.LoadSampleFiltersAndRampsTheDuty := by
  intro s l reading mv
  have motion : ∀ u : State, (u.lanes[l].state = .moving ∨ u.lanes[l].state = .reversing) →
      u.lanes[l].state.inMotion = true := fun u h => by rcases h with h | h <;> rw [h] <;> rfl
  refine ⟨?_, ?_, ?_, fun still => ?_⟩
  · intro a connected k kind driving moves high waits run quiet
    rw [exec_loadSample connected kind driving, takeSample_quiet driving run quiet, measure_high (s := sampled l a k reading s) (by omega)]
    refine congrArg Host.Outcome.next (finish_still (l := l) ?_ ?_)
    · unfold markIf; split <;> exact waits
    · refine motion _ ?_
      unfold markIf; split <;> exact moves
  · intro a connected k kind driving moves waits run quiet low steady
    rw [exec_loadSample connected kind driving, takeSample_quiet driving run quiet, measure_steady (s := sampled l a k reading s) low steady]
    exact congrArg Host.Outcome.next (finish_still (l := l) waits (motion _ moves))
  · intro a connected k kind driving moves waits run quiet low lowRun free
    rw [exec_loadSample connected kind driving, takeSample_quiet driving run quiet, measure_onset (s := sampled l a k reading s) low lowRun free]
    obtain ⟨v, hv⟩ : ∃ v, v = lowBegun mv (sampled l a k reading s) := ⟨_, rfl⟩
    rw [← hv]
    have lost := supplyLost_onset (mark .general v)
    have e : calm (allLanes.foldl supplyLowOnset (mark .general v)) = calm v :=
      (calm_foldl calm_supplyLowOnset _ _).trans (calm_mark ..)
    have lanes : ∀ k : LaneId, (mark .general v).lanes[k] = s.lanes[k] := fun _ => by rw [hv]; rfl
    have stays : (allLanes.foldl supplyLowOnset (mark .general v)).lanes[l].state = .stopping := by
      have own := lost l
      rw [lanes l] at own
      rcases moves with m | r
      · rw [if_pos m] at own; exact own.1
      · rw [if_neg (by rw [r]; decide), if_pos r] at own; exact own.1
    refine ⟨_, congrArg Host.Outcome.next (finish_still (l := l) (preemptWaits_of_calm e (by rw [hv]; exact waits))
      (by rw [stays]; rfl)), ?_⟩
    have same := surr_of_outer (outer_of_calm e)
    refine ⟨?_, ?_, ?_, ?_, supplyLost_congr lost (by rw [hv]; rfl) fun m => ?_, ?_, ?_, ?_, fun b => ⟨?_, ?_⟩, ?_, ?_⟩
    · rw [measured_of_surr same, hv]; rfl
    · rw [lowRun_of_surr same, hv]; rfl
    · rw [low_of_surr same, hv]; rfl
    · rw [foldl_keeps State.loads supplyLowOnset_loads, hv]; rfl
    · have phases : (put s.drives l { s.drives[l] with
          duty := min (s.drives[l].duty + 50) (limitInForce s.ram.actuators[a] s.drives[l])
          saturation := (if 20000 ≤ reading then s.drives[l].saturation + 1 else 0) })[m].phase = s.drives[m].phase := by
        by_cases h : m = l
        · subst h; rw [put_self]
        · rw [put_other _ h]
      rw [hv]; exact phases
    · exact general_onset (mark_general_general v)
    · rw [foldl_keeps State.holders supplyLowOnset_holders, hv]; rfl
    · rw [foldl_keeps State.waitList supplyLowOnset_waitList, hv]; rfl
    · rw [position_of_surr same, hv]; rfl
    · rw [referenced_of_surr same, hv]; rfl
    · have kept := sameSettings_of_calm e; rw [hv] at kept ⊢; exact kept
    · have kept := sameRequests_of_calm e; rw [hv] at kept ⊢; exact kept
  · simp only [exec, execLoadSample]; split
    · rw [if_neg still]
    · rfl

end
end Sys2Proof.Proofs
end

section
/-! What every restart leaves (R98, R133, R158, R178, R180, R185, R186, R192, R203, R204, R207). -/

namespace Sys2Proof.Proofs

open Sys2Proof Sys2Proof.Machine Sys2Proof.Safety

section
variable {s t : State}

/-- The part `s` has restarted in `t`, and the start-up stands at `k` (R192). -/
def Restarted (k : StartUp) (s t : State) : Prop :=
  AtRestartValues t ∧ SameSettings s t ∧ t.power.notice = s.power.notice ∧ t.tx.replies = s.tx.replies ∧ t.startUp = k

/-- The blocks whose restart values depend neither on the supply nor on the start-up. -/
theorem restartValues_atRest (s : State) (k : StartUp) (x : Supply) (supply : x.low = false ∧
      x.lowRun = (match k with
        | .held _ => 0
        | _ => if x.measured < 9000 then 1 else 0) ∧
      x.timer = (match k with
        | .held _ => none
        | _ => some 10)) :
    Restarted k s { restartValues s with startUp := k, supply := x } := by
  obtain ⟨low, run, timer⟩ := supply
  refine ⟨⟨fun l => ?_, fun c => ?_, fun z => ?_, rfl, fun a => ?_, rfl, rfl, rfl, rfl, rfl, rfl, rfl, low, run, timer, rfl,
    rfl, rfl, rfl, rfl⟩, ⟨rfl, rfl, rfl⟩, rfl, rfl, rfl⟩
  · simp only [restartValues, tab_get, and_self]
  · simp only [restartValues, tab_get]
  · simp only [restartValues, tab_get]
  · simp only [restartValues, tab_get, ActRun.restarted, and_self]

/-- Below 6.0 V a restart holds the start-up back (R192). -/
theorem restartPart_held (c : Cause) (h : s.supply.pin < 6000) : Restarted (.held c) s (restartPart c s) := by
  have e : restartPart c s = { restartValues s with startUp := .held c } := by
    unfold restartPart; dsimp only; exact if_pos h
  rw [e]
  exact restartValues_atRest s (.held c) _ ⟨rfl, rfl, rfl⟩

/-- From 6.0 V a restart begins the start-up and measures the supply (R184, R192). -/
theorem restartPart_begun (c : Cause) (h : ¬ s.supply.pin < 6000) :
    Restarted (.loading c) s (restartPart c s) ∧ (restartPart c s).supply.measured = s.supply.pin := by
  have e : restartPart c s = { restartValues s with
      startUp := .loading c
      supply := { pin := s.supply.pin, measured := s.supply.pin, timer := some 10
                  lowRun := (if s.supply.pin < 9000 then 1 else 0), low := false } } := by
    unfold restartPart; dsimp only
    rw [if_neg (show ¬ (restartValues s).supply.pin < brownoutSupply from h)]
    by_cases low : (restartValues s).supply.pin < 9000
    · rw [measure_steady low (.inr (show 0 < 9 by decide)), if_pos (show s.supply.pin < 9000 from low)]; rfl
    · rw [measure_high low, if_neg (show ¬ s.supply.pin < 9000 from low)]; rfl
  rw [e]
  exact ⟨restartValues_atRest s (.loading c) _ ⟨rfl, rfl, rfl⟩, rfl⟩

theorem restartPart_either (c : Cause) (s : State) :
    Restarted (if s.supply.pin < 6000 then .held c else .loading c) s (restartPart c s) := by
  by_cases h : s.supply.pin < 6000
  · rw [if_pos h]; exact restartPart_held c h
  · rw [if_neg h]; exact (restartPart_begun c h).1

/-- Settles O23, by the supply at the restart. -/
theorem restartsTakeTheirValues : Obligations.RestartsTakeTheirValues := by
  intro s mv body
  refine ⟨fun up => ?_, fun down => ?_, ?_, fun k held up => ?_, fun up running => ?_, fun ⟨awake, ready⟩ long => ?_⟩
  · obtain ⟨⟨values, settings, notice, replies, start⟩, measured⟩ :=
      restartPart_begun (s := { s with supply := { s.supply with pin := mv } }) .powerOn (show ¬ mv < 6000 by omega)
    refine ⟨_, ?_, values, settings, notice, start, measured, replies⟩
    simp only [exec, execPowerOn, brownoutSupply]; rw [if_neg (by omega)]
  · obtain ⟨values, settings, notice, replies, start⟩ :=
      restartPart_held (s := { s with supply := { s.supply with pin := mv } }) .brownout down
    refine ⟨_, ?_, values, settings, notice, start, replies⟩
    simp only [exec, execBrownout, brownoutSupply]; rw [if_neg (by omega)]
  · obtain ⟨values, settings, notice, replies, start⟩ := restartPart_either .resetLine s
    exact ⟨_, rfl, values, settings, notice, replies, start⟩
  · obtain ⟨⟨values, settings, notice, replies, start⟩, measured⟩ :=
      restartPart_begun (s := { s with supply := { s.supply with pin := mv } }) k (show ¬ mv < 6000 by omega)
    refine ⟨_, ?_, values, settings, notice, start, measured, replies⟩
    simp only [exec, execBrownoutRecovery, brownoutSupply]; rw [if_neg (by omega), held]
  · simp only [exec, execBrownoutRecovery, brownoutSupply]; rw [if_neg (by omega)]
    rcases running with e | e <;> rw [e]
  · obtain ⟨values, settings, notice, replies, start⟩ :=
      restartPart_either .testerRestart (serviceAnswer opRestart (tagOf body) .accepted (busTraffic s))
    refine ⟨_, ?_, values, settings, notice, start, replies⟩
    have enough : longEnough 2 body = true := decide_eq_true (by omega)
    have serving : (busTraffic s).request.ready = true := ready
    simp only [exec, execRestart, receiveService, serveRestart, if_neg awake, serving, if_true, enough]
    rfl

end
end Sys2Proof.Proofs
end

section
/-! A Vehicle State and the end of its freshness, and what a lost interlock makes of each lane (R88, R180 to R183). -/

namespace Sys2Proof.Proofs

open Sys2Proof Sys2Proof.Machine Sys2Proof.Safety

section
variable {s t u : State} {l : LaneId}

theorem laneAndDrive_interlockLost {k : LaneId} (s : State) (h : l ≠ k) :
    laneAndDrive l (interlockLost s k) = laneAndDrive l s := by
  unfold interlockLost; split
  · exact laneAndDrive_enterStopping _ s h
  · rfl

/-- A loss of the interlock stops the MOVING lanes and leaves every other as it is (R88). -/
theorem interlockLost_all (s : State) : InterlockLost s (allLanes.foldl interlockLost s) := by
  intro l
  obtain ⟨v, same, ends⟩ := foldl_allLanes_at (laneAndDrive l) l (fun u _ n => laneAndDrive_interlockLost u (Ne.symm n)) s
  obtain ⟨before, -⟩ := laneAndDrive_eq.1 same
  obtain ⟨after, -⟩ := laneAndDrive_eq.1 ends
  rw [after, ← before]
  split
  · next moving =>
    rw [interlockLost, if_pos moving, enterStopping_lanes, put_self]; exact ⟨rfl, rfl⟩
  · next still => rw [interlockLost, if_neg still]

/-- What a change of the interlock from `before` leaves of the part (R88, R206). -/
structure Reacted (before : Bool) (s t : State) : Prop where
  calm : calm t = calm s
  active : s.power.mode = .active → t.power.mode = .active
  lanes : if before = true ∧ interlock s = false then InterlockLost s t else SameLanes s t

theorem reacted_interlockEvent (before : Bool) (s : State) : Reacted before s (interlockEvent before s) := by
  have lost : calm (allLanes.foldl interlockLost s) = calm s := calm_foldl calm_interlockLost _ _
  have moves : Moves Anyone s (allLanes.foldl interlockLost s) :=
    Moves.foldl (fun s _ => moves_interlockLost s fun _ => trivial) _
  have lost_active (h : s.power.mode = .active) : (allLanes.foldl interlockLost s).power.mode = .active := moves.active h
  by_cases h : before = true ∧ interlock s = false
  · have e : interlockEvent before s = markIf true .general (allLanes.foldl interlockLost s) := by
      unfold interlockEvent; dsimp only; rw [h.1, h.2]; rfl
    rw [e]
    generalize hu : allLanes.foldl interlockLost s = u at lost lost_active
    have marked := moves_markIf (L := Anyone) u true .general
    refine ⟨(calm_markIf ..).trans lost, fun a => marked.active (lost_active a), ?_⟩
    have all : InterlockLost s u := hu ▸ interlockLost_all s
    rw [if_pos h]; intro l
    rw [markIf_lanes]; exact all l
  · have e : interlockEvent before s = markIf (before != interlock s) .general s := by
      unfold interlockEvent; dsimp only; rw [if_neg (by simpa using h)]
    rw [e]
    have marked := moves_markIf (L := Anyone) s (before != interlock s) .general
    refine ⟨calm_markIf .., marked.active, ?_⟩
    rw [if_neg h]; exact markIf_lanes_and_more ..

/-- A calm change keeps settings, positions and requests. -/
theorem settings_positions_requests_of_calm (e : calm t = calm s) :
    SameSettings s t ∧ SamePositions s t ∧ SameRequests s t :=
  ⟨sameSettings_of_calm e, fun a => ⟨position_of_surr (surr_of_outer (outer_of_calm e)) a,
    referenced_of_surr (surr_of_outer (outer_of_calm e)) a⟩, sameRequests_of_calm e⟩

/-- The Vehicle State `v` stands in the part, and the interlock has not been followed (R181). -/
def stateTaken (v : VehicleState) (s : State) : State :=
  { s with vehicle := { s.vehicle with held := v, fresh := true, freshTimer := some freshTime } }

/-- The freeze follows the speed of a Vehicle State (R183). -/
def frozenBy (v : VehicleState) (s : State) : State :=
  if 5 < v.speed && !s.vehicle.freeze then mark .general { s with vehicle := { s.vehicle with freeze := true } } else s

theorem frozenBy_eq (v : VehicleState) (s : State) : ∃ r, frozenBy v s =
    { s with vehicle := { s.vehicle with freeze := s.vehicle.freeze || decide (5 < v.speed) }, report := r } := by
  unfold frozenBy; split
  · next g =>
    simp only [Bool.and_eq_true, decide_eq_true_eq] at g
    rw [decide_eq_true g.1, Bool.or_true]
    exact ⟨_, rfl⟩
  · next g =>
    have e : (s.vehicle.freeze || decide (5 < v.speed)) = s.vehicle.freeze := by
      cases hf : s.vehicle.freeze
      · simpa [hf] using g
      · rfl
    exact ⟨s.report, by rw [e]⟩

theorem frozenBy_mode (v : VehicleState) (s : State) : (frozenBy v s).power.mode = s.power.mode := by
  unfold frozenBy; split <;> rfl

/-- In ACTIVE no Vehicle State ends the operation of the part (R181 to R183, R190). -/
theorem takeVehicleState_active (v : VehicleState) (h : s.power.mode = .active) :
    takeVehicleState v s = frozenBy v (interlockEvent (interlock s) (stateTaken v s)) := by
  have mode : (frozenBy v (interlockEvent (interlock s) (stateTaken v s))).power.mode ≠ .doze := by
    have active : (interlockEvent (interlock s) (stateTaken v s)).power.mode = .active :=
      (reacted_interlockEvent _ _).active h
    rw [frozenBy_mode, active]; decide
  have awake : requestSleep (frozenBy v (interlockEvent (interlock s) (stateTaken v s))) = _ := if_pos mode
  unfold takeVehicleState; dsimp only
  exact (ite_congr rfl (fun _ => awake) fun _ => rfl).trans (ite_self _)

/-- Settles O18, by what the frame decodes to and whether it ends the interlock. -/
theorem vehicleStateIsTakenWhole : Obligations.VehicleStateIsTakenWhole := by
  intro s data
  refine ⟨fun awake bad => ?_, fun v good active => ?_, fun timed => ?_, fun stopped => ?_⟩
  · simp only [exec, execVehicleState, if_neg awake, bad]; rfl
  · have start : exec (.vehicleState data) s = .next (takeVehicleState v (busTraffic s)) := by
      simp only [exec, execVehicleState, if_neg (show s.power.mode ≠ .sleep by rw [active]; decide), good]
    obtain ⟨keep, -, lanes⟩ := reacted_interlockEvent (interlock s) (stateTaken v (busTraffic s))
    have taken := takeVehicleState_active (s := busTraffic s) v active
    obtain ⟨r, frozen⟩ := frozenBy_eq v (interlockEvent (interlock s) (stateTaken v (busTraffic s)))
    refine ⟨_, start.trans (congrArg Host.Outcome.next (taken.trans frozen)), ?_⟩
    generalize interlockEvent (interlock s) (stateTaken v (busTraffic s)) = u at keep lanes
    obtain ⟨settings, positions, requests⟩ := settings_positions_requests_of_calm keep
    have same := vehicle_of_surr (surr_of_outer (outer_of_calm keep))
    have locked : interlock (stateTaken v (busTraffic s)) = (decide (v.speed ≤ 2) && v.park) := rfl
    refine ⟨congrArg Vehicle.held same, congrArg Vehicle.fresh same, congrArg Vehicle.freshTimer same, ?_, settings,
      positions, requests, ?_⟩
    · have freeze : u.vehicle.freeze = s.vehicle.freeze := (congrArg Vehicle.freeze same :)
      rw [freeze]
    · have lost : (decide (v.speed ≤ 2) && v.park) = false ↔ ¬ (v.speed ≤ 2 ∧ v.park = true) := by
        rw [← Bool.not_eq_true, Bool.and_eq_true, decide_eq_true_eq]
      rw [locked] at lanes
      simp only [lost] at lanes
      split at lanes
      · next h => rw [if_pos h]; exact lanes
      · next h => rw [if_neg h]; exact lanes
  · obtain ⟨keep, -, lanes⟩ := reacted_interlockEvent (interlock s)
      { s with vehicle := { s.vehicle with fresh := false, freshTimer := none } }
    obtain ⟨settings, positions, requests⟩ := settings_positions_requests_of_calm keep
    refine ⟨_, ?_, vehicle_of_surr (surr_of_outer (outer_of_calm keep)), settings, positions, requests, ?_⟩
    · simp only [exec, execFreshnessTimerExpiry, if_pos timed]
    · have off : interlock { s with vehicle := { s.vehicle with fresh := false, freshTimer := none } } = false := rfl
      simp only [off, and_true] at lanes
      exact lanes
  · simp only [exec, execFreshnessTimerExpiry, stopped]; rfl

end
end Sys2Proof.Proofs
end

section
/-! Lanes on their way to the next motion: what the ARMING decision and the claim leave, the end of ARMING, and the ends of
dwells and pauses (R70, R74 to R76, R80, R82, R83, R86, R87, R117, R118). -/

namespace Sys2Proof.Proofs

open Sys2Proof Sys2Proof.Machine Sys2Proof.Safety

section
variable {L : LaneId → Prop} {s t u : State} {l k : LaneId}

/-! ### The way on -/

theorem Left.goneOn {r r' : Lane} (h : Left r r') (g : GoneOn r) : GoneOn r' := by
  rcases h.state with e | e
  · rw [GoneOn, e]; exact g
  · exact .inl e

theorem Left.ctx {r r' : Lane} (h : Left r r') : r'.ctx = r.ctx := by
  have same := congrArg Lane.ctx h.base; exact same

theorem left_release (l : LaneId) (zs : ZoneSet) (s : State) : Left s.lanes[l] (release l zs s).lanes[l] := by
  unfold release; dsimp only; split
  · exact .refl _
  · have scanned := (moves_scan (L := fun _ => False) (mark (.lane l) (mark .sets
      (setHolders (zs &&& heldBy s l) none s)))).left (l := l) id
    exact scanned

theorem enterArming_state (h : s.lanes[l].ctx.isSome = true) : (enterArming l s).lanes[l].state = .arming := by
  obtain ⟨c, hc⟩ := Option.isSome_iff_exists.1 h
  unfold enterArming; rw [hc]; dsimp only
  have suspended := left_suspendTune l (updLane l (fun r => { r.leaving with state := .arming }) (armOrder l c.act s))
  rw [updLane_lanes, put_self] at suspended
  exact suspended.state.elim id id

theorem state_of_arm (h : s.lanes[l].ctx.isSome = true) : (arm l s).lanes[l].state = .arming := by
  have others := (moves_rescanned (L := fun _ => False) (enterArming l s) s).left (l := l) id
  exact others.state.elim (fun e => e.trans (enterArming_state h)) id

theorem enterFenced_state (l : LaneId) (s : State) : (enterFenced l s).lanes[l].state = .fenced := by
  rw [enterFenced_lanes, put_self]

theorem armOrFence_state (h : s.lanes[l].ctx.isSome = true) :
    (armOrFence l s).lanes[l].state = .arming ∨ (armOrFence l s).lanes[l].state = .fenced := by
  obtain ⟨c, hc⟩ := Option.isSome_iff_exists.1 h
  have last : ∀ v : State, v.lanes[l].ctx.isSome = true →
      (if meets c.sweep (fenced v) then enterFenced l v else arm l v).lanes[l].state = .arming ∨
      (if meets c.sweep (fenced v) then enterFenced l v else arm l v).lanes[l].state = .fenced := by
    intro v hv; split
    · exact .inr (enterFenced_state l v)
    · exact .inl (state_of_arm hv)
  unfold armOrFence; rw [hc]; dsimp only; split
  · exact last _ (by rw [(left_release l _ s).ctx]; exact h)
  · exact last _ h

theorem goneOn_armOrFence (h : s.lanes[l].ctx.isSome = true) : GoneOn (armOrFence l s).lanes[l] :=
  (armOrFence_state h).elim .inl fun e => .inr (.inl e)

theorem goneOn_of_join {r : Lane} (h : r.state = .claiming ∨ r.state = .arming) : GoneOn r :=
  h.elim (fun e => .inr (.inr e)) .inl

/-- A homing that has become due: the lane goes on from the ARMING decision or claims its zones (R75). -/
theorem goneOn_homingDue (h : s.lanes[l].ctx.isSome = true) :
    GoneOn (match (computeSweep l s).lanes[l].ctx with
      | none => computeSweep l s
      | some c => if covers (computeSweep l s) l c.sweep then armOrFence l (computeSweep l s)
        else join l (computeSweep l s)).lanes[l] := by
  have ctx := (computeSweep_ctx l s).trans h
  split
  · next n => rw [n] at ctx; cases ctx
  · split
    · exact goneOn_armOrFence ctx
    · exact goneOn_of_join (join_own ctx).2

theorem goneOn_armingDecision (h : s.lanes[l].ctx.isSome = true) : GoneOn (armingDecision l s).lanes[l] := by
  unfold armingDecision; split
  · next n => rw [n] at h; cases h
  · split
    · exact goneOn_armOrFence h
    · split
      · exact goneOn_homingDue (by rw [updCtx_ctx]; exact h)
      · exact goneOn_homingDue (by rw [updCtx_ctx]; exact h)
      · exact goneOn_armOrFence (by rw [restartLearn_ctx]; exact h)
      · exact goneOn_armOrFence (by rw [restartLearn_ctx]; exact h)
      all_goals exact goneOn_armOrFence h

/-- With its gate holding a lane goes on toward its motion (R74, R82). -/
theorem goneOn_claimAtNext {c : StepCtx} (h : s.lanes[l].ctx = some c) (gate : gateHolds s c.step.gate = true) :
    GoneOn (claimAtNext l s).lanes[l] := by
  have ctx : s.lanes[l].ctx.isSome = true := by rw [h]; rfl
  unfold claimAtNext; rw [h]; dsimp only
  rw [gate, if_neg (by decide)]; split
  · exact goneOn_armingDecision ctx
  · exact goneOn_of_join (claim_own ctx).2

/-- A lane whose gate does not hold waits for it (R82). -/
theorem claimAtNext_shut {c : StepCtx} (h : s.lanes[l].ctx = some c) (gate : gateHolds s c.step.gate = false) :
    claimAtNext l s = enterWaitGate l s := by
  unfold claimAtNext; rw [h]; dsimp only; rw [gate]; rfl

theorem goneOn_tryTune (g : GoneOn s.lanes[l]) : GoneOn (tryTune s).lanes[l] :=
  ((moves_tryTune (L := fun _ => False) s).left id).goneOn g

/-! ### A lane that no other lane's operation reaches -/

/-- The lane stands in the state after the start of a tune as before it. -/
theorem tryTune_lane (u : Unlisted s l) (h : s.lanes[l].state ≠ .fenced) : (tryTune s).lanes[l] = s.lanes[l] :=
  (spared_tryTune u).record h

/-! ### The end of ARMING -/

/-- The relay is made and the lane has not yet moved on (R117). -/
def relayMade (l : LaneId) (s : State) : State := updDrive l (fun d => { d with makeTimer := none }) s

theorem exec_relayMade_making (h : s.drives[l].phase = .making) :
    exec (.relayMade l) s = .next (tryTune (armingEnd l (relayMade l s))) := by
  simp only [exec, execRelayMade]; rw [if_pos h]; rfl

/-- The end of ARMING pauses the lane with the relay open and the zones kept (R76, R86). -/
theorem relayMade_pauses {r : PauseReason} (w : WaitListFits s) (making : s.drives[l].phase = .making)
    (e : armingEnd l (relayMade l s) = enterPaused l r .motion (openRelay l (relayMade l s))) :
    ∃ t, exec (.relayMade l) s = .next t ∧ PausedAt t.lanes[l] r .motion ∧ RelayOpen t l ∧ KeepsZones s t l ∧
      SameSettings s t ∧ SamePositions s t := by
  have arming : s.lanes[l].state = .arming := (w.1 l).1 making
  have listless : Unlisted s l := unlisted_of_state w (by rw [arming]; decide)
  obtain ⟨v, hv⟩ : ∃ v, v = openRelay l (relayMade l s) := ⟨_, rfl⟩
  have list : Unlisted (enterPaused l r .motion v) l := by
    rw [Unlisted, (enterPaused_others l r .motion v).2.1, hv]; exact listless
  have sp := spared_tryTune list
  have paused := pausedAt_enterPaused l r .motion v
  have e2 : calm (tryTune (enterPaused l r .motion v)) = calm s := by
    rw [calm_tryTune, calm_enterPaused, hv]; rfl
  obtain ⟨settings, positions, -⟩ := settings_positions_requests_of_calm e2
  refine ⟨tryTune (enterPaused l r .motion v), by rw [exec_relayMade_making making, e, hv], ?_, ?_, fun z hz => ?_, settings,
    positions⟩
  · rw [sp.record (by rw [paused.1]; decide)]; exact paused
  · refine relayOpen_of_drive (s := v) ?_ (hv ▸ relayOpen_openRelay l _)
    rw [sp.apart.drive, enterPaused_drives]
  · rw [sp.apart.holder, (enterPaused_others l r .motion v).1, hv]; exact hz

/-- The motions that need a referenced actuator (R75). -/
def needsReference : MotionKind → Bool
  | .step | .correction | .learnRise | .learnReturn => true
  | .homing | .learnHome | .backOff => false

/-- The end of ARMING by its conditions, in their order (R75, R76). -/
theorem armingEnd_eq {c : StepCtx} (h : s.lanes[l].ctx = some c) : armingEnd l s =
    if needsReference c.motion && !s.acts[c.act].referenced then armingDecision l (openRelay l s)
    else if !interlock s then enterPaused l .interlock .motion (openRelay l s)
    else if s.supply.low then enterPaused l .supply .motion (openRelay l s)
    else if s.lanes[l].mode = some .hold && !s.lanes[l].holdCurrent then
      enterPaused l .holdLapsed .motion (openRelay l s)
    else driveStart l c s := by
  unfold armingEnd; rw [h]; rfl

/-- Settles O36, by the first condition that fails at the end of ARMING. -/
theorem relayMadePausesWithoutItsConditions : Obligations.RelayMadePausesWithoutItsConditions := by
  intro s l
  have referenced : ∀ c : StepCtx, (c.motion = .homing ∨ c.motion = .learnHome ∨ s.acts[c.act].referenced = true) →
      (needsReference c.motion && !(relayMade l s).acts[c.act].referenced) = false := by
    rintro c (h | h | h)
    · rw [h]; rfl
    · rw [h]; rfl
    · rw [Bool.and_eq_false_iff]; exact .inr (by rw [show (relayMade l s).acts[c.act].referenced = true from h]; rfl)
  refine ⟨fun c ctx w making ref lock => relayMade_pauses w making ?_,
    fun c ctx w making ref lock low => relayMade_pauses w making ?_,
    fun c ctx w making ref lock low hold lapsed => relayMade_pauses w making ?_,
    fun c ctx w making unref motion => ?_, fun still => ?_⟩
  · have open_ : interlock (relayMade l s) = false := lock
    rw [armingEnd_eq (s := relayMade l s) ctx, referenced c ref, open_]; rfl
  · have shut : interlock (relayMade l s) = true := lock
    have under : (relayMade l s).supply.low = true := low
    rw [armingEnd_eq (s := relayMade l s) ctx, referenced c ref, shut, under]; rfl
  · have shut : interlock (relayMade l s) = true := lock
    have above : (relayMade l s).supply.low = false := low
    have held : (decide ((relayMade l s).lanes[l].mode = some .hold) && !(relayMade l s).lanes[l].holdCurrent) = true := by
      simp only [relayMade, updDrive_lanes, hold, Lane.holdCurrent, lapsed]; rfl
    rw [armingEnd_eq (s := relayMade l s) ctx, referenced c ref, shut, above, held]; rfl
  · have isSome : (openRelay l (relayMade l s)).lanes[l].ctx.isSome = true := by
      rw [openRelay_lanes, relayMade, updDrive_lanes, ctx]; rfl
    have e : armingEnd l (relayMade l s) = armingDecision l (openRelay l (relayMade l s)) := by
      have away : (relayMade l s).acts[c.act].referenced = false := unref
      have needs : needsReference c.motion = true := by rcases motion with h | h | h | h <;> rw [h] <;> rfl
      rw [armingEnd_eq (s := relayMade l s) ctx, needs, away]; rfl
    have start := exec_relayMade_making making
    have on : GoneOn (tryTune (armingEnd l (relayMade l s))).lanes[l] :=
      goneOn_tryTune (e ▸ goneOn_armingDecision isSome)
    refine ⟨_, start, on, fun driving => ?_, sameSettings_of_calm ?_⟩
    · have fits := ((waitListFits_iff.1 w).exec _ start).lane l
      rcases fits.driving driving with m | r
      · rw [GoneOn, m] at on; simp at on
      · rw [GoneOn, r] at on; simp at on
    · rw [calm_tryTune, e, calm_armingDecision]; rfl
  · simp only [exec, execRelayMade]; rw [if_neg still]

/-! ### The ends of dwells and pauses -/

/-- A lane that ends in IDLE with nothing pending holds nothing, and no position moves (R70). -/
theorem idle_ends (l : LaneId) (r : Result) (h : s.request.slot = none) :
    (finish (enterIdle l r s)).lanes[l].state = .idle ∧ (finish (enterIdle l r s)).lanes[l].lastResult = some r ∧
    HoldsNothing (finish (enterIdle l r s)) l ∧ SamePositions s (finish (enterIdle l r s)) := by
  obtain ⟨f, held⟩ := freed_enterIdle l r s
  rw [finish_of_waits (waits_of_none (f.slot_none h))]
  have g := f.tryTune
  have kept := surr_of_outer g.outer
  refine ⟨by rw [g.lane], by rw [g.lane], ⟨?_, by rw [g.lane], g.unbound⟩,
    fun a => ⟨position_of_surr kept a, referenced_of_surr kept a⟩⟩
  rw [(spared_tryTune f.list).apart.zones, held]

/-- A lane waits at its gate with no zone (R82). -/
theorem enterWaitGate_waits (u : Unlisted s l) (h : s.lanes[l].state ≠ .fenced) :
    (tryTune (enterWaitGate l s)).lanes[l].state = .waitGate ∧
    (tryTune (enterWaitGate l s)).lanes[l].gateTimer = some 30000 ∧ heldBy (tryTune (enterWaitGate l s)) l = 0#12 := by
  obtain ⟨-, -, -, held, list⟩ := releaseAll_kept u h
  have lane : (enterWaitGate l s).lanes[l] = { (releaseAll l s).lanes[l].leaving with
      state := .waitGate, gateTimer := some gateTime } := by rw [enterWaitGate, updLane_lanes, put_self]
  have list' : Unlisted (enterWaitGate l s) l := by
    rw [Unlisted, enterWaitGate, updLane_waitList]; exact list
  have held' : heldBy (enterWaitGate l s) l = 0#12 := by
    rw [← held]; exact heldBy_congr (by rw [enterWaitGate, updLane_holders]) l
  rw [tryTune_lane list' (by rw [lane]; exact fun e => nomatch e), lane, (spared_tryTune list').apart.zones]
  exact ⟨rfl, rfl, held'⟩

/-- A lane waits for its ADVANCE with its zones (R83). -/
theorem enterWaitAdvance_waits (u : Unlisted s l) :
    (tryTune (enterWaitAdvance l s)).lanes[l].state = .waitAdvance ∧
    (tryTune (enterWaitAdvance l s)).lanes[l].pauseTimer = some 120000 ∧ KeepsZones s (tryTune (enterWaitAdvance l s)) l := by
  have lane : (enterWaitAdvance l s).lanes[l] = { s.lanes[l].leaving with
      state := .waitAdvance, pauseTimer := some pauseTime } := by rw [enterWaitAdvance, updLane_lanes, put_self]
  have list : Unlisted (enterWaitAdvance l s) l := by rw [Unlisted, enterWaitAdvance, updLane_waitList]; exact u
  rw [tryTune_lane list (by rw [lane]; exact fun e => nomatch e), lane]
  refine ⟨rfl, rfl, fun z hz => ?_⟩
  rw [(spared_tryTune list).apart.holder, enterWaitAdvance, updLane_holders]; exact hz

/-- Settles O41, by what stands after the dwell, and by the end of an arrangement. -/
theorem dwellAndPauseTimersEndTheirStates : Obligations.DwellAndPauseTimersEndTheirStates := by
  intro s l w free
  refine ⟨fun c ctx state timed => ?_, fun stopped => ?_, fun state timed => ?_, fun stopped => ?_⟩
  · have start : exec (.dwellTimerExpiry l) s = .next (finish (afterDwell l s)) := by
      simp only [exec, execDwellTimerExpiry]; rw [if_pos (by rw [state, timed]; rfl)]
    have list : Unlisted s l := unlisted_of_state w (by rw [state]; decide)
    have last : ∀ u : State, afterDwell l s = u → calm u = calm s → exec (.dwellTimerExpiry l) s = .next (tryTune u) :=
      fun u e h => by rw [start, e, finish_of_waits (waits_of_none ((slot_of_calm h).trans free))]
    by_cases done : c.completed = true
    · have e : afterDwell l s = enterIdle l .completed s := by unfold afterDwell; rw [ctx]; exact if_pos done
      obtain ⟨idle, result, nothing, -⟩ := idle_ends l .completed free
      refine ⟨_, start.trans (by rw [e]), ?_⟩
      rw [if_pos done]; exact ⟨idle, result, nothing⟩
    by_cases stepwise : s.lanes[l].mode = some .stepwise
    · have e : afterDwell l s = enterWaitAdvance l s := by
        unfold afterDwell; rw [ctx]; exact (if_neg done).trans (if_pos stepwise)
      refine ⟨_, last _ e (calm_updLane ..), ?_⟩
      rw [if_neg done, if_pos stepwise]; exact enterWaitAdvance_waits list
    have on : afterDwell l s = claimAtNext l s := by
      unfold afterDwell; rw [ctx]; exact (if_neg done).trans (if_neg stepwise)
    by_cases gate : gateHolds s c.step.gate = true
    · refine ⟨_, last _ on (calm_claimAtNext ..), ?_⟩
      rw [if_neg done, if_neg stepwise, if_neg (by rw [gate]; decide)]
      exact goneOn_tryTune (goneOn_claimAtNext ctx gate)
    · rw [Bool.not_eq_true] at gate
      have e := claimAtNext_shut ctx gate
      refine ⟨_, last _ (on.trans e) (e ▸ calm_claimAtNext ..), ?_⟩
      rw [if_neg done, if_neg stepwise, if_pos gate]
      exact enterWaitGate_waits list (by rw [state]; decide)
  · simp only [exec, execDwellTimerExpiry]; rw [if_neg (by rw [stopped]; simp)]
  · have start : exec (.pauseTimerExpiry l) s = .next (finish (enterIdle l .abandoned s)) := by
      simp only [exec, execPauseTimerExpiry]; rw [if_pos (by rw [timed]; simpa using state)]
    exact ⟨_, start, idle_ends l .abandoned free⟩
  · simp only [exec, execPauseTimerExpiry]; rw [if_neg (by rw [stopped]; simp)]

end
end Sys2Proof.Proofs
end

section
/-! What grants and fence events make of the presence channels: at most they suspend the tune (R101 to R103, R106 to R110,
R172, R175); and the clear timer's expiry (R109, R111). -/

namespace Sys2Proof.Proofs

open Sys2Proof Sys2Proof.Machine Sys2Proof.Safety

section
variable {s t u : State} {l k : LaneId}

/-! ### The suspension of a tune -/

/-- The presence channels once the tune in progress, if any, is suspended (R175). -/
def restedChans (s : State) : Vector ChanRun 12 :=
  match s.presence.tune with
  | none => s.chans
  | some k => put s.chans k.channel { s.chans[k.channel].runsCleared with
      state := k.savedState, baseline := k.savedBaseline, filtered := k.savedFiltered }

/-- From `s` to `t` the presence channels and the tune are the same, but that the tune may have been suspended. -/
structure MaySuspend (s t : State) : Prop where
  ram : t.ram = s.ram
  chans : (t.chans = s.chans ∧ t.presence.tune = s.presence.tune) ∨ (t.chans = restedChans s ∧ t.presence.tune = none)

theorem MaySuspend.of_same (h1 : t.chans = s.chans) (h2 : t.presence.tune = s.presence.tune) (h3 : t.ram = s.ram) :
    MaySuspend s t := ⟨h3, .inl ⟨h1, h2⟩⟩

theorem MaySuspend.refl (s : State) : MaySuspend s s := .of_same rfl rfl rfl

theorem restedChans_congr (h1 : t.chans = s.chans) (h2 : t.presence.tune = s.presence.tune) :
    restedChans t = restedChans s := by simp only [restedChans, h1, h2]

theorem restedChans_idle (h : s.presence.tune = none) : restedChans s = s.chans := by simp only [restedChans, h]

theorem MaySuspend.trans (h : MaySuspend s t) (g : MaySuspend t u) : MaySuspend s u := by
  refine ⟨g.ram.trans h.ram, ?_⟩
  rcases h.chans with ⟨c, e⟩ | ⟨c, e⟩
  · rcases g.chans with ⟨c', e'⟩ | ⟨c', e'⟩
    · exact .inl ⟨c'.trans c, e'.trans e⟩
    · exact .inr ⟨c'.trans (restedChans_congr c e), e'⟩
  · rcases g.chans with ⟨c', e'⟩ | ⟨c', e'⟩
    · exact .inr ⟨c'.trans c, e'.trans e⟩
    · exact .inr ⟨(c'.trans (restedChans_idle e)).trans c, e'⟩

theorem MaySuspend.before (h : MaySuspend t u) (h1 : t.chans = s.chans) (h2 : t.presence.tune = s.presence.tune)
    (h3 : t.ram = s.ram) : MaySuspend s u := (MaySuspend.of_same h1 h2 h3).trans h

theorem MaySuspend.foldl {α : Type} {f : State → α → State} (h : ∀ s x, MaySuspend s (f s x)) (xs : List α) (s : State) :
    MaySuspend s (xs.foldl f s) := by
  induction xs generalizing s with
  | nil => exact .refl s
  | cons x xs ih => exact (h s x).trans (ih (f s x))

theorem suspendTune_chans_tune (s : State) :
    (suspendTune s).chans = restedChans s ∧ (suspendTune s).presence.tune = none := by
  unfold suspendTune restedChans
  split
  · next h => exact ⟨by simp only [h], h⟩
  · next k h => simp only [h]; constructor <;> simp

theorem maySuspend_suspendTune (s : State) : MaySuspend s (suspendTune s) :=
  ⟨ram_of_surr (surr_of_outer (outer_of_calm (calm_suspendTune s))), .inr (suspendTune_chans_tune s)⟩

theorem maySuspend_enterArming (k : LaneId) (s : State) : MaySuspend s (enterArming k s) := by
  unfold enterArming; split
  · exact .refl s
  · exact (maySuspend_suspendTune _).before (by simp) (by simp) (by simp)

theorem maySuspend_grant (e : WaitEntry) (s : State) : MaySuspend s (grant e s) := by
  unfold grant; dsimp only; split
  · exact (maySuspend_enterArming _ _).before rfl rfl rfl
  · exact (maySuspend_enterArming _ _).before rfl rfl rfl

theorem maySuspend_yieldTest (e : WaitEntry) (s : State) : MaySuspend s (yieldTest e s) := by
  unfold yieldTest; split
  · exact (maySuspend_suspendTune _).before rfl rfl rfl
  · exact .refl s

theorem maySuspend_scanOnce (s : State) : MaySuspend s (scanOnce s) := by
  refine .foldl (fun s k => ?_) _ s
  unfold visit; split
  · exact .refl s
  · split
    · exact maySuspend_grant _ _
    · exact maySuspend_yieldTest _ _

theorem maySuspend_rescanned (r s : State) : MaySuspend s (rescanned r s) := by
  unfold rescanned; split
  · exact maySuspend_scanOnce s
  · exact .refl s

theorem maySuspend_scan (s : State) : MaySuspend s (scan s) :=
  (maySuspend_scanOnce s).trans (maySuspend_rescanned _ _)

theorem maySuspend_yieldTests (s : State) : MaySuspend s (yieldTests s) := by
  refine .trans (.foldl (fun s k => ?_) _ s) (maySuspend_rescanned _ _)
  split
  · exact .refl s
  · exact maySuspend_yieldTest _ _

/-- A fence event, whatever views it compares (R106 to R110). -/
theorem maySuspend_fenceEvent (v w : FenceView) (s : State) : MaySuspend s (fenceEvent v w s) := by
  unfold fenceEvent; split
  · exact .refl s
  · extract_lets entered left a b c
    have marked : MaySuspend s a := .of_same rfl rfl rfl
    obtain ⟨-, chans, ram, presence, -⟩ := fenceLanes_sameBut entered a
    have fencing : MaySuspend a b := .of_same chans (congrArg Presence.tune presence) ram
    have lifting : MaySuspend b c := by
      obtain ⟨-, chans, ram, presence, -⟩ := deliverUnfence_sameBut left b
      exact .of_same chans (congrArg Presence.tune presence) ram
    refine (marked.trans (fencing.trans lifting)).trans ?_
    split
    · exact maySuspend_yieldTests _
    · exact maySuspend_scan _

theorem maySuspend_handOn (v : FenceView) (c : ChanId) (s : State) : MaySuspend s (handOn v c s) := by
  unfold handOn; extract_lets g a b
  have event : MaySuspend s a := maySuspend_fenceEvent _ _ s
  have active : MaySuspend a b := .of_same (activate_chans _) (congrArg Presence.tune (activate_presence _)) (activate_ram _)
  refine (event.trans active).trans ?_
  split
  · exact .refl b
  · exact .of_same rfl rfl rfl

/-- The channel whose tune has started stands, with the tune suspended, where it stood before it. -/
theorem restedChans_tuningOf_state (c j : ChanId) (s : State) :
    (restedChans (tuningOf c s))[j].state = s.chans[j].state := by
  have e : restedChans (tuningOf c s) = put (tuningOf c s).chans c { (tuningOf c s).chans[c].runsCleared with
      state := s.chans[c].state, baseline := s.chans[c].baseline, filtered := s.chans[c].filtered } := rfl
  rw [e]
  by_cases h : j = c
  · subst h; rw [put_self]
  · rw [put_other _ h, tuningOf_other s h]

theorem tryTune_eq (s : State) : tryTune s = s ∨
    ∃ c, s.presence.tune = none ∧ anyMotion s = false ∧ tryTune s = handOn (fenceView s) c (tuningOf c s) := by
  unfold tryTune; split
  · exact .inl rfl
  · next c _ =>
    split
    · exact .inl rfl
    · next idle =>
      simp only [Bool.or_eq_true, not_or, Bool.not_eq_true, Option.isSome_eq_false_iff, Option.isNone_iff_eq_none] at idle
      exact .inr ⟨c, idle.1.1.1, idle.1.1.2, rfl⟩

/-- The start of a tune lifts no fence (R107, R172). -/
theorem fenced_tryTune {z : ZoneId} (h : has (fenced s) z = true) : has (fenced (tryTune s)) z = true := by
  rcases tryTune_eq s with e | ⟨c, -, -, e⟩
  · rw [e]; exact h
  · rw [e]
    have may := maySuspend_handOn (fenceView s) c (tuningOf c s)
    have ram : (handOn (fenceView s) c (tuningOf c s)).ram = s.ram := may.ram
    rw [has_fenced] at h ⊢
    obtain ⟨j, away, guard⟩ := h
    refine ⟨j, ?_, by rw [ram]; exact guard⟩
    rcases may.chans with ⟨e, -⟩ | ⟨e, -⟩
    · rw [e]
      by_cases h : j = c
      · subst h; rw [tuningOf_self]; decide
      · rw [tuningOf_other s h]; exact away
    · rw [e, restedChans_tuningOf_state]; exact away

/-! ### The clear timer -/

/-- A lane that holds exactly its sweep set arms, or stays fenced, with nothing to release (R75). -/
theorem armingDecision_covered {c : StepCtx} (h : s.lanes[l].ctx = some c) (ref : s.acts[c.act].referenced = true)
    (held : heldBy s l = c.sweep) :
    armingDecision l s = if meets c.sweep (fenced s) then enterFenced l s else arm l s := by
  have surplus : heldBy s l &&& ~~~c.sweep = 0#12 := set_ext fun z => by
    rw [held, has_and, has_not, has_zero]; cases has c.sweep z <;> rfl
  have nothing : release l 0#12 s = s := by
    unfold release; dsimp only; rw [if_pos]
    exact set_ext fun z => by rw [has_and, has_zero, Bool.false_and]
  unfold armingDecision; rw [h]; dsimp only
  rw [if_pos ref]; unfold armOrFence; rw [h]; dsimp only
  rw [surplus, nothing, ite_self]

/-- A lane with a step has the order to make its relay, and its zones are kept (R118). -/
theorem orders_of_arm {c : StepCtx} (h : s.lanes[l].ctx = some c) (u : Unlisted s l) :
    (arm l s).lanes[l].state = .arming ∧ (arm l s).drives[l] = { s.drives[l].opened with
      connected := some c.act, phase := .making, makeTimer := some makeTime } ∧
    heldBy (arm l s) l = heldBy s l := by
  have isSome : s.lanes[l].ctx.isSome = true := by rw [h]; rfl
  have e : enterArming l s = suspendTune (updLane l (fun r => { r.leaving with state := .arming }) (armOrder l c.act s)) := by
    unfold enterArming; rw [h]
  generalize hv : updLane l (fun r => { r.leaving with state := .arming }) (armOrder l c.act s) = v at e
  have drive : v.drives[l] = { s.drives[l].opened with
      connected := some c.act, phase := .making, makeTimer := some makeTime } := by
    rw [← hv, updLane_drives, armOrder, updDrive_drives, put_self]
  have held : heldBy v l = heldBy s l := heldBy_congr (by rw [← hv, updLane_holders]; rfl) l
  have list : Unlisted v l := by rw [← hv, Unlisted, updLane_waitList]; exact u
  have suspended := spared_suspendTune (l := l) v
  have others := (moves_rescanned (L := fun _ => False) (enterArming l s) s).spared (l := l) id
    (e ▸ suspended.apart.list list)
  refine ⟨state_of_arm isSome, ?_, ?_⟩
  · rw [← drive, ← suspended.apart.drive, ← e]; exact others.apart.drive
  · rw [← held, ← suspended.apart.zones, ← e]; exact others.apart.zones

/-- A lane that is fenced again has fresh timers, whatever tune starts (R109, R111). -/
theorem enterFenced_waits (u : Unlisted s l) (h : meets (heldBy s l) (fenced s) = true) :
    (tryTune (enterFenced l s)).lanes[l].state = .fenced ∧
    (tryTune (enterFenced l s)).lanes[l].totalTimer = some 10000 ∧ (tryTune (enterFenced l s)).lanes[l].clearTimer = none ∧
    heldBy (tryTune (enterFenced l s)) l = heldBy s l := by
  have lane := enterFenced_lanes l s
  have held : heldBy (enterFenced l s) l = heldBy s l := heldBy_congr (enterFenced_holders l s) l
  have fences : fenced (enterFenced l s) = fenced s := fenced_congr (enterFenced_chans l s) (by rw [enterFenced_ram])
  have list : Unlisted (enterFenced l s) l := by rw [Unlisted, enterFenced_waitList]; exact u
  have sp := spared_tryTune list
  have state := enterFenced_state l s
  have total : (tryTune (enterFenced l s)).lanes[l].totalTimer = (enterFenced l s).lanes[l].totalTimer := by
    have same := congrArg Lane.totalTimer sp.apart.record; exact same
  have meeting : meets (heldBy (tryTune (enterFenced l s)) l) (fenced (tryTune (enterFenced l s))) = true := by
    obtain ⟨z, hz, fz⟩ := meets_iff.1 h
    refine meets_iff.2 ⟨z, by rw [sp.apart.zones, held]; exact hz, fenced_tryTune (by rw [fences]; exact fz)⟩
  refine ⟨sp.apart.state.trans state, ?_, ?_, sp.apart.zones.trans held⟩
  · rw [total, lane, put_self]
  · rw [clearTimer_tryTune state list, if_pos meeting]
    rw [lane, put_self, held, fences, h]; rfl

/-- Settles O42, by the hold and by the fences of the sweep set. -/
theorem clearTimerTakesUpTheMotion : Obligations.ClearTimerTakesUpTheMotion := by
  intro s l w
  refine ⟨fun state timed hold lapsed => ?_, fun c ctx state timed current ref held => ?_, fun stopped => ?_⟩
  · refine ⟨_, ?_, pausedAt_enterPaused l .holdLapsed .motion s, (enterPaused_others l _ _ s).1⟩
    simp only [exec, execClearTimerExpiry]
    rw [if_pos (by rw [state, timed]; rfl), if_pos (by rw [hold, Lane.holdCurrent, lapsed]; rfl)]
  · have start : exec (.clearTimerExpiry l) s = .next (tryTune (armingDecision l s)) := by
      simp only [exec, execClearTimerExpiry]
      rw [if_pos (by rw [state, timed]; rfl), if_neg]
      simpa [-Fin.getElem_fin, Lane.holdCurrent] using current
    have list : Unlisted s l := unlisted_of_state w (by rw [state]; decide)
    rw [armingDecision_covered ctx ref held] at start
    have zones : ∀ u : State, heldBy u l = heldBy s l → KeepsZones s u l := fun u e z hz => by
      have has_z : has (heldBy u l) z = true := by rw [e, has_heldBy]; exact decide_eq_true hz
      rw [has_heldBy] at has_z; exact of_decide_eq_true has_z
    by_cases fence : meets c.sweep (fenced s) = true
    · rw [if_pos fence] at start
      obtain ⟨waits, total, clear, same⟩ := enterFenced_waits list (held ▸ fence)
      refine ⟨_, start, zones _ same, ?_⟩
      rw [if_pos fence]; exact ⟨waits, total, clear⟩
    · rw [if_neg fence] at start
      obtain ⟨arming, drive, same⟩ := orders_of_arm ctx list
      rw [tryTune_of_motion (k := l) (arm l s) (by rw [arming]; rfl)] at start
      refine ⟨_, start, zones _ same, ?_⟩
      rw [if_neg fence, drive]; exact ⟨arming, rfl, rfl, rfl, rfl⟩
  · simp only [exec, execClearTimerExpiry]; rw [if_neg (by rw [stopped]; simp)]

end
end Sys2Proof.Proofs
end

section
/-! The end of a reversal brake (R68, R86, R119, R125, R128, R134, R135, R139, R149). -/

namespace Sys2Proof.Proofs

open Sys2Proof Sys2Proof.Machine Sys2Proof.Safety

section
variable {s t u : State} {l : LaneId} {a : ActId} {dir : Direction}

/-! ### The state that the back-off order leaves, before its distance is evaluated -/

/-- The margins are smaller under GUARD_LOST (R135). -/
theorem margins_eq (r : ActuatorRec) (g : Bool) :
    if g then (margins r g).1 = r.softMargin / 2 ∧ (margins r g).2 = r.softMargin
    else (margins r g).1 = r.softMargin ∧ (margins r g).2 = r.firmMargin := by
  cases g
  · exact ⟨rfl, rfl⟩
  · exact ⟨rfl, rfl⟩

/-- Whether the step context of the lane, if it has one, is under GUARD_LOST. -/
def stepGuardLost (l : LaneId) (s : State) : Bool :=
  match s.lanes[l].ctx with
  | some c => c.guardLost
  | none => false

/-- The load context at the start of a back-off: its margins are the actuator's, its mode the interrupted drive's (R135). -/
def backedLoad (l : LaneId) (a : ActId) (s : State) : Load :=
  s.loads[l].driveStart .backOff s.loads[l].mode (margins s.ram.actuators[a] (stepGuardLost l s))

/-- The channel drives back, and its distance has not been evaluated (R119, R128). -/
def backingOff (l : LaneId) (a : ActId) (dir : Direction) (s : State) : State :=
  updLoad l (fun _ => backedLoad l a s) (startChannel l .backOff none 0 dir .creep (reportDriveStart a dir s))

theorem startBackOff_eq (l : LaneId) (a : ActId) (dir : Direction) (s : State) :
    startBackOff l a dir s = evaluateDrive l (backingOff l a dir s) := by
  unfold startBackOff; dsimp only
  refine congrArg (evaluateDrive l) ?_
  have load : (startChannel l .backOff none 0 dir .creep (reportDriveStart a dir s)).loads[l] = s.loads[l] := by
    simp [-Fin.getElem_fin, startChannel, reportDriveStart]
  simp only [updLoad, load]; rfl

theorem backingOff_lanes (l : LaneId) (a : ActId) (dir : Direction) (s : State) :
    (backingOff l a dir s).lanes = s.lanes := by simp [backingOff, startChannel, reportDriveStart]
theorem backingOff_holders (l : LaneId) (a : ActId) (dir : Direction) (s : State) :
    (backingOff l a dir s).holders = s.holders := by simp [backingOff, startChannel, reportDriveStart]
theorem backingOff_settings (l : LaneId) (a : ActId) (dir : Direction) (s : State) :
    SameSettings s (backingOff l a dir s) := by
  refine ⟨?_, ?_, ?_⟩ <;> simp [backingOff, startChannel, reportDriveStart]
theorem backingOff_drive (l : LaneId) (a : ActId) (dir : Direction) (s : State) :
    (backingOff l a dir s).drives[l] = { s.drives[l] with
      phase := .driving, direction := some dir, duty := 250, kind := some .backOff, endKind := none, aim := 0
      cls := some .creep, slowed := false, blanking := true, stallTime := none, saturation := 0
      makeTimer := none, brakeTimer := none, reversal := false } := by
  simp [-Fin.getElem_fin, backingOff, startChannel, reportDriveStart, startDuty]
theorem backingOff_load (l : LaneId) (a : ActId) (dir : Direction) (s : State) :
    (backingOff l a dir s).loads[l] = backedLoad l a s := by
  rw [backingOff, updLoad_loads, put_self]
theorem backingOff_acts (l : LaneId) (a : ActId) (dir : Direction) (s : State) :
    (backingOff l a dir s).acts = put s.acts a { s.acts[a] with
      manualPulses := 0, lastPolarity := bridge s.ram.actuators[a].sense dir, cond := .driven, runOn := none } := by
  simp [-Fin.getElem_fin, backingOff, startChannel, reportDriveStart]
theorem backingOff_timer (l : LaneId) (a : ActId) (dir : Direction) (s : State) :
    (backingOff l a dir s).supply.timer = none := rfl

theorem backingOff_positions (l : LaneId) (a : ActId) (dir : Direction) (s : State) :
    SamePositions s (backingOff l a dir s) := fun b => by
  rw [backingOff_acts, put_get]; split
  · next e => subst e; exact ⟨rfl, rfl⟩
  · exact ⟨rfl, rfl⟩

theorem backedLoad_started (h : t.loads[l] = backedLoad l a s) : LoadStarted s t l a 20 s.loads[l].mode
    (stepGuardLost l s) ∧ t.loads[l].eligible = s.loads[l].eligible := by
  rw [LoadStarted, h]
  exact ⟨⟨rfl, rfl, rfl, rfl, rfl, rfl, rfl, rfl, margins_eq ..⟩, rfl⟩

/-! ### Its distance -/

/-- The slow-down test of the back-off changes nothing but the drive's mark (R121). -/
def backTested (l : LaneId) (a : ActId) (dir : Direction) (s : State) : State :=
  slowTested l (leftTo dir s.acts[a].position s.drives[l].stopPoint) .creep (backingOff l a dir s)

/-- The back-off ends at once within its coast distance, else the channel drives (R125, R128). -/
theorem startBackOff_ends (connected : s.drives[l].connected = some a) : startBackOff l a dir s =
    if leftTo dir s.acts[a].position s.drives[l].stopPoint ≤ 4 then
      endBackOff l (s.lanes[l].stopDest.getD (.paused .firmContact)) (backTested l a dir s)
    else backTested l a dir s := by
  have drive := backingOff_drive l a dir s
  have position : (backingOff l a dir s).acts[a].position = s.acts[a].position := (backingOff_positions l a dir s a).1
  have goal : (backingOff l a dir s).drives[l].stopPoint = s.drives[l].stopPoint := by rw [drive]
  rw [startBackOff_eq, evaluateDrive_driving (a := a) (c := .creep) (by rw [drive, connected]) (by rw [drive])
    (by rw [drive])]
  dsimp only
  rw [remaining_backOff (dir := dir) (by rw [drive]) (by rw [drive]), position, goal, if_pos (by rw [drive]), backingOff_lanes]
  rfl

theorem backTested_drive (l : LaneId) (a : ActId) (dir : Direction) (s : State) : ∃ b,
    (backTested l a dir s).drives[l] = { (backingOff l a dir s).drives[l] with slowed := b } :=
  ⟨_, slowTested_drive ..⟩

theorem backTested_load (l : LaneId) (a : ActId) (dir : Direction) (s : State) :
    (backTested l a dir s).loads[l] = backedLoad l a s := by
  rw [backTested, slowTested_loads, backingOff_load]

theorem backTested_lanes (l : LaneId) (a : ActId) (dir : Direction) (s : State) :
    (backTested l a dir s).lanes = s.lanes := by rw [backTested, slowTested_lanes, backingOff_lanes]

/-- What the start of a back-off keeps, and what a calm change after it keeps. -/
theorem backTested_keeps (l : LaneId) (a : ActId) (dir : Direction) (s : State) (e : calm t = calm (backTested l a dir s)) :
    SameSettings s t ∧ SamePositions s t := by
  have tested : calm (backTested l a dir s) = calm (backingOff l a dir s) := calm_slowTested ..
  obtain ⟨⟨ram, store, sums⟩, positions, -⟩ := settings_positions_requests_of_calm (e.trans tested)
  obtain ⟨ram', store', sums'⟩ := backingOff_settings l a dir s
  refine ⟨⟨ram.trans ram', store.trans store', sums.trans sums'⟩, fun b => ?_⟩
  obtain ⟨p, r⟩ := positions b
  obtain ⟨p', r'⟩ := backingOff_positions l a dir s b
  exact ⟨p.trans p', r.trans r'⟩

/-! ### The command -/

theorem exec_reversalBrakeEnd (phase : s.drives[l].phase = .braking) (rev : s.drives[l].reversal = true)
    (h : (reversalBrakeEnd l s).lanes[l].state.inMotion = true) :
    exec (.reversalBrakeEnd l) s = .next (reversalBrakeEnd l s) := by
  simp only [exec, execReversalBrakeEnd]
  rw [if_pos (by rw [phase, rev]; rfl), tryTune_of_motion _ h]

/-- Without a distance the lane stops as if its back-off had ended (R128). -/
theorem skipBackOff_stops {dest : StopDest} (phase : s.drives[l].phase = .braking)
    (goal : s.lanes[l].stopDest = some dest) :
    (skipBackOff l s).lanes[l].state = .stopping ∧ (skipBackOff l s).lanes[l].stopDest = some dest ∧
    BackedOff s (skipBackOff l s) l ∧ (skipBackOff l s).drives[l].phase = .braking ∧
    (skipBackOff l s).drives[l].brakeTimer = some 50 ∧ (skipBackOff l s).drives[l].reversal = false ∧
    (skipBackOff l s).holders = s.holders ∧ calm (skipBackOff l s) = calm s := by
  unfold skipBackOff; dsimp only; rw [goal]
  generalize hv : updDrive l (fun d => { d with brakeTimer := some brakeTime, reversal := false }) s = v
  have lanes : v.lanes = s.lanes := by rw [← hv]; rfl
  have loads : v.loads = s.loads := by rw [← hv]; rfl
  have drive : v.drives[l] = { s.drives[l] with brakeTimer := some brakeTime, reversal := false } := by
    rw [← hv, updDrive_drives, put_self]
  have back := endBackOff_backedOff (s := v) (l := l) dest
  rw [BackedOff, lanes, loads] at back
  rw [endBackOff_drives_still _ (by rw [drive, phase]; decide), drive]
  refine ⟨?_, ?_, back, phase, rfl, rfl, ?_, ?_⟩
  · rw [Option.getD_some, endBackOff_lanes, put_self]
  · rw [Option.getD_some, endBackOff_lanes, put_self]
  · rw [endBackOff_holders, ← hv]; rfl
  · rw [calm_endBackOff, ← hv]; rfl

/-- Settles O39, by the distance from the present position to the stop point. -/
theorem reversalBrakeEndStartsTheBackOff : Obligations.ReversalBrakeEndStartsTheBackOff := by
  intro s l phase rev state
  refine ⟨fun a connected w1 direction dest goal here => ?_, fun a connected dir direction far => ?_,
    fun a connected dir direction dest goal away near => ?_⟩
  · have e : reversalBrakeEnd l s = skipBackOff l s := by
      unfold reversalBrakeEnd; simp only [connected, direction]; rw [if_pos here]
    obtain ⟨stops, goes, back, brakes, ms, none_rev, zones, kept⟩ := skipBackOff_stops phase goal
    obtain ⟨settings, positions, -⟩ := settings_positions_requests_of_calm kept
    exact ⟨_, (exec_reversalBrakeEnd phase rev (by rw [e, stops]; rfl)).trans (by rw [e]), stops, goes, back, brakes, ms,
      none_rev, settings, positions, zones⟩
  · have off : s.drives[l].stopPoint ≠ s.acts[a].position := by rcases far with ⟨-, h⟩ | ⟨-, h⟩ <;> omega
    have more : ¬ leftTo dir.flip s.acts[a].position s.drives[l].stopPoint ≤ 4 := by
      rcases far with ⟨rfl, h⟩ | ⟨rfl, h⟩ <;> simp only [leftTo, Direction.flip] <;> omega
    have e : reversalBrakeEnd l s = backTested l a dir.flip s := by
      unfold reversalBrakeEnd; simp only [connected, direction]
      rw [if_neg off, startBackOff_ends connected, if_neg more]
    have lane : (backTested l a dir.flip s).lanes[l] = s.lanes[l] := by rw [backTested_lanes]
    obtain ⟨b, drive⟩ := backTested_drive l a dir.flip s
    rw [backingOff_drive] at drive
    obtain ⟨loaded, eligible⟩ := backedLoad_started (backTested_load l a dir.flip s)
    obtain ⟨settings, positions⟩ := backTested_keeps (t := backTested l a dir.flip s) l a dir.flip s rfl
    refine ⟨_, (exec_reversalBrakeEnd phase rev (by rw [e, lane, state]; rfl)).trans (by rw [e]), by rw [lane, state],
      by rw [lane], by rw [lane], by rw [drive], by rw [drive], by rw [drive], by rw [drive], by rw [drive], loaded, eligible,
      ?_, ?_, ?_, settings, positions, ?_⟩
    · rw [drive]; cases dir <;> rfl
    · rw [backTested, slowTested_acts, backingOff_acts, put_self]
    · rw [backTested, slowTested_supply, backingOff_timer]
    · rw [backTested, slowTested_holders, backingOff_holders]
  · have less : leftTo dir.flip s.acts[a].position s.drives[l].stopPoint ≤ 4 := by
      rcases near with ⟨rfl, h⟩ | ⟨rfl, h⟩ <;> simp only [leftTo, Direction.flip] <;> omega
    obtain ⟨v, hv⟩ : ∃ v, v = backTested l a dir.flip s := ⟨_, rfl⟩
    have e : reversalBrakeEnd l s = endBackOff l dest v := by
      unfold reversalBrakeEnd; simp only [connected, direction]
      rw [if_neg away, startBackOff_ends connected, if_pos less, goal, hv]; rfl
    have lanes : v.lanes = s.lanes := by rw [hv, backTested_lanes]
    obtain ⟨b, drive⟩ := backTested_drive l a dir.flip s
    rw [backingOff_drive, ← hv] at drive
    have stops : (endBackOff l dest v).lanes[l].state = .stopping ∧ (endBackOff l dest v).lanes[l].stopDest = some dest := by
      rw [endBackOff_lanes, put_self]; exact ⟨rfl, rfl⟩
    have load : (endBackOff l dest v).loads[l] = backedLoad l a s := by rw [endBackOff_loads, hv, backTested_load]
    obtain ⟨loaded, eligible⟩ := backedLoad_started load
    obtain ⟨settings, positions⟩ := backTested_keeps (t := endBackOff l dest v) l a dir.flip s (by rw [calm_endBackOff, hv])
    have back := endBackOff_backedOff (s := v) (l := l) dest
    rw [BackedOff, lanes, hv, backTested_load, ← hv] at back
    have driving : v.drives[l].phase = .driving := by rw [drive]
    refine ⟨_, (exec_reversalBrakeEnd phase rev (by rw [e, stops.1]; rfl)).trans (by rw [e]), stops.1, stops.2, back,
      ?_, ?_, ?_, loaded, eligible, settings, positions, ?_⟩
    · rw [endBackOff_drives, brake_drives, if_pos driving, put_self, drive]
    · rw [Braking, endBackOff_drives]; exact braking_brake driving
    · have at_a : v.drives[l].connected = some a := by rw [drive]; exact connected
      rw [endBackOff_acts, brake_acts, driving, at_a]; dsimp only; rw [put_self]
    · rw [endBackOff_holders, hv, backTested, slowTested_holders, backingOff_holders]

end
end Sys2Proof.Proofs
end

section
/-! What a lane carries along on its way to the next motion, and what a step's zones become (R70, R72, R74, R75, R104). -/

namespace Sys2Proof.Proofs

open Sys2Proof Sys2Proof.Machine Sys2Proof.Safety

section
variable {s t u v : State} {l k : LaneId} {a : ActId} {c : StepCtx}

/-! ### What a lane carries along -/

/-- A lane record but for its state, what belongs to the state, and its incidents. -/
def runOf (r : Lane) : Lane := { baseOf r with incidents := 0#7 }

/-- The record `r'` carries along the run of `r`, and the incidents noted. -/
structure Going (r r' : Lane) : Prop where
  run : runOf r' = runOf r
  noted : ∀ i : BitVec 7, r.incidents &&& i = i → r'.incidents &&& i = i

theorem Going.refl (r : Lane) : Going r r := ⟨rfl, fun _ h => h⟩
theorem Going.trans {r r' r'' : Lane} (h : Going r r') (g : Going r' r'') : Going r r'' :=
  ⟨g.run.trans h.run, fun i hi => g.noted i (h.noted i hi)⟩

theorem going_of_base {r r' : Lane} (h : baseOf r' = baseOf r) : Going r r' := by
  have incidents : r'.incidents = r.incidents := by have same := congrArg Lane.incidents h; exact same
  exact ⟨congrArg (fun x : Lane => { x with incidents := 0#7 }) h, fun i hi => by rw [incidents]; exact hi⟩

theorem Left.going {r r' : Lane} (h : Left r r') : Going r r' := going_of_base h.base

theorem Going.ctx {r r' : Lane} (h : Going r r') : r'.ctx = r.ctx := by
  have same := congrArg Lane.ctx h.run; exact same
theorem Going.stepsCompleted {r r' : Lane} (h : Going r r') : r'.stepsCompleted = r.stepsCompleted := by
  have same := congrArg Lane.stepsCompleted h.run; exact same
theorem Going.currentStep {r r' : Lane} (h : Going r r') : r'.currentStep = r.currentStep := by
  have same := congrArg Lane.currentStep h.run; exact same
theorem Going.curAct {r r' : Lane} (h : Going r r') : r'.curAct = r.curAct := by
  have same := congrArg Lane.curAct h.run; exact same
theorem Going.mode {r r' : Lane} (h : Going r r') : r'.mode = r.mode := by
  have same := congrArg Lane.mode h.run; exact same

theorem going_tryTune (l : LaneId) (s : State) : Going s.lanes[l] (tryTune s).lanes[l] :=
  ((moves_tryTune (L := fun _ => False) s).left id).going

theorem going_enterFenced (l : LaneId) (s : State) : Going s.lanes[l] (enterFenced l s).lanes[l] := by
  rw [enterFenced_lanes, put_self]; exact ⟨rfl, fun i hi => or_and_of_and _ hi⟩

theorem going_arm (l : LaneId) (s : State) : Going s.lanes[l] (arm l s).lanes[l] :=
  (left_enterArming l l s).going.trans ((moves_rescanned (L := fun _ => False) (enterArming l s) s).left id).going

theorem going_armOrFence (l : LaneId) (s : State) : Going s.lanes[l] (armOrFence l s).lanes[l] := by
  have last : ∀ (c : StepCtx) (v : State),
      Going v.lanes[l] (if meets c.sweep (fenced v) then enterFenced l v else arm l v).lanes[l] := by
    intro c v; split
    · exact going_enterFenced l v
    · exact going_arm l v
  unfold armOrFence; split
  · exact .refl _
  · dsimp only; split
    · exact (left_release l _ s).going.trans (last _ _)
    · exact last _ s

theorem going_join (l : LaneId) (s : State) : Going s.lanes[l] (join l s).lanes[l] := by
  unfold join; split
  · exact .refl _
  · next c _ =>
    refine (left_releaseAll l s).going.trans ?_
    generalize releaseAll l s = v
    have scanned := (moves_scan (L := fun _ => False) (updLane l
      (fun r => { r.leaving with state := .claiming, claimTimer := some claimTime })
      { v with waitList := v.waitList ++ [⟨l, c.sweep, some yieldTime, false⟩] })).left (l := l) id
    rw [updLane_lanes, put_self] at scanned
    exact going_of_base scanned.base

/-- The ARMING decision of a motion that its actuator's reference allows (R75). -/
def Ready (s : State) (c : StepCtx) : Prop := s.acts[c.act].referenced = true ∨ c.motion = .homing

theorem armingDecision_ready (h : s.lanes[l].ctx = some c) (ready : Ready s c) : armingDecision l s = armOrFence l s := by
  unfold armingDecision; rw [h]; dsimp only
  by_cases ref : s.acts[c.act].referenced = true
  · rw [if_pos ref]
  · rw [if_neg ref, ready.resolve_left ref]

/-! ### The sweep set -/

/-- A lane record with a sweep set, its guard-lost test and the FAST reduction written into the step context (R74). -/
def sweptRecord (zs : ZoneSet) (gl : Bool) (r : Lane) : Lane :=
  { r with
    ctx := r.ctx.map fun c => { c with sweep := zs, guardLost := gl, cls := c.classWith gl }
    incidents := if gl then r.incidents ||| incGuardLost else r.incidents }

theorem setSweep_lane (l : LaneId) (zs : ZoneSet) (s : State) :
    (setSweep l zs s).lanes[l] = sweptRecord zs (meets zs (guardLostZones s)) s.lanes[l] := by
  unfold setSweep; dsimp only; rw [updLane_lanes, put_self]; rfl

theorem computeSweep_lane (h : s.lanes[l].ctx = some c) : (computeSweep l s).lanes[l] =
    sweptRecord (sweepOf s c) (meets (sweepOf s c) (guardLostZones s)) s.lanes[l] := by
  unfold computeSweep; rw [h]; exact setSweep_lane ..

/-- A property of lane records that every operation on the way to the next motion keeps. -/
structure Carried (zs : ZoneSet) (P : Lane → Prop) : Prop where
  going : ∀ r r', Going r r' → P r → P r'
  swept : ∀ r gl, P r → P (sweptRecord zs gl r)

/-- With its gate holding, a lane goes on with all that it carries (R74, R75, R82). -/
theorem Carried.claimAtNext {P : Lane → Prop} (h : s.lanes[l].ctx = some c) (ready : Ready s c)
    (carried : Carried (sweepOf s c) P) (start : P s.lanes[l]) : P (claimAtNext l s).lanes[l] := by
  unfold Machine.claimAtNext; rw [h]; dsimp only; split
  · unfold enterWaitGate
    have own : (updLane l (fun r => { r.leaving with state := .waitGate, gateTimer := some gateTime })
        (releaseAll l s)).lanes[l] = { (releaseAll l s).lanes[l].leaving with
          state := .waitGate, gateTimer := some gateTime } := by rw [updLane_lanes, put_self]
    rw [own]
    exact carried.going _ _ ((left_releaseAll l s).going.trans (going_of_base rfl)) start
  · split
    · rw [armingDecision_ready h ready]; exact carried.going _ _ (going_armOrFence l s) start
    · refine carried.going _ _ (going_join l (computeSweep l s)) ?_
      rw [computeSweep_lane h]; exact carried.swept _ _ start

/-! ### The release of what a new sweep set does not hold -/

/-- A lane off the wait list that releases all zones but `zs` keeps those of `zs`, and nothing else of it changes (R104). -/
theorem release_kept (u : Unlisted s l) (zs : ZoneSet) : ∃ v, Spared l v (release l (heldBy s l &&& ~~~zs) s) ∧
    heldBy v l = heldBy s l &&& zs ∧ v.lanes = s.lanes ∧ v.drives = s.drives ∧ Unlisted v l := by
  have own : heldBy s l &&& ~~~zs &&& heldBy s l = heldBy s l &&& ~~~zs := set_ext fun z => by
    simp only [has_and]; cases has (heldBy s l) z <;> simp
  by_cases h : heldBy s l &&& ~~~zs = 0#12
  · have e : release l (heldBy s l &&& ~~~zs) s = s := by unfold release; rw [own, if_pos h]
    refine ⟨s, by rw [e]; exact .refl, set_ext fun z => ?_, rfl, rfl, u⟩
    have out := congrArg (fun x => has x z) h
    simp only [has_and, has_not, has_zero] at out ⊢
    cases hz : has (heldBy s l) z
    · rfl
    · rw [hz, Bool.true_and] at out; simpa using out
  · have e : release l (heldBy s l &&& ~~~zs) s =
        scan (mark (.lane l) (mark .sets (setHolders (heldBy s l &&& ~~~zs) none s))) := by
      unfold release; rw [own, if_neg h]
    refine ⟨mark (.lane l) (mark .sets (setHolders (heldBy s l &&& ~~~zs) none s)), ?_, set_ext fun z => ?_, rfl, rfl, u⟩
    · rw [e]; exact (moves_scan (L := fun _ => False) _).spared id u
    · have kept : has (heldBy (setHolders (heldBy s l &&& ~~~zs) none s) l) z = has (heldBy s l &&& zs) z := by
        rw [has_heldBy]; simp only [setHolders, tab_get, has_and, has_not, has_heldBy]
        by_cases g : s.holders[z] = some l
        · cases has zs z <;> simp [-Fin.getElem_fin, g]
        · simp [-Fin.getElem_fin, g]
      exact kept

end
end Sys2Proof.Proofs
end

section
/-! The end of SETTLING: what stands before its verdict, and the completion of a step (R70, R72, R79 to R83, R150). -/

namespace Sys2Proof.Proofs

open Sys2Proof Sys2Proof.Machine Sys2Proof.Safety

section
variable {s t u v : State} {l k : LaneId} {a b : ActId} {c : StepCtx} {n : StepId}

/-! ### The state before the verdict -/

/-- The capture, the opening of the relay and the gate re-evaluation at a brake end (R8, R73, R117). -/
def braked (l : LaneId) (a : ActId) (s : State) : State := gateEvent (openRelay l (capture a s))

theorem brakeEnd_braked (hs : s.lanes[l].state = .settling) (hc : s.drives[l].connected = some a) :
    brakeEnd l s = settlingEnd l (braked l a s) := by
  unfold brakeEnd; simp only [hs, hc, if_true]; rfl

theorem spared_gateEvent (u : Unlisted s l) (h : s.lanes[l].state ≠ .waitGate) : Spared l s (gateEvent s) := by
  unfold gateEvent
  generalize allLanes = xs
  induction xs generalizing s with
  | nil => exact .refl
  | cons x xs ih =>
    have one : Spared l s (testGate s x) := by
      by_cases e : l = x
      · subst e; unfold testGate; rw [if_neg h]; exact .refl
      · exact (moves_testGate (L := (· = x)) s fun _ => rfl).spared e u
    exact one.trans (ih (one.apart.list u) (by rw [one.apart.state]; exact h))

theorem maySuspend_releaseAll (k : LaneId) (s : State) : MaySuspend s (releaseAll k s) := by
  unfold releaseAll release; dsimp only; split
  · exact .refl s
  · exact (maySuspend_scan _).before rfl rfl rfl

theorem maySuspend_join (k : LaneId) (s : State) : MaySuspend s (join k s) := by
  unfold join; split
  · exact .refl s
  · refine (maySuspend_releaseAll k s).trans ?_
    exact (maySuspend_scan _).before (by simp) (by simp) (by simp)

theorem maySuspend_claim (k : LaneId) (s : State) : MaySuspend s (claim k s) := by
  refine .trans (.of_same ?_ ?_ ?_) (maySuspend_join k (computeSweep k s)) <;>
    (unfold computeSweep; split) <;> simp [setSweep]

theorem maySuspend_gateEvent (s : State) : MaySuspend s (gateEvent s) := by
  refine .foldl (fun s k => ?_) _ s
  unfold testGate; split
  · split
    · exact .refl s
    · split
      · exact maySuspend_claim k s
      · exact .refl s
  · exact .refl s

/-- A suspension of the tune keeps what is guard-lost (R18). -/
theorem MaySuspend.guardLost (h : MaySuspend s t) (d : ChanId) : t.chans[d].guardLost = s.chans[d].guardLost := by
  have rested : (restedChans s)[d].guardLost = s.chans[d].guardLost := by
    unfold restedChans; split
    · rfl
    · next k _ =>
      by_cases e : d = k.channel
      · subst e; rw [put_self]; rfl
      · rw [put_other _ e]
  rcases h.chans with ⟨e, -⟩ | ⟨e, -⟩
  · rw [e]
  · rw [e, rested]

/-- Of an actuator's record only what a capture and an adaptation write may differ. -/
def SameReach (r r' : ActuatorRec) : Prop :=
  ∃ x y z p, r' = { r with storedPosition := x, storedReferenced := y, motionMark := z, profile := p }

theorem SameReach.travel {r r' : ActuatorRec} (h : SameReach r r') : r'.travel = r.travel := by
  obtain ⟨x, y, z, p, rfl⟩ := h; rfl
theorem SameReach.spanSweep {r r' : ActuatorRec} (h : SameReach r r') (p q : Nat) : spanSweep r' p q = spanSweep r p q := by
  obtain ⟨x, y, z, p, rfl⟩ := h; rfl
theorem SameReach.fullSweep {r r' : ActuatorRec} (h : SameReach r r') : fullSweep r' = fullSweep r := by
  obtain ⟨x, y, z, p, rfl⟩ := h; rfl

/-- The lane of `s` stands in `v` before the verdict on its motion, but for incidents noted on the way. -/
structure Ended (l : LaneId) (a : ActId) (s v : State) : Prop where
  base : BrakeOver l a s v
  lane : Going s.lanes[l] v.lanes[l]
  state : v.lanes[l].state = .settling
  reach : ∀ b : ActId, SameReach s.ram.actuators[b] v.ram.actuators[b]
  steps : v.ram.steps = s.ram.steps
  guards : v.ram.channels = s.ram.channels
  lost : ∀ d : ChanId, v.chans[d].guardLost = s.chans[d].guardLost

theorem braked_lane (w : WaitListFits s) (hs : s.lanes[l].state = .settling) :
    Spared l (openRelay l (capture a s)) (braked l a s) :=
  spared_gateEvent (s := openRelay l (capture a s)) (unlisted_of_state (s := s) w (by rw [hs]; decide))
    (by rw [openRelay_lanes, capture_lanes, hs]; decide)

theorem calm_braked (l : LaneId) (a : ActId) (s : State) : calm (braked l a s) = calm (capture a s) :=
  (calm_gateEvent _).trans (calm_openRelay ..)

theorem ended_braked (w : WaitListFits s) (hs : s.lanes[l].state = .settling) : Ended l a s (braked l a s) := by
  obtain ⟨base, -⟩ := brakeOver_gateEvent (a := a) (unlisted_of_state w (by rw [hs]; decide) : Unlisted s l)
    (by rw [hs]; decide)
  have sp := braked_lane (a := a) w hs
  have lane : (braked l a s).lanes[l] = s.lanes[l] := sp.record (by rw [openRelay_lanes, capture_lanes, hs]; decide)
  have may := maySuspend_gateEvent (openRelay l (capture a s))
  have ram : (braked l a s).ram = (capture a s).ram := may.ram
  refine ⟨base, by rw [lane]; exact .refl _, by rw [lane, hs], fun b => ?_, by rw [ram]; rfl, by rw [ram]; rfl, may.guardLost⟩
  rw [ram, capture, writeActuator, writeGroup, Settings.onActuator]; dsimp only
  rw [put_get]; split
  · next e => subst e; exact ⟨_, _, _, _, rfl⟩
  · exact ⟨_, _, _, _, rfl⟩

theorem Ended.adapted (e : Ended l a s v) (c : StepCtx) : Ended l a s (adapted l c v) := by
  obtain ⟨base, lane, state, reach, steps, guards, lost⟩ := e
  refine ⟨base.adapted c, by rw [(adapted_kept l c v).2]; exact lane, by rw [(adapted_kept l c v).2]; exact state,
    fun b => ?_, ?_, ?_, fun d => ?_⟩
  · unfold Proofs.adapted; split
    · obtain ⟨-, -, -, -, -, -, acts⟩ := adapt_kept l c.act v
      obtain ⟨p, q, ram, -⟩ := acts b
      obtain ⟨x, y, z, o, e⟩ := reach b
      exact ⟨x, y, z, p, by rw [ram, e]⟩
    · exact reach b
  · rw [← steps]; unfold Proofs.adapted adapt; dsimp only; (repeat' split) <;> rfl
  · rw [← guards]; unfold Proofs.adapted adapt; dsimp only; (repeat' split) <;> rfl
  · rw [← lost]; unfold Proofs.adapted adapt; dsimp only; (repeat' split) <;> rfl

/-- An incident noted on the way. -/
theorem Ended.note (e : Ended l a s v) (i : BitVec 7) : Ended l a s (note l i v) := by
  obtain ⟨base, lane, state, reach, steps, guards, lost⟩ := e
  have own : (Machine.note l i v).lanes[l] = { v.lanes[l] with incidents := v.lanes[l].incidents ||| i } := by
    rw [Machine.note, updLane_lanes, put_self]
  refine ⟨base.updLane _, ?_, by rw [own]; exact state, ?_, ?_, ?_, ?_⟩
  · rw [own]; exact lane.trans ⟨rfl, fun j hj => or_and_of_and _ hj⟩
  all_goals simp only [Machine.note, updLane_ram, updLane_chans]
  · exact reach
  · exact steps
  · exact guards
  · exact lost

theorem note_noted (l : LaneId) (i : BitVec 7) (s : State) : (note l i s).lanes[l].incidents &&& i = i := by
  rw [note, updLane_lanes, put_self]; exact or_and_right_self ..

theorem Ended.guardLostZones (e : Ended l a s v) : guardLostZones v = guardLostZones s := by
  simp only [Machine.guardLostZones, guardUnion, e.lost, e.guards]

theorem Ended.gateHolds (e : Ended l a s v) (g : Option Gate) : gateHolds v g = gateHolds s g := by
  cases g with
  | none => rfl
  | some g =>
    obtain ⟨position, referenced⟩ := e.base.positions g.act
    simp only [Machine.gateHolds, position, referenced]

/-! ### The verdict on a step -/

theorem onTarget_iff (s : State) (c : StepCtx) :
    s.acts[c.act].position - c.pt + (c.pt - s.acts[c.act].position) ≤ tolerance ↔ OnTarget s c := by
  simp only [tolerance, OnTarget]; omega

/-- A correction is noted as guard-lost when its zones are (R18). -/
def lostNoted (l : LaneId) (zs : ZoneSet) (s : State) : State :=
  if meets zs (guardLostZones s) then note l incGuardLost s else s

theorem Ended.lostNoted (e : Ended l a s v) (zs : ZoneSet) : Ended l a s (lostNoted l zs v) := by
  unfold Proofs.lostNoted; split
  · exact e.note _
  · exact e

theorem Ended.covers (e : Ended l a s v) (zs : ZoneSet) : covers v l zs = subset zs (heldBy s l) := by
  rw [Machine.covers, e.base.zones]

/-- The step context of a correction (R79). -/
def corrected (zs : ZoneSet) (gl : Bool) (c : StepCtx) : StepCtx :=
  { c with correctionUsed := true, motion := .correction, sweep := zs, guardLost := gl }

/-- The zones of a correction in the state of the verdict (R79). -/
def correctionZones (c : StepCtx) (s : State) : ZoneSet :=
  spanSweep s.ram.actuators[c.act] s.acts[c.act].position c.pt ||| c.step.extra

/-- The verdict on a step after its adaptation (R79). -/
theorem stepEnd_eq (l : LaneId) (o : Option PendingOrder) (c : StepCtx) (s : State) : stepEnd l o c s =
    (let u := adapted l c s
     let zs := correctionZones c u
     if u.acts[c.act].position - c.pt + (c.pt - u.acts[c.act].position) ≤ tolerance then completeStep l o c u
     else if c.correctionUsed then completeStep l o c (note l incOffTarget u)
     else if covers (lostNoted l zs u) l zs then
       let w := updCtx l (corrected zs (meets zs (guardLostZones u))) (lostNoted l zs u)
       match o with
       | some (.cancel r) => enterIdle l r w
       | some (.halt reason) => enterPaused l reason .motion w
       | _ => armingDecision l w
     else completeStep l o c (note l incOffTarget (lostNoted l zs u))) := rfl

theorem Ended.correctionZones (e : Ended l a s v) (c : StepCtx) : correctionZones c v = correctionSweep s c := by
  rw [Proofs.correctionZones, (e.reach c.act).spanSweep, (e.base.positions c.act).1]; rfl

/-- A step that needs no correction, or can have none, is complete (R79). -/
theorem stepEnd_done (e : Ended l a s v) (o : Option PendingOrder) (done : StepOver s l c) :
    ∃ u, Ended l a s u ∧ (¬ OnTarget s c → u.lanes[l].incidents &&& 0x08#7 = 0x08#7) ∧
      stepEnd l o c v = completeStep l o c u := by
  have e1 := e.adapted c
  rw [stepEnd_eq]; dsimp only
  rw [e1.correctionZones, (e1.base.positions c.act).1, (e1.lostNoted _).covers]
  by_cases on : OnTarget s c
  · exact ⟨_, e1, fun n => absurd on n, if_pos ((onTarget_iff s c).2 on)⟩
  · rw [if_neg fun h => on ((onTarget_iff s c).1 h)]
    by_cases used : c.correctionUsed = true
    · exact ⟨_, e1.note _, fun _ => note_noted .., if_pos used⟩
    · have short := (done.resolve_left on).resolve_left used
      rw [if_neg used, if_neg (by rw [short]; decide)]
      exact ⟨_, (e1.lostNoted _).note _, fun _ => note_noted .., rfl⟩

/-- A first miss whose correction the held zones cover is corrected (R79). -/
theorem stepEnd_corrects (e : Ended l a s v) (o : Option PendingOrder) (off : ¬ OnTarget s c)
    (first : c.correctionUsed = false) (cover : subset (correctionSweep s c) (heldBy s l) = true) :
    ∃ u, Ended l a s u ∧ stepEnd l o c v =
      (let w := updCtx l (corrected (correctionSweep s c) (meets (correctionSweep s c) (guardLostZones s))) u
       match o with
       | some (.cancel r) => enterIdle l r w
       | some (.halt reason) => enterPaused l reason .motion w
       | _ => armingDecision l w) := by
  have e1 := e.adapted c
  rw [stepEnd_eq]; dsimp only
  rw [e1.correctionZones, (e1.base.positions c.act).1, (e1.lostNoted _).covers, e1.guardLostZones,
    if_neg fun h => off ((onTarget_iff s c).1 h), if_neg (by rw [first]; decide), if_pos cover]
  exact ⟨_, e1.lostNoted _, rfl⟩

end
end Sys2Proof.Proofs
end

section
/-! The completion of a step: its successor is loaded, or the track ends (R70, R72, R79 to R83, R86, R150). -/

namespace Sys2Proof.Proofs

open Sys2Proof Sys2Proof.Machine Sys2Proof.Safety

section
variable {s t u v : State} {l k : LaneId} {a b : ActId} {c : StepCtx} {n : StepId}

/-! ### A record written as the command ends -/

/-- A record written into a lane off the wait list stands when a tune starts, with the lane's zones (R172). -/
theorem tryTune_updLane {f : Lane → Lane} (h : Unlisted v l) (state : (f v.lanes[l]).state ≠ .fenced) :
    (tryTune (updLane l f v)).lanes[l] = f v.lanes[l] ∧ heldBy (tryTune (updLane l f v)) l = heldBy v l := by
  have own : (updLane l f v).lanes[l] = f v.lanes[l] := by rw [updLane_lanes, put_self]
  have list : Unlisted (updLane l f v) l := by rw [Unlisted, updLane_waitList]; exact h
  refine ⟨(tryTune_lane list (by rw [own]; exact state)).trans own, ?_⟩
  rw [(spared_tryTune list).apart.zones]; exact heldBy_congr (updLane_holders ..) l

/-! ### The successor -/

/-- The step context of a step record that has been loaded, its sweep set still to be computed (R70, R72). -/
def loadedCtx (rec : StepRec) (b : ActId) (s : State) : StepCtx :=
  { step := rec, act := b, p0 := s.acts[b].position, endKind := (resolve s.ram.actuators[b].travel rec.target).1
    pt := (resolve s.ram.actuators[b].travel rec.target).2.1
    motion := if s.acts[b].referenced then .step else .homing, homingPending := !s.acts[b].referenced
    correctionUsed := false, cls := rec.cls, slowDropped := false, sweep := 0#12, guardLost := false, completed := false }

/-- What the lane record carries once the step has been handed over (R72). -/
structure HandedOn (x : StepCtx) (zs : ZoneSet) (n : StepId) (b : ActId) (count : Nat) (miss : Prop) (r : Lane) : Prop where
  ctx : ∃ gl cls, r.ctx = some { x with sweep := zs, guardLost := gl, cls := cls }
  step : r.currentStep = some (.stored n)
  act : r.curAct = some b
  count : r.stepsCompleted = count
  noted : miss → r.incidents &&& 0x08#7 = 0x08#7

theorem carried_handedOn (x : StepCtx) (zs : ZoneSet) (n : StepId) (b : ActId) (count : Nat) (miss : Prop) :
    Carried zs (HandedOn x zs n b count miss) := by
  refine ⟨fun r r' g h => ?_, fun r gl h => ?_⟩
  · obtain ⟨ctx, step, act, steps, noted⟩ := h
    exact ⟨by rw [g.ctx]; exact ctx, by rw [g.currentStep]; exact step, by rw [g.curAct]; exact act,
      by rw [g.stepsCompleted]; exact steps, fun m => g.noted _ (noted m)⟩
  · obtain ⟨⟨old, cls, ctx⟩, step, act, steps, noted⟩ := h
    refine ⟨⟨gl, _, by rw [sweptRecord, ctx]; rfl⟩, step, act, steps, fun m => ?_⟩
    exact note_and _ _ (noted m)

/-- One step more is complete (R80). -/
def counted (l : LaneId) (s : State) : State := updLane l (fun r => { r with stepsCompleted := r.stepsCompleted + 1 }) s

/-- The sweep set of the lane's step context, if it has one (R74). -/
def sweepSet (l : LaneId) (s : State) : ZoneSet :=
  match s.lanes[l].ctx with
  | some c => c.sweep
  | none => 0#12

/-- The step `n` is loaded, and the zones outside its sweep set are released (R72, R81). -/
def handed (l : LaneId) (n : StepId) (s : State) : State :=
  let u := computeSweep l (loadStep l s.ram.steps[n] (.stored n) s)
  release l (heldBy u l &&& ~~~sweepSet l u) u

theorem completeStep_next (h : c.step.next = some n) : completeStep l none c s =
    (let v := handed l n (counted l s)
     if 0 < c.step.dwell then updLane l (fun r => { r.leaving with
       state := .dwell, dwellTimer := some (c.step.dwell * 10) }) v
     else if v.lanes[l].mode = some .stepwise then enterWaitAdvance l v
     else claimAtNext l v) := by
  unfold completeStep; simp only [h]; rfl

theorem completeStep_next_halt {r : PauseReason} (h : c.step.next = some n) :
    completeStep l (some (.halt r)) c s = enterPaused l r .afterStep (handed l n (counted l s)) := by
  unfold completeStep; simp only [h]; rfl

theorem completeStep_last_halt {r : PauseReason} (h : c.step.next = none) : completeStep l (some (.halt r)) c s =
    if c.step.dwell = 0 then enterIdle l .completed (counted l s)
    else enterPaused l r .afterStep (updCtx l (fun c => { c with completed := true }) (counted l s)) := by
  unfold completeStep; simp only [h]; rfl

theorem completeStep_cancel (r : Result) : completeStep l (some (.cancel r)) c s = enterIdle l r (counted l s) := rfl

theorem calm_handed (l : LaneId) (n : StepId) (s : State) : calm (handed l n s) = calm s := by
  unfold handed; dsimp only; rw [calm_release, calm_computeSweep, calm_loadStep]

/-- The lane of `u` stands in `v` with the step `n` handed over (R72, R81). -/
structure Handed (l : LaneId) (n : StepId) (b : ActId) (miss : Prop) (u v : State) : Prop where
  lane : HandedOn (loadedCtx u.ram.steps[n] b u) (sweepOf u (loadedCtx u.ram.steps[n] b u)) n b
    (u.lanes[l].stepsCompleted + 1) miss v.lanes[l]
  mode : v.lanes[l].mode = u.lanes[l].mode
  state : v.lanes[l].state = u.lanes[l].state
  zones : heldBy v l = heldBy u l &&& sweepOf u (loadedCtx u.ram.steps[n] b u)
  list : Unlisted v l
  calm : Machine.calm v = Machine.calm u

theorem sweepOf_congr (h : t.ram = s.ram) (c : StepCtx) : sweepOf t c = sweepOf s c := by simp only [sweepOf, h]

theorem loadedCtx_congr (h : t.ram = s.ram) (g : t.acts = s.acts) (rec : StepRec) (b : ActId) :
    loadedCtx rec b t = loadedCtx rec b s := by simp only [loadedCtx, h, g]

theorem loadStep_lane {rec : StepRec} (h : rec.actuator = some b) (cur : CurStep) (l : LaneId) (s : State) : ∃ i,
    (loadStep l rec cur s).lanes[l] = { s.lanes[l] with
      ctx := some (loadedCtx rec b s), currentStep := some cur, curAct := some b, incidents := i } ∧
    ∀ j : BitVec 7, s.lanes[l].incidents &&& j = j → i &&& j = j := by
  refine ⟨if (resolve s.ram.actuators[b].travel rec.target).2.2 then s.lanes[l].incidents ||| incClamped
    else s.lanes[l].incidents, ?_, fun j hj => note_and _ _ hj⟩
  unfold loadStep; rw [h]; dsimp only
  rw [updLoad_lanes, updLane_lanes, put_self]; rfl

theorem handed_handed {miss : Prop} (list : Unlisted u l) (state : u.lanes[l].state ≠ .fenced)
    (act : u.ram.steps[n].actuator = some b) (noted : miss → u.lanes[l].incidents &&& 0x08#7 = 0x08#7) :
    Handed l n b miss u (handed l n (counted l u)) := by
  have ram : (counted l u).ram = u.ram := updLane_ram ..
  have acts : (counted l u).acts = u.acts := updLane_acts ..
  have own : (counted l u).lanes[l] = { u.lanes[l] with stepsCompleted := u.lanes[l].stepsCompleted + 1 } := by
    rw [counted, updLane_lanes, put_self]
  obtain ⟨i, loaded, keeps⟩ := loadStep_lane (s := counted l u) act (.stored n) l
  rw [own, loadedCtx_congr ram acts] at loaded
  rw [own] at keeps
  have kept : calm (handed l n (counted l u)) = calm u := by rw [calm_handed, counted, calm_updLane]
  unfold handed at kept ⊢; rw [ram] at kept ⊢; dsimp only at kept ⊢
  obtain ⟨x, hx⟩ : ∃ x, x = loadedCtx u.ram.steps[n] b u := ⟨_, rfl⟩
  rw [← hx] at loaded
  generalize hw : loadStep l u.ram.steps[n] (.stored n) (counted l u) = w at loaded kept ⊢
  have sweep : sweepOf w x = sweepOf u x := sweepOf_congr (by rw [← hw, loadStep_ram, ram]) x
  have swept := computeSweep_lane (s := w) (l := l) (c := x) (by rw [loaded])
  rw [sweep] at swept
  have zones : heldBy (computeSweep l w) l = heldBy u l := by
    refine heldBy_congr ?_ l
    rw [computeSweep_holders, ← hw, loadStep_holders, counted, updLane_holders]
  have list' : Unlisted (computeSweep l w) l := by
    rw [Unlisted, computeSweep_waitList, ← hw, loadStep_waitList, counted, updLane_waitList]; exact list
  have ctx : sweepSet l (computeSweep l w) = sweepOf u x := by rw [sweepSet, swept, sweptRecord, loaded]; rfl
  rw [ctx] at kept ⊢
  obtain ⟨v, sp, held, lanes, -, list''⟩ := release_kept list' (sweepOf u x)
  have record : (release l (heldBy (computeSweep l w) l &&& ~~~sweepOf u x) (computeSweep l w)).lanes[l] =
      (computeSweep l w).lanes[l] := by
    rw [sp.record (by rw [lanes, swept, sweptRecord, loaded]; exact state), lanes]
  refine ⟨?_, ?_, ?_, by rw [sp.apart.zones, held, zones, hx], sp.apart.list list'', kept⟩
  · rw [record, swept, ← hx]
    refine (carried_handedOn x (sweepOf u x) n b _ miss).going _ _ (.refl _) ⟨?_, ?_, ?_, ?_, fun m => ?_⟩
    · exact ⟨_, _, by rw [sweptRecord, loaded]; rfl⟩
    · rw [sweptRecord, loaded]
    · rw [sweptRecord, loaded]
    · rw [sweptRecord, loaded]
    · rw [sweptRecord, loaded]
      exact note_and _ _ (keeps _ (noted m))
  · rw [record, swept, sweptRecord, loaded]
  · rw [record, swept, sweptRecord, loaded]

end
end Sys2Proof.Proofs
end

section
/-! The ends of SETTLING, one clause each (R70, R72, R79 to R83, R86, R149, R150). -/

namespace Sys2Proof.Proofs

open Sys2Proof Sys2Proof.Machine Sys2Proof.Safety

section
variable {s t u v : State} {l k : LaneId} {a b : ActId} {c : StepCtx} {n : StepId}

/-! ### The command -/

theorem braked_record (w : WaitListFits s) (hs : s.lanes[l].state = .settling) :
    (braked l a s).lanes[l] = s.lanes[l] :=
  (braked_lane (a := a) w hs).record (by rw [openRelay_lanes, capture_lanes, hs]; decide)

theorem exec_settled (h : s.drives[l].phase = .braking) (r : s.drives[l].reversal = false)
    (hs : s.lanes[l].state = .settling) (hc : s.drives[l].connected = some a) :
    exec (.brakeEnd l) s = .next (finish (settlingEnd l (braked l a s))) := by
  rw [exec_brakeEnd h r, brakeEnd_braked hs hc]

theorem settlingEnd_verdict (w : WaitListFits s) (hs : s.lanes[l].state = .settling) (ctx : s.lanes[l].ctx = some c)
    (hk : c.motion = .step ∨ c.motion = .correction) :
    settlingEnd l (braked l a s) = stepEnd l s.lanes[l].pendingOrder c (braked l a s) := by
  have record := braked_record (a := a) w hs
  rw [settlingEnd_step (by rw [record]; exact ctx) hk, record]

/-- With nothing pending a calm change after the verdict is followed by the start of a tune at most. -/
theorem Ended.finish_calm (e : Ended l a s u) (p : s.request.slot = none) (h : calm v = calm u) : finish v = tryTune v :=
  finish_of_waits (waits_of_none ((slot_of_calm h).trans (e.base.slot.trans p)))

theorem Ended.nonfenced (e : Ended l a s u) : u.lanes[l].state ≠ .fenced := by rw [e.state]; decide

/-! ### The successor -/

theorem Ended.loadedCtx (e : Ended l a s u) (rec : StepRec) (b : ActId) : loadedCtx rec b u = loadedCtx rec b s := by
  obtain ⟨position, referenced⟩ := e.base.positions b
  simp only [Proofs.loadedCtx, position, referenced, (e.reach b).travel]

theorem Ended.sweepOf (e : Ended l a s u) (rec : StepRec) (b : ActId) :
    sweepOf u (Proofs.loadedCtx rec b s) = (if s.acts[b].referenced then
      spanSweep s.ram.actuators[b] (Proofs.loadedCtx rec b s).p0 (Proofs.loadedCtx rec b s).pt
      else fullSweep s.ram.actuators[b]) ||| rec.extraZones.getD 0#12 := by
  have motion : (Proofs.loadedCtx rec b s).motion = if s.acts[b].referenced then .step else .homing := rfl
  unfold Machine.sweepOf; dsimp only; rw [motion]
  cases s.acts[b].referenced
  · exact congrArg (· ||| _) (e.reach b).fullSweep
  · exact congrArg (· ||| _) ((e.reach b).spanSweep _ _)

/-- A lane that has its next step goes on to it through its gate (R81, R82). -/
theorem Handed.goesOn {miss : Prop} (h : Handed l n b miss u v) :
    let x := Proofs.loadedCtx u.ram.steps[n] b u
    HandedOn x (Machine.sweepOf u x) n b (u.lanes[l].stepsCompleted + 1) miss (tryTune (claimAtNext l v)).lanes[l] ∧
    (gateHolds v u.ram.steps[n].gate = true → GoneOn (tryTune (claimAtNext l v)).lanes[l]) ∧
    (gateHolds v u.ram.steps[n].gate = false → claimAtNext l v = enterWaitGate l v) := by
  intro x
  obtain ⟨⟨⟨gl, cls, ctx⟩, -, -, -, -⟩, -, -, -, -, kept⟩ := id h
  have same := surr_of_outer (outer_of_calm kept)
  have ready : Ready v { x with sweep := Machine.sweepOf u x, guardLost := gl, cls := cls } := by
    have referenced : v.acts[b].referenced = u.acts[b].referenced := referenced_of_surr same b
    by_cases ref : u.acts[b].referenced = true
    · exact .inl (referenced.trans ref)
    · exact .inr (if_neg ref)
  have carried : Carried (Machine.sweepOf v { x with sweep := Machine.sweepOf u x, guardLost := gl, cls := cls })
      (HandedOn x (Machine.sweepOf u x) n b (u.lanes[l].stepsCompleted + 1) miss) := by
    have sweep : Machine.sweepOf v { x with sweep := Machine.sweepOf u x, guardLost := gl, cls := cls } =
        Machine.sweepOf u x := (sweepOf_congr (ram_of_surr same) _).trans rfl
    rw [sweep]; exact carried_handedOn ..
  exact ⟨carried.going _ _ (going_tryTune l _) (carried.claimAtNext ctx ready h.lane),
    fun gate => goneOn_tryTune (goneOn_claimAtNext ctx gate), fun gate => claimAtNext_shut ctx gate⟩

/-- A complete step with a successor and no order hands over to it (R72, R80 to R83). -/
theorem handsOver (e : Ended l a s u) (p : s.request.slot = none) {miss : Prop} (next : c.step.next = some n)
    (act : s.ram.steps[n].actuator = some b) (noted : miss → u.lanes[l].incidents &&& 0x08#7 = 0x08#7) :
    let x := Proofs.loadedCtx s.ram.steps[n] b s
    let t := finish (completeStep l none c u)
    HandedOn x (Machine.sweepOf u x) n b (s.lanes[l].stepsCompleted + 1) miss t.lanes[l] ∧
    (if 0 < c.step.dwell then
      t.lanes[l].state = .dwell ∧ t.lanes[l].dwellTimer = some (c.step.dwell * 10) ∧
        heldBy t l = heldBy s l &&& Machine.sweepOf u x
    else if s.lanes[l].mode = some .stepwise then
      t.lanes[l].state = .waitAdvance ∧ t.lanes[l].pauseTimer = some 120000 ∧
        heldBy t l = heldBy s l &&& Machine.sweepOf u x
    else if gateHolds s s.ram.steps[n].gate = false then
      t.lanes[l].state = .waitGate ∧ t.lanes[l].gateTimer = some 30000 ∧ heldBy t l = 0#12
    else GoneOn t.lanes[l]) := by
  intro x t
  have h := handed_handed (n := n) e.base.list e.nonfenced (by rw [e.steps]; exact act) noted
  have hx : Proofs.loadedCtx u.ram.steps[n] b u = x := by rw [e.loadedCtx, e.steps]
  have on := h.goesOn
  obtain ⟨lane, mode, state, zones, list, kept⟩ := h
  dsimp only at on
  rw [hx] at lane zones on
  rw [e.lane.stepsCompleted] at lane on
  rw [e.base.zones] at zones
  rw [e.lane.mode] at mode
  have gate : gateHolds (handed l n (counted l u)) u.ram.steps[n].gate = gateHolds s s.ram.steps[n].gate := by
    rw [gateHolds_of_surr (surr_of_outer (outer_of_calm kept)), e.gateHolds, e.steps]
  rw [gate] at on
  have carried := carried_handedOn x (Machine.sweepOf u x) n b (s.lanes[l].stepsCompleted + 1) miss
  have nonfenced : (handed l n (counted l u)).lanes[l].state ≠ .fenced := by rw [state]; exact e.nonfenced
  have complete := completeStep_next (l := l) (s := u) next
  dsimp only at complete
  generalize handed l n (counted l u) = v at *
  by_cases dwell : 0 < c.step.dwell
  · rw [if_pos dwell] at complete ⊢
    have last : t = tryTune _ := (congrArg finish complete).trans (e.finish_calm p ((calm_updLane ..).trans kept))
    obtain ⟨own, held⟩ := tryTune_updLane list
      (f := fun r => { r.leaving with state := .dwell, dwellTimer := some (c.step.dwell * 10) }) (fun q => nomatch q)
    rw [last, own, held, zones]
    exact ⟨carried.going v.lanes[l] _ (going_of_base rfl) lane, rfl, rfl, rfl⟩
  · rw [if_neg dwell] at complete ⊢
    rw [mode] at complete
    by_cases stepwise : s.lanes[l].mode = some .stepwise
    · rw [if_pos stepwise] at complete ⊢
      have last : t = tryTune _ := (congrArg finish complete).trans
        (e.finish_calm p ((calm_enterWaitAdvance ..).trans kept))
      obtain ⟨own, held⟩ := tryTune_updLane list
        (f := fun r => { r.leaving with state := .waitAdvance, pauseTimer := some pauseTime }) (fun q => nomatch q)
      rw [last, enterWaitAdvance, own, held, zones]
      exact ⟨carried.going v.lanes[l] _ (going_of_base rfl) lane, rfl, rfl, rfl⟩
    · rw [if_neg stepwise] at complete ⊢
      have last : t = tryTune (claimAtNext l v) := (congrArg finish complete).trans
        (e.finish_calm p ((calm_claimAtNext ..).trans kept))
      obtain ⟨goes, opens, shuts⟩ := on
      rw [last]; refine ⟨goes, ?_⟩
      split
      · next shut => rw [shuts shut]; exact enterWaitGate_waits list nonfenced
      · next holds => exact opens (by simpa using holds)

/-! ### A correction -/

/-- The step context of the correction that is due (R79). -/
def dueCtx (s : State) (c : StepCtx) : StepCtx :=
  corrected (correctionSweep s c) (meets (correctionSweep s c) (guardLostZones s)) c

/-- The lane of a correction, before it is decided where it goes (R79). -/
def correcting (l : LaneId) (c : StepCtx) (s u : State) : State :=
  updCtx l (corrected (correctionSweep s c) (meets (correctionSweep s c) (guardLostZones s))) u

theorem Ended.correcting_lane (e : Ended l a s u) (ctx : s.lanes[l].ctx = some c) :
    (correcting l c s u).lanes[l] = { u.lanes[l] with
      ctx := some (dueCtx s c) } := by
  rw [correcting, updCtx, updLane_lanes, put_self, e.lane.ctx, ctx]; rfl

theorem Ended.correcting_base (e : Ended l a s u) (c : StepCtx) : BrakeOver l a s (correcting l c s u) := by
  rw [correcting, updCtx]; exact e.base.updLane _

/-- A correction without an order goes on from the ARMING decision (R75, R79). -/
theorem Ended.corrects (e : Ended l a s u) (p : s.request.slot = none) (ctx : s.lanes[l].ctx = some c)
    (ref : s.acts[c.act].referenced = true) :
    (finish (armingDecision l (correcting l c s u))).lanes[l].ctx =
      some (dueCtx s c) ∧
    (finish (armingDecision l (correcting l c s u))).lanes[l].stepsCompleted = s.lanes[l].stepsCompleted ∧
    ((finish (armingDecision l (correcting l c s u))).lanes[l].state = .arming ∨
      (finish (armingDecision l (correcting l c s u))).lanes[l].state = .fenced) := by
  have own := e.correcting_lane ctx
  have ready : Ready (correcting l c s u) (dueCtx s c) :=
    .inl (((e.correcting_base c).positions c.act).2.trans ref)
  have last : calm (armingDecision l (correcting l c s u)) = calm u := (calm_armingDecision ..).trans (calm_updCtx ..)
  rw [e.finish_calm p last, armingDecision_ready (by rw [own]) ready]
  have going := (going_armOrFence l (correcting l c s u)).trans (going_tryTune l _)
  have others := (moves_tryTune (L := fun _ => False) (armOrFence l (correcting l c s u))).left (l := l) id
  refine ⟨by rw [going.ctx, own], by rw [going.stepsCompleted, own]; exact e.lane.stepsCompleted, ?_⟩
  exact others.state.elim (fun same => by rw [same]; exact armOrFence_state (by rw [own]; rfl)) .inl

/-- A correction with a halt pending waits in PAUSED (R79, R86). -/
theorem Ended.pausesCorrection (e : Ended l a s u) (p : s.request.slot = none) (ctx : s.lanes[l].ctx = some c)
    (r : PauseReason) :
    let t := finish (enterPaused l r .motion (correcting l c s u))
    PausedAt t.lanes[l] r .motion ∧ KeepsZones s t l ∧
    t.lanes[l].ctx = some (dueCtx s c) ∧
    t.lanes[l].stepsCompleted = s.lanes[l].stepsCompleted := by
  obtain ⟨g, own⟩ := (e.correcting_base c).updated (fun r' => { r'.leaving with
    state := .paused, pauseReason := some r, resumePoint := some .motion, pauseTimer := some pauseTime }) (waits_of_none p)
  have own := own fun q => nomatch q
  have lane := e.correcting_lane ctx
  intro t
  have ht : t.lanes[l] = _ := own
  rw [ht]
  exact ⟨⟨rfl, rfl, rfl, rfl⟩, g.keeps, congrArg Lane.ctx lane,
    (congrArg Lane.stepsCompleted lane).trans e.lane.stepsCompleted⟩

/-! ### The last step -/

/-- The end of a track with the count raised and what was noted (R80). -/
theorem Ended.ends (e : Ended l a s u) (p : s.request.slot = none) (r : Result) {miss : Prop}
    (noted : miss → u.lanes[l].incidents &&& 0x08#7 = 0x08#7) :
    let t := finish (enterIdle l r (counted l u))
    (t.lanes[l].state = .idle ∧ t.lanes[l].lastResult = some r ∧ HoldsNothing t l) ∧
    t.lanes[l].stepsCompleted = s.lanes[l].stepsCompleted + 1 ∧ (miss → t.lanes[l].incidents &&& 0x08#7 = 0x08#7) := by
  obtain ⟨lane, holds, -⟩ := (e.base.updLane (fun r => { r with stepsCompleted := r.stepsCompleted + 1 })).idle r p
  have own : (counted l u).lanes[l] = { u.lanes[l] with stepsCompleted := u.lanes[l].stepsCompleted + 1 } := by
    rw [counted, updLane_lanes, put_self]
  intro t
  have ht : t.lanes[l] = { (counted l u).lanes[l].leaving with
    state := .idle, lastResult := some r, ctx := none, inline := none, bound := [] } := lane
  rw [ht, own]
  exact ⟨⟨rfl, rfl, holds⟩, congrArg (· + 1) e.lane.stepsCompleted, noted⟩

/-- The last step's dwell, or its pause, with the zones kept (R80, R81, R86). -/
theorem Ended.completes (e : Ended l a s u) (p : s.request.slot = none) {f : Lane → Lane} {miss : Prop}
    (state : ∀ r, (f r).state ≠ .fenced) (noted : miss → u.lanes[l].incidents &&& 0x08#7 = 0x08#7) :
    let v := updCtx l (fun c => { c with completed := true }) (counted l u)
    let t := finish (updLane l f v)
    t.lanes[l] = f v.lanes[l] ∧ v.lanes[l].stepsCompleted = s.lanes[l].stepsCompleted + 1 ∧
    (miss → v.lanes[l].incidents &&& 0x08#7 = 0x08#7) ∧ KeepsZones s t l := by
  intro v t
  obtain ⟨g, own⟩ := ((e.base.updLane (fun r => { r with stepsCompleted := r.stepsCompleted + 1 })).updLane
    (fun r => { r with ctx := r.ctx.map fun c => { c with completed := true } })).updated f (waits_of_none p)
  have lane : v.lanes[l] = { u.lanes[l] with
      stepsCompleted := u.lanes[l].stepsCompleted + 1, ctx := u.lanes[l].ctx.map fun c => { c with completed := true } } := by
    simp only [v, updCtx, updLane_lanes, put_self, counted]
  refine ⟨own (state _), by rw [lane, e.lane.stepsCompleted], by rw [lane]; exact noted, g.keeps⟩

/-! ### A homing -/

/-- The step proper that a homing leads to, its sweep set still to be computed (R81). -/
def homedCtx (s : State) (c : StepCtx) : StepCtx :=
  { c with
    homingPending := false, motion := .step, p0 := 0, endKind := (resolve s.ram.actuators[c.act].travel c.step.target).1
    pt := (resolve s.ram.actuators[c.act].travel c.step.target).2.1 }

/-- The lane goes on from a homing, and it is not yet decided how (R81). -/
def homed (l : LaneId) (c : StepCtx) (s : State) : State :=
  let res := resolve s.ram.actuators[c.act].travel c.step.target
  let s := if res.2.2 then note l incClamped s else s
  let s := updCtx l (fun c =>
    { c with homingPending := false, motion := .step, p0 := 0, endKind := res.1, pt := res.2.1 }) s
  computeSweep l (updLoad l (fun x => { x with origin := some 0 }) s)

theorem homingEnd_eq (l : LaneId) (o : Option PendingOrder) (c : StepCtx) (s : State) : homingEnd l o c s =
    match o with
    | some (.cancel r) => enterIdle l r (homed l c s)
    | some (.halt reason) => enterPaused l reason .motion (homed l c s)
    | _ => claimAtNext l (homed l c s) := rfl

theorem settlingEnd_homing (w : WaitListFits s) (hs : s.lanes[l].state = .settling) (ctx : s.lanes[l].ctx = some c)
    (hk : c.motion = .homing) : settlingEnd l (braked l a s) = homingEnd l s.lanes[l].pendingOrder c (braked l a s) := by
  have record := braked_record (a := a) w hs
  unfold settlingEnd; dsimp only; rw [record, ctx]; dsimp only; rw [hk]

/-- The lane of `u` stands in `v` with the step proper to come (R81). -/
structure Homed (l : LaneId) (c : StepCtx) (u v : State) : Prop where
  ctx : ∃ gl cls, v.lanes[l].ctx = some { homedCtx u c with
    sweep := sweepOf u (homedCtx u c), guardLost := gl, cls := cls }
  state : v.lanes[l].state = u.lanes[l].state
  list : Unlisted v l
  calm : Machine.calm v = Machine.calm u

theorem Ended.homed (e : Ended l a s u) (ctx : s.lanes[l].ctx = some c) : Homed l c u (homed l c u) := by
  unfold Proofs.homed; dsimp only
  obtain ⟨y, hy⟩ : ∃ y, y = (if (resolve u.ram.actuators[c.act].travel c.step.target).2.2 then
      Machine.note l incClamped u else u) := ⟨_, rfl⟩
  have noted : Ended l a s y := by rw [hy]; split; exact e.note _; exact e
  have quiet : calm y = calm u := by rw [hy]; split <;> simp
  rw [← hy]
  generalize hw : updLoad l (fun x => { x with origin := some 0 }) _ = w
  have lane : w.lanes[l] = { y.lanes[l] with ctx := some (homedCtx u c) } := by
    rw [← hw, updLoad_lanes, updCtx, updLane_lanes, put_self, noted.lane.ctx, ctx]; rfl
  have kept : calm w = calm u := by rw [← hw, calm_updLoad, calm_updCtx, quiet]
  have swept := computeSweep_lane (s := w) (l := l) (c := homedCtx u c) (by rw [lane])
  rw [sweepOf_congr (ram_of_surr (surr_of_outer (outer_of_calm kept)))] at swept
  refine ⟨⟨_, _, by rw [swept, sweptRecord, lane]; rfl⟩, ?_, ?_, by rw [calm_computeSweep, kept]⟩
  · rw [swept, sweptRecord, lane]; exact noted.state.trans e.state.symm
  · rw [Unlisted, computeSweep_waitList, ← hw, updLoad_waitList, updCtx_waitList]; exact noted.base.list

/-- What O40 reads off a step context after a homing. -/
def homedView (c : StepCtx) : MotionKind × Nat × EndKind × Nat × Bool := (c.motion, c.p0, c.endKind, c.pt, c.homingPending)

theorem carried_homedView (zs : ZoneSet) (x : Option (MotionKind × Nat × EndKind × Nat × Bool)) :
    Carried zs fun r => r.ctx.map homedView = x := by
  refine ⟨fun r r' g h => by rw [g.ctx]; exact h, fun r gl h => ?_⟩
  rw [← h, sweptRecord]
  cases r.ctx <;> rfl

/-- After a homing the lane goes on to the step proper through its gate (R81, R82). -/
theorem Ended.homes (e : Ended l a s u) (p : s.request.slot = none) (ctx : s.lanes[l].ctx = some c)
    (ref : s.acts[c.act].referenced = true) :
    let t := finish (claimAtNext l (Proofs.homed l c u))
    if Machine.gateHolds s c.step.gate = false then
      t.lanes[l].state = .waitGate ∧ t.lanes[l].gateTimer = some 30000 ∧ heldBy t l = 0#12
    else GoneOn t.lanes[l] ∧ t.lanes[l].ctx.map homedView =
      some (.step, 0, (resolve s.ram.actuators[c.act].travel c.step.target).1,
        (resolve s.ram.actuators[c.act].travel c.step.target).2.1, false) := by
  obtain ⟨⟨gl, cls, now⟩, state, list, kept⟩ := e.homed ctx
  have same := surr_of_outer (outer_of_calm kept)
  intro t
  have last : t = tryTune (claimAtNext l (Proofs.homed l c u)) := e.finish_calm p ((calm_claimAtNext ..).trans kept)
  have gate : Machine.gateHolds (Proofs.homed l c u) c.step.gate = Machine.gateHolds s c.step.gate := by
    rw [gateHolds_of_surr same, e.gateHolds]
  rw [last]
  generalize Proofs.homed l c u = v at *
  split
  · next shut =>
    rw [claimAtNext_shut now (gate.trans shut)]; exact enterWaitGate_waits list (by rw [state, e.state]; decide)
  · next opens =>
    have holds : Machine.gateHolds v c.step.gate = true := by rw [gate]; simpa using opens
    have ready : Ready v { homedCtx u c with sweep := Machine.sweepOf u (homedCtx u c), guardLost := gl, cls := cls } :=
      .inl ((referenced_of_surr same c.act).trans ((e.base.positions c.act).2.trans ref))
    have carried := carried_homedView (Machine.sweepOf v
      { homedCtx u c with sweep := Machine.sweepOf u (homedCtx u c), guardLost := gl, cls := cls })
      (some (.step, 0, (resolve s.ram.actuators[c.act].travel c.step.target).1,
        (resolve s.ram.actuators[c.act].travel c.step.target).2.1, false))
    refine ⟨goneOn_tryTune (goneOn_claimAtNext now holds),
      carried.going _ _ (going_tryTune l _) (carried.claimAtNext now ready ?_)⟩
    rw [now, ← (e.reach c.act).travel]; rfl

/-! ### The adaptation of the profile -/

theorem braked_settings (l : LaneId) (a : ActId) (s : State) :
    (braked l a s).ram = (capture a s).ram ∧ (braked l a s).store = (capture a s).store := by
  have same := surr_of_outer (outer_of_calm (calm_braked l a s))
  exact ⟨ram_of_surr same, store_of_surr same⟩

theorem braked_load (w : WaitListFits s) (hs : s.lanes[l].state = .settling) : (braked l a s).loads[l] = s.loads[l] :=
  (braked_lane (a := a) w hs).apart.load.trans (by rw [openRelay_loads, capture_loads])

theorem outer_counted (l : LaneId) (s : State) : outer (counted l s) = outer s := outer_updLane ..

theorem outer_handed (l : LaneId) (n : StepId) (s : State) : outer (handed l n (counted l s)) = outer s :=
  (outer_of_calm (calm_handed ..)).trans (outer_counted ..)

theorem outer_completeStep_none (l : LaneId) (c : StepCtx) (s : State) : outer (completeStep l none c s) = outer s := by
  cases next : c.step.next with
  | none =>
    rw [completeStep_last next]; split
    · rw [outer_enterIdle, outer_updLane]
    · exact (outer_updLane ..).trans ((outer_of_calm (calm_updCtx ..)).trans (outer_updLane ..))
  | some n =>
    rw [completeStep_next next]; dsimp only
    generalize hv : handed l n (counted l s) = v
    have kept : outer v = outer s := hv ▸ outer_handed l n s
    split
    · rw [outer_updLane, kept]
    · split
      · rw [outer_enterWaitAdvance, kept]
      · rw [outer_claimAtNext, kept]

theorem outer_completeStep (l : LaneId) (o : Option PendingOrder) (c : StepCtx) (s : State) :
    outer (completeStep l o c s) = outer s := by
  rcases o with _ | r | r | r
  · exact outer_completeStep_none l c s
  · have paused : ∀ u : State, outer (enterPaused l r .afterStep u) = outer u := fun u => outer_of_calm (calm_enterPaused ..)
    cases next : c.step.next with
    | none =>
      rw [completeStep_last_halt next]; split
      · rw [outer_enterIdle, outer_counted]
      · exact (paused _).trans ((outer_of_calm (calm_updCtx ..)).trans (outer_counted ..))
    | some n => rw [completeStep_next_halt next, paused, outer_handed]
  · rw [completeStep_cancel, outer_enterIdle, outer_counted]
  · exact outer_completeStep_none l c s

theorem outer_note (l : LaneId) (i : BitVec 7) (s : State) : outer (note l i s) = outer s := outer_of_calm (calm_note ..)

/-- After the adaptation the verdict on a step writes no setting (R79, R150). -/
theorem outer_stepEnd (l : LaneId) (o : Option PendingOrder) (c : StepCtx) (s : State) :
    outer (stepEnd l o c s) = outer (adapted l c s) := by
  have lost : ∀ (zs : ZoneSet) (u : State), outer (lostNoted l zs u) = outer u := by
    intro zs u; unfold lostNoted; split
    · exact outer_note ..
    · rfl
  rw [stepEnd_eq]; dsimp only
  split
  · rw [outer_completeStep]
  · split
    · rw [outer_completeStep, outer_note]
    · split
      · have due : ∀ f, outer (updCtx l f (lostNoted l (correctionZones c (adapted l c s)) (adapted l c s))) =
            outer (adapted l c s) := fun f => (outer_of_calm (calm_updCtx ..)).trans (lost _ _)
        split
        · rw [outer_enterIdle, due]
        · exact (outer_of_calm (calm_enterPaused ..)).trans (due _)
        · rw [outer_armingDecision, due]
      · rw [outer_completeStep, outer_note, lost]

/-- The adaptation writes each bin of an eligible step's profile, in RAM as in the store (R149, R150). -/
theorem adapt_profile (l : LaneId) (a : ActId) (s : State) :
    (adapt l a s).ram.actuators[a].profile = (if s.loads[l].eligible then
      adaptProfile s.ram.actuators[a].profile s.loads[l].bins else s.ram.actuators[a].profile) ∧
    (s.store.actuators[a].profile = s.ram.actuators[a].profile →
      (adapt l a s).store.actuators[a].profile = (adapt l a s).ram.actuators[a].profile) := by
  unfold adapt; dsimp only; split
  · split
    · next same => exact ⟨same.symm, id⟩
    · simp [-Fin.getElem_fin, writeActuator, writeGroup, Settings.onActuator]
  · exact ⟨rfl, id⟩

theorem adaptProfile_bin (p : Vector Nat 32) (bins : Vector (Nat × Nat) 32) (b : Fin 32) : (adaptProfile p bins)[b] =
    if bins[b].2 < 4 then p[b] else (max 200 (min 15000 ((p[b] : Int) +
      max (-250) (min 250 ((((bins[b].1 / bins[b].2 : Nat) : Int) - (p[b] : Int)).tdiv 8))))).toNat := by
  rw [adaptProfile, tab_get, adaptBin]; rfl

/-- The profile after the verdict on a step (R149, R150). -/
theorem stepEnd_profile (w : WaitListFits s) (hs : s.lanes[l].state = .settling)
    (hk : c.motion = .step ∨ c.motion = .correction) (o : Option PendingOrder) :
    let t := finish (stepEnd l o c (braked l c.act s))
    (∀ b : Fin 32, t.ram.actuators[c.act].profile[b] =
      (if c.motion = .correction ∨ s.loads[l].eligible = false ∨ s.loads[l].bins[b].2 < 4 then
        s.ram.actuators[c.act].profile[b]
      else (max 200 (min 15000 ((s.ram.actuators[c.act].profile[b] : Int) +
        max (-250) (min 250 ((((s.loads[l].bins[b].1 / s.loads[l].bins[b].2 : Nat) : Int) -
          (s.ram.actuators[c.act].profile[b] : Int)).tdiv 8))))).toNat)) ∧
    (s.store = s.ram → t.store.actuators[c.act].profile = t.ram.actuators[c.act].profile) := by
  intro t
  obtain ⟨v, hv⟩ : ∃ v, v = braked l c.act s := ⟨_, rfl⟩
  have same : surr t = surr (adapted l c v) :=
    (surr_finish _).trans (surr_of_outer ((outer_stepEnd l o c _).trans (by rw [hv])))
  rw [ram_of_surr same, store_of_surr same]
  obtain ⟨ram, store⟩ := braked_settings l c.act s
  have load : v.loads[l] = s.loads[l] := by rw [hv]; exact braked_load w hs
  have profile : v.ram.actuators[c.act].profile = s.ram.actuators[c.act].profile := by
    rw [hv, ram]; simp only [capture, writeActuator, writeGroup, Settings.onActuator, put_self]
  have stored : v.store.actuators[c.act].profile = s.store.actuators[c.act].profile := by
    rw [hv, store]; simp only [capture, writeActuator, writeGroup, Settings.onActuator, put_self]
  rcases hk with k | k
  · have e : adapted l c v = adapt l c.act v := if_pos k
    obtain ⟨adapts, both⟩ := adapt_profile l c.act v
    rw [e]
    refine ⟨fun b => ?_, fun eq => both (by rw [stored, profile, eq])⟩
    rw [adapts, load, profile]
    by_cases g : s.loads[l].eligible = true
    · rw [if_pos g, adaptProfile_bin]; simp only [k, g, reduceCtorEq, false_or]
    · rw [if_neg g, if_pos (.inr (.inl (by simpa using g)))]
  · have e : adapted l c v = v := if_neg (by rw [k]; decide)
    rw [e]
    exact ⟨fun b => by rw [if_pos (.inl k), profile], fun eq => by rw [stored, profile, eq]⟩

/-! ### A pending cancel or halt -/

/-- A pending cancel ends the lane whatever the verdict on its step (R79, R80). -/
theorem stepEnd_cancels (e : Ended l a s v) (p : s.request.slot = none) (r : Result) (c : StepCtx) :
    let t := finish (stepEnd l (some (.cancel r)) c v)
    t.lanes[l].state = .idle ∧ t.lanes[l].lastResult = some r ∧ HoldsNothing t l := by
  intro t
  have idle : ∀ u : State, u.request.slot = none → t = finish (enterIdle l r u) →
      t.lanes[l].state = .idle ∧ t.lanes[l].lastResult = some r ∧ HoldsNothing t l := by
    intro u free ht
    obtain ⟨state, result, nothing, -⟩ := idle_ends l r free
    rw [ht]; exact ⟨state, result, nothing⟩
  by_cases done : StepOver s l c
  · obtain ⟨u, e', -, eq⟩ := stepEnd_done e (some (.cancel r)) done
    exact idle (counted l u) (by rw [counted, updLane_request]; exact e'.base.slot.trans p) (congrArg finish eq)
  · rw [StepOver, not_or, not_or, Bool.not_eq_true, Bool.not_eq_false] at done
    obtain ⟨off, first, cover⟩ := done
    obtain ⟨u, e', eq⟩ := stepEnd_corrects e (some (.cancel r)) off first cover
    exact idle _ ((e'.correcting_base c).slot.trans p) (congrArg finish eq)

/-- A lane off the wait list is so after it has been handed a step, which counts and unnotes nothing (R72). -/
theorem handed_kept (list : Unlisted u l) (n : StepId) : Unlisted (handed l n u) l ∧
    (handed l n u).lanes[l].stepsCompleted = u.lanes[l].stepsCompleted ∧
    ∀ i : BitVec 7, u.lanes[l].incidents &&& i = i → (handed l n u).lanes[l].incidents &&& i = i := by
  have loads : (loadStep l u.ram.steps[n] (.stored n) u).lanes[l].stepsCompleted = u.lanes[l].stepsCompleted ∧
      ∀ i : BitVec 7, u.lanes[l].incidents &&& i = i →
        (loadStep l u.ram.steps[n] (.stored n) u).lanes[l].incidents &&& i = i := by
    cases act : u.ram.steps[n].actuator with
    | none =>
      have e : loadStep l u.ram.steps[n] (.stored n) u = u := by unfold loadStep; rw [act]
      rw [e]; exact ⟨rfl, fun _ h => h⟩
    | some b =>
      obtain ⟨i, lane, keeps⟩ := loadStep_lane act (.stored n) l u
      rw [lane]; exact ⟨rfl, keeps⟩
  obtain ⟨w, hw⟩ : ∃ w, w = loadStep l u.ram.steps[n] (.stored n) u := ⟨_, rfl⟩
  have sweeps : (computeSweep l w).lanes[l].stepsCompleted = w.lanes[l].stepsCompleted ∧
      ∀ i : BitVec 7, w.lanes[l].incidents &&& i = i → (computeSweep l w).lanes[l].incidents &&& i = i := by
    cases ctx : w.lanes[l].ctx with
    | none =>
      have e : computeSweep l w = w := by unfold computeSweep; rw [ctx]
      rw [e]; exact ⟨rfl, fun _ h => h⟩
    | some c => rw [computeSweep_lane ctx]; exact ⟨rfl, fun i h => note_and _ _ h⟩
  have list' : Unlisted (computeSweep l w) l := by
    rw [Unlisted, computeSweep_waitList, hw, loadStep_waitList]; exact list
  unfold handed; dsimp only; rw [← hw] at loads ⊢
  generalize sweepSet l (computeSweep l w) = zs
  obtain ⟨v, sp, -, -, -, list''⟩ := release_kept list' zs
  have released := left_release l (heldBy (computeSweep l w) l &&& ~~~zs) (computeSweep l w)
  exact ⟨sp.apart.list list'', by rw [released.going.stepsCompleted, sweeps.1, loads.1],
    fun i h => released.going.noted i (sweeps.2 i (loads.2 i h))⟩

/-- A pending halt takes a complete step to PAUSED with resume point AFTER_STEP, or ends the track (R80, R81, R86). -/
theorem stepEnd_halts (e : Ended l a s v) (p : s.request.slot = none) (r : PauseReason) (done : StepOver s l c) :
    let t := finish (stepEnd l (some (.halt r)) c v)
    t.lanes[l].stepsCompleted = s.lanes[l].stepsCompleted + 1 ∧
    (¬ OnTarget s c → t.lanes[l].incidents &&& 0x08#7 = 0x08#7) ∧
    (if c.step.next = none ∧ c.step.dwell = 0 then
      t.lanes[l].state = .idle ∧ t.lanes[l].lastResult = some .completed ∧ HoldsNothing t l
    else PausedAt t.lanes[l] r .afterStep) := by
  intro t
  obtain ⟨u, e', noted, eq⟩ := stepEnd_done e (some (.halt r)) done
  have ht : t = finish (completeStep l (some (.halt r)) c u) := congrArg finish eq
  have own : (counted l u).lanes[l] = { u.lanes[l] with stepsCompleted := u.lanes[l].stepsCompleted + 1 } := by
    rw [counted, updLane_lanes, put_self]
  cases next : c.step.next with
  | none =>
    rw [completeStep_last_halt next] at ht
    by_cases dwell : c.step.dwell = 0
    · rw [if_pos dwell] at ht
      obtain ⟨idle, count, miss⟩ := e'.ends p .completed noted
      rw [ht, if_pos ⟨rfl, dwell⟩]; exact ⟨count, miss, idle⟩
    · rw [if_neg dwell, enterPaused] at ht
      obtain ⟨lane, count, miss, -⟩ := e'.completes p (f := fun r' => { r'.leaving with
        state := .paused, pauseReason := some r, resumePoint := some .afterStep, pauseTimer := some pauseTime })
        (fun _ q => nomatch q) noted
      rw [ht, if_neg fun g => dwell g.2, lane]; exact ⟨count, miss, rfl, rfl, rfl, rfl⟩
  | some n =>
    rw [completeStep_next_halt next] at ht
    have list : Unlisted (counted l u) l := by rw [Unlisted, counted, updLane_waitList]; exact e'.base.list
    obtain ⟨list', count, miss⟩ := handed_kept list n
    rw [own] at count miss
    have kept : calm (enterPaused l r .afterStep (handed l n (counted l u))) = calm u := by
      rw [calm_enterPaused, calm_handed, counted, calm_updLane]
    rw [e'.finish_calm p kept, enterPaused] at ht
    obtain ⟨lane, -⟩ := tryTune_updLane list' (f := fun r' => { r'.leaving with
      state := .paused, pauseReason := some r, resumePoint := some .afterStep, pauseTimer := some pauseTime })
      (fun q => nomatch q)
    rw [ht, lane, if_neg fun g => nomatch g.1]
    exact ⟨count.trans (congrArg (· + 1) e'.lane.stepsCompleted), fun m => miss _ (noted m), rfl, rfl, rfl, rfl⟩

/-- Settles O40, by the motion, the verdict on it and the pending order. -/
theorem settlingEndHandsOverCorrectsAndAdapts : Obligations.SettlingEndHandsOverCorrectsAndAdapts := by
  intro s l w braking rev settling free
  have ended (c : StepCtx) : Ended l c.act s (braked l c.act s) := ended_braked w settling
  have verdict {c : StepCtx} {o : Option PendingOrder} (ctx : s.lanes[l].ctx = some c)
      (conn : s.drives[l].connected = some c.act) (order : s.lanes[l].pendingOrder = o)
      (hk : c.motion = .step ∨ c.motion = .correction) :
      exec (.brakeEnd l) s = .next (finish (stepEnd l o c (braked l c.act s))) := by
    rw [exec_settled braking rev settling conn, settlingEnd_verdict w settling ctx hk, order]
  have homing {c : StepCtx} {o : Option PendingOrder} (ctx : s.lanes[l].ctx = some c)
      (conn : s.drives[l].connected = some c.act) (order : s.lanes[l].pendingOrder = o) (hk : c.motion = .homing) :
      exec (.brakeEnd l) s = .next (finish (homingEnd l o c (braked l c.act s))) := by
    rw [exec_settled braking rev settling conn, settlingEnd_homing w settling ctx hk, order]
  refine ⟨fun c ctx n next b act conn order hk done => ?_, fun c ctx conn order hk off first ref cover => ?_,
    fun c ctx r order conn hk off first cover => ?_, fun c ctx conn order hk off next done => ?_,
    fun c ctx conn hk => ?_, fun c ctx conn order hk ref => ?_, fun c ctx r order conn hk => ?_,
    fun c ctx r order conn hk => ?_⟩
  · obtain ⟨u, e, noted, eq⟩ := stepEnd_done (ended c) none done
    obtain ⟨⟨⟨gl, cls, ctx'⟩, step, cur, count, miss⟩, last⟩ := handsOver e free next act noted
    refine ⟨_, (verdict ctx conn order hk).trans (by rw [eq]), _, ctx', rfl, rfl, rfl, rfl, rfl, rfl, rfl, e.sweepOf _ b,
      step, cur, count, miss, last⟩
  · obtain ⟨u, e, eq⟩ := stepEnd_corrects (ended c) none off first cover
    exact ⟨_, (verdict ctx conn order hk).trans (by rw [eq]; rfl), e.corrects free ctx ref⟩
  · obtain ⟨u, e, eq⟩ := stepEnd_corrects (ended c) (some (.halt r)) off first cover
    exact ⟨_, (verdict ctx conn order hk).trans (by rw [eq]; rfl), e.pausesCorrection free ctx r⟩
  · obtain ⟨u, e, noted, eq⟩ := stepEnd_done (ended c) none done
    have start := (verdict ctx conn order hk).trans (by rw [eq, completeStep_last next])
    by_cases dwell : c.step.dwell = 0
    · rw [if_pos dwell] at start
      obtain ⟨idle, count, miss⟩ := e.ends free .completed noted
      refine ⟨_, start, miss off, count, ?_⟩
      rw [if_pos dwell]; exact idle
    · rw [if_neg dwell] at start
      obtain ⟨lane, count, miss, keeps⟩ := e.completes free (f := fun r => { r.leaving with
        state := .dwell, dwellTimer := some (c.step.dwell * 10) }) (fun _ q => nomatch q) noted
      refine ⟨_, start, ?_, ?_, ?_⟩
      · exact (congrArg (fun x : Lane => x.incidents &&& 0x08#7) lane).trans (miss off)
      · exact (congrArg Lane.stepsCompleted lane).trans count
      · rw [if_neg dwell]
        exact ⟨congrArg Lane.state lane, congrArg Lane.dwellTimer lane, keeps⟩
  · exact ⟨_, verdict ctx conn rfl hk, stepEnd_profile w settling hk _⟩
  · exact ⟨_, homing ctx conn order hk, (ended c).homes free ctx ref⟩
  · rcases hk with hk | hk
    · obtain ⟨-, -, -, kept⟩ := (ended c).homed ctx
      obtain ⟨state, result, nothing, -⟩ := idle_ends (s := homed l c (braked l c.act s)) l r
        ((slot_of_calm kept).trans ((ended c).base.slot.trans free))
      exact ⟨_, homing ctx conn order hk, state, result, nothing⟩
    · exact ⟨_, verdict ctx conn order hk, stepEnd_cancels (ended c) free r c⟩
  · rcases hk with hk | ⟨hk, done⟩
    · obtain ⟨-, -, list, kept⟩ := (ended c).homed ctx
      have last := (ended c).finish_calm (v := enterPaused l r .motion (homed l c (braked l c.act s))) free
        ((calm_enterPaused ..).trans kept)
      obtain ⟨lane, -⟩ := tryTune_updLane list (f := fun r' => { r'.leaving with
        state := .paused, pauseReason := some r, resumePoint := some .motion, pauseTimer := some pauseTime })
        (fun q => nomatch q)
      refine ⟨_, homing ctx conn order hk, ?_⟩
      rw [if_pos hk, homingEnd_eq]; dsimp only
      rw [last, enterPaused, lane]; exact ⟨rfl, rfl, rfl, rfl⟩
    · refine ⟨_, verdict ctx conn order hk, ?_⟩
      rw [if_neg (by rcases hk with k | k <;> rw [k] <;> decide)]
      exact stepEnd_halts (ended c) free r done

end
end Sys2Proof.Proofs
end

section
/-! The ends of the learn phases (R78, R81, R89, R152 to R156, R197). -/

namespace Sys2Proof.Proofs

open Sys2Proof Sys2Proof.Machine Sys2Proof.Safety

section
variable {L : LaneId → Prop} {s t u v : State} {l k : LaneId} {a b : ActId} {c : StepCtx} {lr : LearnRec}

/-! ### The load context on the way to the next motion -/

theorem suspendTune_load (l : LaneId) (s : State) : (suspendTune s).loads[l] = s.loads[l] := (apart_suspendTune s).load

theorem enterArming_load (k l : LaneId) (s : State) : (enterArming k s).loads[l] = s.loads[l] := by
  unfold enterArming; split
  · rfl
  · rw [suspendTune_load, updLane_loads]; rfl

theorem grant_load (e : WaitEntry) (l : LaneId) (s : State) : (grant e s).loads[l] = s.loads[l] := by
  unfold grant; dsimp only; split
  · exact enterArming_load e.lane l (leaveList e.lane (setHolders e.wanted (some e.lane) s))
  · exact enterArming_load e.lane l
      (mark (.lane e.lane) (mark .sets (leaveList e.lane (setHolders e.wanted (some e.lane) s))))

theorem bindAll_loads (k : LaneId) (as : List ActId) (s : State) : (bindAll k as s).loads = s.loads :=
  foldl_keeps State.loads (f := fun s a => { s with acts := put s.acts a { s.acts[a] with binding := some k } })
    (fun _ _ => rfl) as s

theorem unbindLane_loads (k : LaneId) (s : State) : (unbindLane k s).loads = s.loads :=
  foldl_keeps State.loads (fun s a => by split <;> rfl) _ s

/-- The operations on other lanes leave a lane's load context, whether or not the lane is on the wait list. -/
theorem Move.load_kept (m : Move L s t) (hl : ¬ L l) : t.loads[l] = s.loads[l] := by
  cases m with
  | load k h f =>
    have ne : l ≠ k := fun e => hl (by rw [e]; exact h)
    rw [updLoad_loads, put_other _ ne]
  | grant e he g => exact grant_load e l s
  | suspend => exact suspendTune_load l s
  | activate => rw [activate_loads]
  | reply => rw [reply_loads]
  | lane k h f => rw [updLane_loads]
  | timer k h x => rw [updLane_loads]
  | bind k h as => rw [bindAll_loads]
  | unbind k h => rw [unbindLane_loads]
  | log => rw [logEntry_loads]
  | _ => rfl

theorem Moves.load_kept (m : Moves L s t) (hl : ¬ L l) : t.loads[l] = s.loads[l] := by
  induction m with
  | refl => rfl
  | tail _ m ih => exact (m.load_kept hl).trans ih

theorem armOrFence_load (l : LaneId) (s : State) : (armOrFence l s).loads[l] = s.loads[l] := by
  have last : ∀ (c : StepCtx) (v : State),
      (if meets c.sweep (fenced v) then enterFenced l v else arm l v).loads[l] = v.loads[l] := by
    intro c v
    refine iteInduction (motive := fun u : State => u.loads[l] = v.loads[l]) (fun _ => ?_) fun _ => ?_
    · rw [enterFenced_loads]
    · exact ((moves_rescanned (L := fun _ => False) (enterArming l v) v).load_kept id).trans (enterArming_load ..)
  unfold armOrFence; split
  · rfl
  · dsimp only; split
    · refine (last _ _).trans ?_
      unfold release; dsimp only; split
      · rfl
      · exact (moves_scan (L := fun _ => False) _).load_kept id
    · exact last _ s

/-- With nothing pending a lane whose motion is ready arms, or waits in FENCED, and carries its step along (R75). -/
theorem armsOn (free : u.request.slot = none) (ctx : u.lanes[l].ctx = some c) (ready : Ready u c) :
    let t := finish (armingDecision l u)
    t.lanes[l].ctx = some c ∧ t.loads[l] = u.loads[l] ∧ (t.lanes[l].state = .arming ∨ t.lanes[l].state = .fenced) ∧
    surr t = surr u := by
  intro t
  have waits : PreemptWaits (armingDecision l u) := waits_of_none ((slot_of_calm (calm_armingDecision ..)).trans free)
  have ht : t = tryTune (armOrFence l u) := (finish_of_waits waits).trans (by rw [armingDecision_ready ctx ready])
  have others := moves_tryTune (L := fun _ => False) (armOrFence l u)
  rw [ht]
  refine ⟨?_, (others.load_kept id).trans (armOrFence_load l u), ?_, ?_⟩
  · rw [((going_armOrFence l u).trans (going_tryTune l _)).ctx, ctx]
  · exact (others.left (l := l) id).state.elim (fun e => by rw [e]; exact armOrFence_state (by rw [ctx]; rfl)) .inl
  · exact surr_of_outer (outer_of_calm ((calm_tryTune _).trans (calm_armOrFence ..)))

/-! ### The phases -/

theorem settlingEnd_learn (w : WaitListFits s) (hs : s.lanes[l].state = .settling) (ctx : s.lanes[l].ctx = some c)
    (hk : c.motion = .learnHome ∨ c.motion = .learnRise ∨ c.motion = .learnReturn) :
    settlingEnd l (braked l a s) = learnEnd l s.lanes[l].pendingOrder c (braked l a s) := by
  have record := braked_record (a := a) w hs
  unfold settlingEnd; dsimp only; rw [record, ctx]; dsimp only
  rcases hk with h | h | h <;> rw [h]

/-- The learn goes on to the rise toward END_HIGH of the present travel (R153). -/
def rising (l : LaneId) (c : StepCtx) (lr : LearnRec) (s : State) : State :=
  updLoad l (fun x => { x with origin := none, learn := some { lr with phase := .rise } })
    (updCtx l (fun x => { x with
      motion := .learnRise, homingPending := false, p0 := 0, endKind := .high, pt := s.ram.actuators[c.act].travel }) s)

theorem learnEnd_home (h : s.loads[l].learn = some lr) (hk : c.motion = .learnHome) (o : Option PendingOrder) :
    learnEnd l o c s = learnNext l o (rising l c lr s) := by
  unfold learnEnd; rw [h]; dsimp only; rw [hk]; rfl

theorem learnEnd_rise (h : s.loads[l].learn = some lr) (hk : c.motion = .learnRise) {T : Nat} (travel : lr.travel = some T)
    (o : Option PendingOrder) : learnEnd l o c s =
      if travelMin ≤ T && T ≤ travelMax then learnNext l o (storeLearned l c.act lr T s)
      else enterFaulted l .learnFailed
        (logEntry .learnFailed (some l) (some c.act) (some T) none s.lanes[l].arrangementId none s) := by
  unfold learnEnd; rw [h]; dsimp only; rw [hk]; dsimp only; rw [travel]; rfl

/-- The miss of a return is noted (R156). -/
def returned (l : LaneId) (c : StepCtx) (s : State) : State :=
  updLane l (fun r => { r with stepsCompleted := 1 })
    (if s.acts[c.act].position - c.pt + (c.pt - s.acts[c.act].position) ≤ tolerance then s else note l incOffTarget s)

theorem learnEnd_return (h : s.loads[l].learn = some lr) (hk : c.motion = .learnReturn) (o : Option PendingOrder) :
    learnEnd l o c s = match o with
      | some (.cancel r) => enterIdle l r (returned l c s)
      | _ => enterIdle l .completed (returned l c s) := by
  unfold learnEnd; rw [h]; dsimp only; rw [hk]; rfl

/-! ### What the rise stores -/

theorem learnValues_getD (bins : Vector (Nat × Nat) 32) (T d : Nat) (js : List (Fin 32)) (below i : Nat) (h : i < js.length) :
    (learnValues bins T below js).getD i d =
      if 4 ≤ (learnShare bins T js[i]).2 then
        max 200 (min 15000 ((learnShare bins T js[i]).1 / (learnShare bins T js[i]).2))
      else if i = 0 then below else (learnValues bins T below js).getD (i - 1) d := by
  induction js generalizing below i with
  | nil => cases h
  | cons j js ih =>
    rw [learnValues]
    cases i with
    | zero => rfl
    | succ i =>
      rw [List.getD_cons_succ, ih _ i (Nat.lt_of_succ_lt_succ h), List.getElem_cons_succ, if_neg (Nat.succ_ne_zero i),
        Nat.add_sub_cancel]
      cases i with
      | zero => rw [if_pos rfl, List.getD_cons_zero]
      | succ i => rw [if_neg (Nat.succ_ne_zero i), Nat.add_sub_cancel, List.getD_cons_succ]

/-- Each bin of a learned profile takes its own samples' mean or the value of the bin below (R155). -/
theorem learnProfile_bin (bins : Vector (Nat × Nat) 32) (T : Nat) (b : Fin 32) : (learnProfile bins T)[b] =
    if 4 ≤ (learnShare bins T b).2 then max 200 (min 15000 ((learnShare bins T b).1 / (learnShare bins T b).2))
    else if b = 0 then 2500 else (learnProfile bins T)[b - 1] := by
  have value : ∀ j : Fin 32, (learnProfile bins T)[j] = (learnValues bins T flatProfile allBins).getD j.val flatProfile :=
    fun j => tab_get ..
  have own : allBins[b.val]'(by rw [allBins, List.length_finRange]; exact b.isLt) = b := List.getElem_finRange ..
  rw [value b, learnValues_getD _ _ _ _ _ _ (by rw [allBins, List.length_finRange]; exact b.isLt), own]
  have below : (if b.val = 0 then flatProfile else
      (learnValues bins T flatProfile allBins).getD (b.val - 1) flatProfile) =
      if b = 0 then 2500 else (learnProfile bins T)[b - 1] := by
    by_cases h : b = 0
    · subst h; rfl
    · rw [if_neg h, if_neg (mt (fun e => Fin.ext e) h : ¬ b.val = 0), value (b - 1), Fin.val_sub_one_of_ne_zero h]
  rw [below]

/-- The end of the rise, in the state that it leaves before the return (R154, R155). -/
structure Learned (l : LaneId) (a : ActId) (lr : LearnRec) (T : Nat) (s t : State) : Prop where
  ctx : t.lanes[l].ctx = s.lanes[l].ctx.map fun c : StepCtx => { c with
    motion := .learnReturn, p0 := min s.acts[a].position T
    endKind := (resolve T (if lr.startReferenced then .num lr.startPosition else .endLow)).1
    pt := (resolve T (if lr.startReferenced then .num lr.startPosition else .endLow)).2.1 }
  learn : t.loads[l].learn = some { lr with phase := .back, travel := some T }
  act : t.acts[a] = { s.acts[a] with position := min s.acts[a].position T }
  ram : t.ram.actuators[a] = { s.ram.actuators[a] with
    travel := T, profile := learnProfile lr.bins T, storedPosition := min s.acts[a].position T
    storedReferenced := s.acts[a].referenced }
  store : t.store.actuators[a] = { s.store.actuators[a] with
    travel := T, profile := learnProfile lr.bins T, storedPosition := min s.acts[a].position T
    storedReferenced := s.acts[a].referenced }
  request : t.request = s.request
  list : t.waitList = s.waitList
  holders : t.holders = s.holders

theorem learned_storeLearned (l : LaneId) (a : ActId) (lr : LearnRec) (T : Nat) (s : State) :
    Learned l a lr T s (storeLearned l a lr T s) := by
  unfold storeLearned; dsimp only
  generalize hx : markIf _ _ (writeActuator a _ s) = x
  have lanes : x.lanes = s.lanes := by rw [← hx, markIf_lanes]; rfl
  have acts : x.acts = s.acts := by rw [← hx, markIf_acts]; rfl
  have ram : x.ram.actuators[a] = { s.ram.actuators[a] with
      travel := T, profile := learnProfile lr.bins T, storedPosition := min s.acts[a].position T
      storedReferenced := s.acts[a].referenced } := by
    rw [← hx, markIf_ram]; simp only [writeActuator, writeGroup, Settings.onActuator, put_self]
  have store : x.store.actuators[a] = { s.store.actuators[a] with
      travel := T, profile := learnProfile lr.bins T, storedPosition := min s.acts[a].position T
      storedReferenced := s.acts[a].referenced } := by
    rw [← hx, markIf_store]; simp only [writeActuator, writeGroup, Settings.onActuator, put_self]
  have request : x.request = s.request := by rw [← hx, markIf_request]; rfl
  have list : x.waitList = s.waitList := by rw [← hx, markIf_waitList]; rfl
  have holders : x.holders = s.holders := by rw [← hx, markIf_holders]; rfl
  have told : ∀ z y : State, y = z ∨ y = note l incClamped z → y.lanes[l].ctx = z.lanes[l].ctx ∧ y.acts = z.acts ∧
      y.ram = z.ram ∧ y.store = z.store ∧ y.request = z.request ∧ y.waitList = z.waitList ∧ y.holders = z.holders := by
    rintro z y (e | e)
    · rw [e]; exact ⟨rfl, rfl, rfl, rfl, rfl, rfl, rfl⟩
    · rw [e, note]
      exact ⟨by rw [updLane_lanes, put_self], updLane_acts .., updLane_ram .., updLane_store .., updLane_request ..,
        updLane_waitList .., updLane_holders ..⟩
  generalize hz : { x with acts := _ } = z
  generalize hy : (if (resolve T _).2.2 then note l incClamped z else z) = y
  obtain ⟨yctx, yacts, yram, ystore, yrequest, ylist, yholders⟩ := told z y (by
    rw [← hy]; exact (ite_eq_or_eq ..).symm)
  refine ⟨?_, by rw [updLoad_loads, put_self], ?_, ?_, ?_, ?_, ?_, ?_⟩
  · rw [updLoad_lanes, updCtx, updLane_lanes, put_self, yctx, ← hz, lanes]
  · rw [updLoad_acts, updCtx_acts, yacts, ← hz]; dsimp only; rw [put_self, acts]
  · rw [updLoad_ram, updCtx_ram, yram, ← hz]; exact ram
  · rw [updLoad_store, updCtx_store, ystore, ← hz]; exact store
  · rw [updLoad_request, updCtx_request, yrequest, ← hz]; exact request
  · rw [updLoad_waitList, updCtx_waitList, ylist, ← hz]; exact list
  · rw [updLoad_holders, updCtx_holders, yholders, ← hz]; exact holders

end
end Sys2Proof.Proofs
end

section
/-! The ends of the learn phases, one clause each (R78, R81, R89, R152 to R156). -/

namespace Sys2Proof.Proofs

open Sys2Proof Sys2Proof.Machine Sys2Proof.Safety

section
variable {s t u v : State} {l k : LaneId} {a b : ActId} {c : StepCtx} {lr : LearnRec} {T : Nat}

/-! ### A phase that a later one follows -/

theorem keepsZones_of_heldBy (h : heldBy t l = heldBy s l) : KeepsZones s t l := fun z hz => by
  have same := congrArg (fun x => has x z) h
  simp only [has_heldBy, decide_eq_decide] at same
  exact same.2 hz

theorem rising_lane (ctx : u.lanes[l].ctx = some c) : (rising l c lr u).lanes[l].ctx = some { c with
    motion := .learnRise, homingPending := false, p0 := 0, endKind := .high, pt := u.ram.actuators[c.act].travel } := by
  rw [rising, updLoad_lanes, updCtx, updLane_lanes, put_self, ctx]; rfl

theorem rising_load : (rising l c lr u).loads[l].learn = some { lr with phase := .rise } := by
  rw [rising, updLoad_loads, put_self]

theorem calm_rising : calm (rising l c lr u) = calm u := by simp [rising]

/-- The lane of `s` stands between two phases of its learn, with its zones and no pending preempt. -/
structure Between (l : LaneId) (s v : State) : Prop where
  list : Unlisted v l
  zones : heldBy v l = heldBy s l
  slot : v.request.slot = none

theorem Ended.rising (e : Ended l a s u) (p : s.request.slot = none) : Between l s (rising l c lr u) := by
  refine ⟨?_, (heldBy_congr ?_ l).trans e.base.zones, (slot_of_calm calm_rising).trans (e.base.slot.trans p)⟩
  · rw [Unlisted, Proofs.rising, updLoad_waitList, updCtx_waitList]; exact e.base.list
  · rw [Proofs.rising, updLoad_holders, updCtx_holders]

theorem Ended.learned (e : Ended l a s u) (p : s.request.slot = none) : Between l s (storeLearned l b lr T u) := by
  have x := learned_storeLearned l b lr T u
  refine ⟨by rw [Unlisted, x.list]; exact e.base.list, (heldBy_congr x.holders l).trans e.base.zones, ?_⟩
  rw [x.request, e.base.slot, p]

/-- A pending cancel ends the learn (R81). -/
theorem Between.cancels (h : Between l s v) (r : Result) :
    let t := finish (learnNext l (some (.cancel r)) v)
    t.lanes[l].state = .idle ∧ t.lanes[l].lastResult = some r ∧ HoldsNothing t l := by
  obtain ⟨state, result, nothing, -⟩ := idle_ends (s := v) l r h.slot
  exact ⟨state, result, nothing⟩

/-- A pending halt pauses the learn before its next motion (R81, R86). -/
theorem Between.pauses (h : Between l s v) (r : PauseReason) :
    let t := finish (learnNext l (some (.halt r)) v)
    PausedAt t.lanes[l] r .motion ∧ KeepsZones s t l := by
  intro t
  have last : t = tryTune (enterPaused l r .motion v) :=
    finish_of_waits (s := enterPaused l r .motion v) (waits_of_none (by rw [enterPaused, updLane_request, h.slot]))
  obtain ⟨own, held⟩ := tryTune_updLane (f := fun x => { x.leaving with
    state := .paused, pauseReason := some r, resumePoint := some .motion, pauseTimer := some pauseTime })
    h.list (fun q => nomatch q)
  rw [last, enterPaused]
  exact ⟨by rw [own]; exact ⟨rfl, rfl, rfl, rfl⟩, keepsZones_of_heldBy (held.trans h.zones)⟩

/-! ### LEARN_HOME (R153) -/

theorem Ended.home (e : Ended l a s u) (p : s.request.slot = none) (ctx : s.lanes[l].ctx = some c)
    (ref : s.acts[c.act].referenced = true) :
    let t := finish (armingDecision l (Proofs.rising l c lr u))
    t.lanes[l].ctx = some { c with
      motion := .learnRise, homingPending := false, p0 := 0, endKind := .high, pt := s.ram.actuators[c.act].travel } ∧
    t.loads[l].learn = some { lr with phase := .rise } ∧ (t.lanes[l].state = .arming ∨ t.lanes[l].state = .fenced) := by
  intro t
  have own := rising_lane (lr := lr) (e.lane.ctx.trans ctx)
  rw [(e.reach c.act).travel] at own
  obtain ⟨kept, load, state, -⟩ := armsOn (e.rising (lr := lr) (c := c) p).slot own
    (.inl ((referenced_of_surr (surr_of_outer (outer_of_calm calm_rising)) c.act).trans
      ((e.base.positions c.act).2.trans ref)))
  exact ⟨kept, (congrArg Load.learn load).trans rising_load, state⟩

/-! ### The rise (R154, R155) -/

/-- The settings of a learned actuator (R154). -/
def learnedRec (lr : LearnRec) (T p : Nat) (r : ActuatorRec) : ActuatorRec :=
  { r with travel := T, profile := learnProfile lr.bins T, storedPosition := min p T, storedReferenced := true, motionMark := false }

theorem braked_rec (l : LaneId) (a : ActId) (s : State) :
    (braked l a s).ram.actuators[a] = { s.ram.actuators[a] with
      storedPosition := s.acts[a].position, storedReferenced := s.acts[a].referenced, motionMark := false } ∧
    (braked l a s).store.actuators[a] = { s.store.actuators[a] with
      storedPosition := s.acts[a].position, storedReferenced := s.acts[a].referenced, motionMark := false } := by
  rw [(braked_settings l a s).1, (braked_settings l a s).2]
  simp only [capture, writeActuator, writeGroup, Settings.onActuator, put_self]
  exact ⟨trivial, trivial⟩

/-- What is learned goes to the settings, the position and the return (R154 to R156). -/
theorem Learned.goesOn (x : Learned l c.act lr T (braked l c.act s) v) (e : Ended l c.act s (braked l c.act s))
    (slot : v.request.slot = none) (ctx : s.lanes[l].ctx = some c) (ref : s.acts[c.act].referenced = true) :
    let t := finish (armingDecision l v)
    t.ram.actuators[c.act] = learnedRec lr T s.acts[c.act].position s.ram.actuators[c.act] ∧
    t.store.actuators[c.act] = learnedRec lr T s.acts[c.act].position s.store.actuators[c.act] ∧
    t.acts[c.act].position = min s.acts[c.act].position T ∧
    t.lanes[l].ctx = some { c with
      motion := .learnReturn, p0 := min s.acts[c.act].position T
      endKind := (resolve T (if lr.startReferenced then .num lr.startPosition else .endLow)).1
      pt := (resolve T (if lr.startReferenced then .num lr.startPosition else .endLow)).2.1 } ∧
    t.loads[l].learn = some { lr with phase := .back, travel := some T } ∧
    (t.lanes[l].state = .arming ∨ t.lanes[l].state = .fenced) := by
  obtain ⟨own, stored⟩ := braked_rec l c.act s
  generalize braked l c.act s = u at *
  obtain ⟨position, referenced⟩ := e.base.positions c.act
  obtain ⟨now, learn, act, ram, store, -, -, -⟩ := x
  have now : v.lanes[l].ctx = some _ := now.trans (congrArg (Option.map _) (e.lane.ctx.trans ctx))
  rw [position] at now act ram store
  rw [own] at ram
  rw [stored] at store
  rw [referenced.trans ref] at ram store
  obtain ⟨kept, load, state, same⟩ := armsOn slot now (.inl (by rw [act]; exact referenced.trans ref))
  exact ⟨by rw [ram_of_surr same]; exact ram, by rw [store_of_surr same]; exact store,
    by rw [position_of_surr same, act], kept, (congrArg Load.learn load).trans learn, state⟩

/-! ### A rise outside the range (R89, R154) -/

/-- The record of a lane that enters FAULTED (R89). -/
def faultRecord (r : FaultReason) (x : Lane) : Lane :=
  { x.leaving with state := .faulted, faultReason := some r, lastResult := some .faulted, ctx := none }

/-- The lane has entered FAULTED and released its zones, and its partner has not yet had its fault (R89, R96). -/
def faultReleased (l : LaneId) (r : FaultReason) (s : State) : State :=
  releaseAll l (updLoad l Load.stepEnded (updLane l (faultRecord r) s))

theorem calm_faultReleased (l : LaneId) (r : FaultReason) (s : State) : calm (faultReleased l r s) = calm s := by
  simp [faultReleased]

theorem enterFaulted_free (r : FaultReason) (h : s.request.slot = none) :
    enterFaulted l r s = handOnFault l (faultReleased l r s) := by
  have slot : (handOnFault l (faultReleased l r s)).request.slot = none := by
    rw [slot_of_calm ((handOnFault_calm ..).trans (calm_faultReleased ..)), h]
  change preemptCleared l (handOnFault l (faultReleased l r s)).request.slot (handOnFault l (faultReleased l r s)) = _
  rw [slot]; rfl

/-- A lane with no preempt pending that enters FAULTED holds nothing afterwards (R89). -/
theorem faulted_ends (r : FaultReason) (h : s.request.slot = none) (list : Unlisted s l) :
    let t := finish (enterFaulted l r s)
    (t.lanes[l].state = .faulted ∧ t.lanes[l].faultReason = some r ∧ t.lanes[l].lastResult = some .faulted) ∧
    heldBy t l = 0#12 ∧ t.drives[l] = s.drives[l] ∧ surr t = surr s := by
  intro t
  have own : (updLoad l Load.stepEnded (updLane l (faultRecord r) s)).lanes[l] = faultRecord r s.lanes[l] := by
    rw [updLoad_lanes, updLane_lanes, put_self]
  obtain ⟨lane, drive, -, held, unlisted⟩ := releaseAll_kept (l := l)
    (s := updLoad l Load.stepEnded (updLane l (faultRecord r) s))
    (by rw [Unlisted, updLoad_waitList, updLane_waitList]; exact list) (by rw [own]; exact fun q => nomatch q)
  have fs : (faultReleased l r s).lanes[l].state = .faulted := by rw [faultReleased, lane, own]; rfl
  have handed : Spared l (faultReleased l r s) (handOnFault l (faultReleased l r s)) :=
    (moves_handOnFault fs).spared (fun q => q.1 rfl) unlisted
  have sp : Spared l (faultReleased l r s) (tryTune (handOnFault l (faultReleased l r s))) :=
    handed.trans (spared_tryTune (handed.apart.list unlisted))
  have quiet : calm (handOnFault l (faultReleased l r s)) = calm s :=
    (handOnFault_calm ..).trans (calm_faultReleased ..)
  have last : t = tryTune (handOnFault l (faultReleased l r s)) := by
    change finish (enterFaulted l r s) = _
    rw [enterFaulted_free r h, finish_of_waits (waits_of_none ((slot_of_calm quiet).trans h))]
  have record : t.lanes[l] = faultRecord r s.lanes[l] := by
    rw [last, sp.record (by rw [fs]; decide), faultReleased, lane, own]
  refine ⟨by rw [record]; exact ⟨rfl, rfl, rfl⟩, ?_, ?_, ?_⟩
  · rw [last, sp.apart.zones]; exact held
  · rw [last, sp.apart.drive, faultReleased, drive, updLoad_drives, updLane_drives]
  · rw [last]; exact surr_of_outer (outer_of_calm ((calm_tryTune _).trans quiet))

/-- A rise whose travel is out of range is a fault with its entry, and writes no setting (R154). -/
theorem Ended.failsLearn (e : Ended l a s u) (p : s.request.slot = none) (b : ActId) (o : Option (Station × Byte)) :
    let t := finish (enterFaulted l .learnFailed (logEntry .learnFailed (some l) (some b) (some T) none o none u))
    (t.lanes[l].state = .faulted ∧ t.lanes[l].faultReason = some .learnFailed ∧
      t.lanes[l].lastResult = some .faulted) ∧
    heldBy t l = 0#12 ∧ RelayOpen t l ∧ t.ram.actuators = u.ram.actuators ∧ SamePositions s t ∧
    Logged t .learnFailed l b T := by
  intro t
  have logged := logged_logEntry (l := l) (a := b) (s := u) .learnFailed T none o none
  have actuators := logEntry_actuators .learnFailed (some l) (some b) (some T) none o none u
  have acts : (logEntry .learnFailed (some l) (some b) (some T) none o none u).acts = u.acts := logEntry_acts ..
  have drives : (logEntry .learnFailed (some l) (some b) (some T) none o none u).drives = u.drives := logEntry_drives ..
  obtain ⟨record, held, drive, same⟩ := faulted_ends (l := l) .learnFailed
    (s := logEntry .learnFailed (some l) (some b) (some T) none o none u)
    (by rw [logEntry_request]; exact e.base.slot.trans p) (by rw [Unlisted, logEntry_waitList]; exact e.base.list)
  refine ⟨record, held, relayOpen_of_drive (drive.trans (by rw [drives])) e.base.relay, ?_, fun d => ?_, ?_⟩
  · rw [ram_of_surr same, actuators]
  · rw [position_of_surr same, referenced_of_surr same, acts]; exact e.base.positions d
  · rw [Logged, ram_of_surr same, store_of_surr same]; exact logged

/-! ### The return (R156) -/

/-- The end of the return completes the learn with one step and notes a miss (R156). -/
theorem Ended.returns (e : Ended l a s u) (p : s.request.slot = none) (c : StepCtx) (r : Result) :
    let t := finish (enterIdle l r (returned l c u))
    (t.lanes[l].state = .idle ∧ t.lanes[l].lastResult = some r ∧ HoldsNothing t l) ∧
    t.lanes[l].stepsCompleted = 1 ∧ SamePositions s t ∧
    (¬ OnTarget u c → t.lanes[l].incidents &&& 0x08#7 = 0x08#7) := by
  intro t
  obtain ⟨y, hy⟩ : ∃ y, y = (if u.acts[c.act].position - c.pt + (c.pt - u.acts[c.act].position) ≤ tolerance then u
      else Machine.note l incOffTarget u) := ⟨_, rfl⟩
  have noted : Ended l a s y := by rw [hy]; split; exact e; exact e.note _
  have told : ¬ OnTarget u c → y.lanes[l].incidents &&& 0x08#7 = 0x08#7 := fun miss => by
    rw [hy, if_neg (mt (onTarget_iff u c).1 miss)]; exact note_noted l incOffTarget u
  have back : returned l c u = updLane l (fun x => { x with stepsCompleted := 1 }) y := by rw [hy]; rfl
  have own : (updLane l (fun x => { x with stepsCompleted := 1 }) y).lanes[l] =
      { y.lanes[l] with stepsCompleted := 1 } := by rw [updLane_lanes, put_self]
  obtain ⟨lane, nothing, -, -, positions⟩ := (noted.base.updLane fun x => { x with stepsCompleted := 1 }).idle r p
  have ht : t = finish (enterIdle l r (updLane l (fun x => { x with stepsCompleted := 1 }) y)) := by rw [← back]
  rw [ht, lane, own]
  exact ⟨⟨rfl, rfl, nothing⟩, rfl, positions, told⟩

/-! ### O51 -/

theorem learnNext_none (l : LaneId) (s : State) : learnNext l none s = armingDecision l s := rfl

/-- Settles O51. -/
theorem learnPhasesEndAndStoreTheirResult : Obligations.LearnPhasesEndAndStoreTheirResult := by
  unfold Obligations.LearnPhasesEndAndStoreTheirResult
  intro s l w braking rev settling p
  have learn : ∀ {c lr}, s.loads[l].learn = some lr → (braked l c s).loads[l].learn = some lr := fun h => by
    rw [braked_load w settling]; exact h
  have verdict : ∀ {c : StepCtx}, s.lanes[l].ctx = some c → s.drives[l].connected = some c.act →
      (c.motion = .learnHome ∨ c.motion = .learnRise ∨ c.motion = .learnReturn) →
      exec (.brakeEnd l) s = .next (finish (learnEnd l s.lanes[l].pendingOrder c (braked l c.act s))) := by
    intro c ctx conn hk
    rw [exec_settled braking rev settling conn, settlingEnd_learn w settling ctx hk]
  have ended : ∀ c : StepCtx, Ended l c.act s (braked l c.act s) := fun c => ended_braked w settling
  have inRange : ∀ {T : Nat}, 200 ≤ T → T ≤ 4000 → (travelMin ≤ T && T ≤ travelMax) = true := fun h h' => by
    simp only [travelMin, travelMax, h, h', decide_true, Bool.and_self]
  -- a phase that a later one follows goes on from a state between the two
  have between : ∀ {c : StepCtx} {lr}, s.loads[l].learn = some lr →
      (c.motion = .learnHome ∨ (c.motion = .learnRise ∧ lr.travel.any (fun x => decide (200 ≤ x ∧ x ≤ 4000)) = true)) →
      ∃ v, Between l s v ∧ ∀ o, learnEnd l o c (braked l c.act s) = learnNext l o v := by
    rintro c lr hl (hk | ⟨hk, hT⟩)
    · exact ⟨_, (ended c).rising p, learnEnd_home (learn hl) hk⟩
    · obtain ⟨T, travel, range⟩ := (Option.any_eq_true ..).1 hT
      obtain ⟨low, high⟩ := of_decide_eq_true range
      refine ⟨_, (ended c).learned (b := c.act) (lr := lr) (T := T) p, fun o => ?_⟩
      rw [learnEnd_rise (learn hl) hk travel, if_pos (inRange low high)]
  refine ⟨?_, ?_, ?_, ?_, ?_, ?_⟩
  · intro c ctx lr hl conn order hk ref
    refine ⟨_, verdict ctx conn (.inl hk), ?_⟩
    rw [order, learnEnd_home (learn hl) hk, learnNext_none]
    exact (ended c).home p ctx ref
  · intro c ctx lr hl T travel conn order hk low high ref
    refine ⟨_, verdict ctx conn (.inr (.inl hk)), ?_⟩
    rw [order, learnEnd_rise (learn hl) hk travel, if_pos (inRange low high), learnNext_none]
    obtain ⟨ram, store, position, now, next, state⟩ :=
      (learned_storeLearned ..).goesOn (ended c) ((ended c).learned (lr := lr) (T := T) p).slot ctx ref
    rw [ram, store]
    exact ⟨rfl, rfl, learnProfile_bin lr.bins T, position, now, next, state⟩
  · intro c ctx lr hl T travel conn hk outside
    refine ⟨_, verdict ctx conn (.inr (.inl hk)), ?_⟩
    have range : (travelMin ≤ T && T ≤ travelMax) ≠ true := by
      simp only [travelMin, travelMax, ne_eq, Bool.and_eq_true, decide_eq_true_eq]; omega
    rw [learnEnd_rise (learn hl) hk travel, if_neg range]
    obtain ⟨⟨state, reason, result⟩, held, relay, actuators, positions, logged⟩ :=
      (ended c).failsLearn (T := T) p c.act (braked l c.act s).lanes[l].arrangementId
    have own := (braked_rec l c.act s).1
    refine ⟨state, reason, result, held, relay, ?_, ?_, positions, logged⟩
    · rw [actuators, own]
    · rw [actuators, own]
  · intro c ctx lr hl conn hk order
    refine ⟨_, verdict ctx conn (.inr (.inr hk)), ?_⟩
    have done : learnEnd l s.lanes[l].pendingOrder c (braked l c.act s) =
        enterIdle l .completed (returned l c (braked l c.act s)) := by
      rw [learnEnd_return (learn hl) hk]; split
      · next r e => rw [e] at order; cases order
      · rfl
    obtain ⟨⟨state, result, nothing⟩, steps, positions, missed⟩ := (ended c).returns p c .completed
    rw [done]
    refine ⟨state, result, nothing, steps, positions, fun miss => missed fun on => ?_⟩
    rw [OnTarget, ((ended c).base.positions c.act).1] at on
    omega
  · intro c ctx lr hl r order conn hk
    rcases hk with hk | hk | hk
    · obtain ⟨v, stands, next⟩ := between hl (.inl hk)
      exact ⟨_, verdict ctx conn (.inl hk), by rw [order, next]; exact stands.cancels r⟩
    · obtain ⟨v, stands, next⟩ := between hl (.inr hk)
      exact ⟨_, verdict ctx conn (.inr (.inl hk.1)), by rw [order, next]; exact stands.cancels r⟩
    · obtain ⟨ends, -⟩ := (ended c).returns p c r
      exact ⟨_, verdict ctx conn (.inr (.inr hk)), by rw [order, learnEnd_return (learn hl) hk]; exact ends⟩
  · intro c ctx lr hl r order conn hk
    obtain ⟨v, stands, next⟩ := between hl hk
    refine ⟨_, verdict ctx conn (hk.elim .inl fun h => .inr (.inl h.1)), ?_⟩
    rw [order, next]; exact stands.pauses r

end
end Sys2Proof.Proofs
end

section
/-! O4: what a grant scan does, entry by entry (R75, R76, R101 to R103, R118). -/

namespace Sys2Proof.Proofs

open Sys2Proof Sys2Proof.Machine Sys2Proof.Safety

section
variable {s t u v : State} {l k : LaneId} {c : StepCtx} {e x : WaitEntry} {es : List WaitEntry}

/-! ### One grant with no tune in progress -/

/-- The channel of a lane that arms (R118). -/
def makingDrive (a : ActId) (d : Drive) : Drive :=
  { d.opened with connected := some a, phase := .making, makeTimer := some makeTime }

/-- What a grant does when there is no tune to suspend (R76, R103, R118). -/
structure Grants (e : WaitEntry) (c : StepCtx) (s t : State) : Prop where
  lanes : t.lanes = put s.lanes e.lane { s.lanes[e.lane].leaving with state := .arming }
  drives : t.drives = put s.drives e.lane (makingDrive c.act s.drives[e.lane])
  holders : t.holders = tab fun z => if has e.wanted z then some e.lane else s.holders[z]
  list : t.waitList = s.waitList.filter fun x => x.lane ≠ e.lane
  tune : t.presence.tune = none
  chans : t.chans = s.chans
  ram : t.ram = s.ram

theorem suspendTune_idle (h : s.presence.tune = none) : suspendTune s = s := by unfold suspendTune; rw [h]

theorem enterArming_idle (h : s.presence.tune = none) (ctx : s.lanes[l].ctx = some c) :
    enterArming l s = updLane l (fun r => { r.leaving with state := .arming }) (armOrder l c.act s) := by
  unfold enterArming; rw [ctx]
  exact suspendTune_idle (by rw [updLane_presence, armOrder, updDrive_presence, h])

theorem grants_grant (h : s.presence.tune = none) (ctx : s.lanes[e.lane].ctx = some c) : Grants e c s (grant e s) := by
  have last : ∀ v : State, v.presence.tune = none → v.lanes = s.lanes → v.drives = s.drives →
      v.holders = tab (fun z => if has e.wanted z then some e.lane else s.holders[z]) →
      v.waitList = s.waitList.filter (fun x => x.lane ≠ e.lane) → v.chans = s.chans → v.ram = s.ram →
      Grants e c s (enterArming e.lane v) := by
    intro v tune lanes drives holders list chans ram
    rw [enterArming_idle tune (by rw [lanes, ctx])]
    refine ⟨?_, ?_, ?_, ?_, ?_, ?_, ?_⟩
    · rw [updLane_lanes, armOrder, updDrive_lanes, lanes]
    · rw [updLane_drives, armOrder, updDrive_drives, drives]; rfl
    · rw [updLane_holders, armOrder, updDrive_holders, holders]
    · rw [updLane_waitList, armOrder, updDrive_waitList, list]
    · rw [updLane_presence, armOrder, updDrive_presence, tune]
    · rw [updLane_chans, armOrder, updDrive_chans, chans]
    · rw [updLane_ram, armOrder, updDrive_ram, ram]
  unfold grant; dsimp only; split
  · exact last _ h rfl rfl rfl rfl rfl rfl
  · exact last _ h rfl rfl rfl rfl rfl rfl

theorem Grants.allHeld (g : Grants e c s t) : allHeld t = Machine.allHeld s ||| e.wanted := set_ext fun z => by
  rw [has_allHeld, has_or, has_allHeld, g.holders, tab_get]
  cases has e.wanted z <;> simp

theorem Grants.fenced (g : Grants e c s t) : fenced t = Machine.fenced s := fenced_congr g.chans (by rw [g.ram])

theorem Grants.entryOf (g : Grants e c s t) (h : k ≠ e.lane) : entryOf t k = Machine.entryOf s k := by
  unfold Machine.entryOf; rw [g.list, List.find?_filter]
  refine congrArg (List.find? · s.waitList) (funext fun x => ?_)
  by_cases q : x.lane = k
  · simp [q, h]
  · simp [q]

/-! ### The pass over the list with no tune in progress -/

theorem mem_granted {f held : ZoneSet} (h : x ∈ granted f held es) : x ∈ es ∧ meets x.wanted (held ||| f) = false := by
  induction es generalizing held with
  | nil => cases h
  | cons e es ih =>
    rw [granted] at h
    split at h
    · obtain ⟨mem, free⟩ := ih h
      exact ⟨List.mem_cons_of_mem _ mem, free⟩
    · next free =>
      rcases List.mem_cons.1 h with rfl | h
      · exact ⟨List.mem_cons_self, by simpa using free⟩
      · obtain ⟨mem, free⟩ := ih h
        refine ⟨List.mem_cons_of_mem _ mem, ?_⟩
        simp only [meets_eq_false, has_or, Bool.or_eq_false_iff] at free ⊢
        exact fun z hz => ⟨(free z hz).1.1, (free z hz).2⟩

theorem yieldTest_untuned (h : (fenceView s).tuning = 0#12) (e : WaitEntry) : yieldTest e s = s := by
  have free : blockedByTuning s e.wanted = false := by
    have none : meets e.wanted 0#12 = false := by simp [meets]
    unfold blockedByTuning; dsimp only; rw [h, none, Bool.and_false, Bool.false_and]
  unfold yieldTest; rw [free, Bool.and_false]; rfl

/-- The entries `g` have been granted and nothing else done (R103). -/
structure Served (g : List WaitEntry) (s t : State) : Prop where
  list : t.waitList = s.waitList.filter fun x => g.all fun e => x.lane ≠ e.lane
  own : ∀ e ∈ g, ∀ c, s.lanes[e.lane].ctx = some c → t.lanes[e.lane] = { s.lanes[e.lane].leaving with state := .arming } ∧
    t.drives[e.lane] = makingDrive c.act s.drives[e.lane] ∧
    ∀ z : ZoneId, has e.wanted z = true → t.holders[z] = some e.lane
  others : ∀ l : LaneId, (∀ e ∈ g, e.lane ≠ l) → t.lanes[l] = s.lanes[l] ∧ t.drives[l] = s.drives[l]
  zones : ∀ z : ZoneId, (∀ e ∈ g, has e.wanted z = false) → t.holders[z] = s.holders[z]

theorem Served.nil (s : State) : Served [] s s :=
  ⟨by simp, (fun _ h => nomatch h), fun _ _ => ⟨rfl, rfl⟩, fun _ _ => rfl⟩

/-- A grant before grants to other lanes and zones. -/
theorem Grants.served {g : List WaitEntry} (h : Grants e c s v) (ctx : s.lanes[e.lane].ctx = some c) (r : Served g v t)
    (lanes : ∀ x ∈ g, x.lane ≠ e.lane) (zones : ∀ x ∈ g, ∀ z : ZoneId, has x.wanted z = true → has e.wanted z = false) :
    Served (e :: g) s t := by
  have away : ∀ l, l ≠ e.lane → v.lanes[l] = s.lanes[l] ∧ v.drives[l] = s.drives[l] := fun l ne => by
    rw [h.lanes, h.drives, put_other _ ne, put_other _ ne]; exact ⟨rfl, rfl⟩
  refine ⟨?_, fun x hx c' ctx' => ?_, fun l hl => ?_, fun z hz => ?_⟩
  · rw [r.list, h.list, List.filter_filter]
    refine List.filter_congr fun x _ => ?_
    rw [List.all_cons, Bool.and_comm]
  · rcases List.mem_cons.1 hx with rfl | hx
    · obtain ⟨lane, drive⟩ := r.others x.lane lanes
      obtain rfl : c = c' := Option.some.inj (ctx.symm.trans ctx')
      refine ⟨by rw [lane, h.lanes, put_self], by rw [drive, h.drives, put_self], fun z hz => ?_⟩
      rw [r.zones z fun y hy => ?_, h.holders, tab_get, if_pos hz]
      rw [← Bool.not_eq_true]
      exact fun both => Bool.false_ne_true ((zones y hy z both).symm.trans hz)
    · obtain ⟨lane, drive⟩ := away x.lane (lanes x hx)
      obtain ⟨state, making, holds⟩ := r.own x hx c' (by rw [lane, ctx'])
      exact ⟨by rw [state, lane], by rw [making, drive], holds⟩
  · obtain ⟨lane, drive⟩ := r.others l fun x hx => hl x (List.mem_cons_of_mem _ hx)
    obtain ⟨lane', drive'⟩ := away l (Ne.symm (hl e List.mem_cons_self))
    exact ⟨lane.trans lane', drive.trans drive'⟩
  · rw [r.zones z fun x hx => hz x (List.mem_cons_of_mem _ hx), h.holders, tab_get, hz e List.mem_cons_self]; rfl

/-- With no tune in progress the pass grants the entries of `granted` (R103). -/
theorem served_visits (tune : s.presence.tune = none) (tuning : (fenceView s).tuning = 0#12)
    (listed : ∀ e ∈ es, entryOf s e.lane = some e) (nodup : (es.map fun e => e.lane).Nodup)
    (ctx : ∀ e ∈ es, s.lanes[e.lane].ctx.isSome = true) :
    Served (granted (fenced s) (allHeld s) es) s ((es.map fun e => e.lane).foldl visit s) := by
  induction es generalizing s with
  | nil => exact .nil s
  | cons e es ih =>
    rw [List.map_cons, List.nodup_cons, List.mem_map] at nodup
    obtain ⟨fresh, nodup⟩ := nodup
    have visited : visit s e.lane = if grantable s e.wanted then grant e s else s := by
      unfold visit; rw [listed e List.mem_cons_self]; dsimp only; rw [yieldTest_untuned tuning]
    have fewer : ∀ x ∈ es, entryOf s x.lane = some x := fun x hx => listed x (List.mem_cons_of_mem _ hx)
    rw [List.map_cons, List.foldl_cons, visited, granted]
    by_cases h : meets e.wanted (allHeld s ||| fenced s) = true
    · rw [if_pos h, if_neg (by rw [grantable, h]; decide)]
      exact ih tune tuning fewer nodup fun x hx => ctx x (List.mem_cons_of_mem _ hx)
    · rw [if_neg h, if_pos (by rw [grantable, Bool.not_eq_true', ← Bool.not_eq_true]; exact h)]
      obtain ⟨c, hc⟩ := Option.isSome_iff_exists.1 (ctx e List.mem_cons_self)
      have g := grants_grant tune hc
      have ne : ∀ x ∈ es, x.lane ≠ e.lane := fun x hx q => fresh ⟨x, hx, q⟩
      have view : fenceView (grant e s) = fenceView s := by simp only [fenceView, guardUnion, g.chans, g.ram]
      have rest := ih (s := grant e s) g.tune (by rw [view]; exact tuning)
        (fun x hx => by rw [g.entryOf (ne x hx)]; exact fewer x hx) nodup
        (fun x hx => by rw [g.lanes, put_other _ (ne x hx)]; exact ctx x (List.mem_cons_of_mem _ hx))
      rw [g.fenced, g.allHeld] at rest
      refine g.served hc rest (fun x hx => ne x (mem_granted hx).1) fun x hx z hz => ?_
      have apart := (meets_eq_false.1 (mem_granted hx).2) z hz
      simp only [has_or, Bool.or_eq_false_iff] at apart
      exact apart.1.2

/-! ### No entry left could be granted -/

/-- From `s` to `t` a scan may have granted entries and suspended the tune; the zones wanted stay. -/
structure Scanned (s t : State) : Prop where
  may : MaySuspend s t
  held : ∀ z : ZoneId, s.holders[z].isSome = true → t.holders[z].isSome = true
  list : (t.waitList.map fun e => (e.lane, e.wanted)).Sublist (s.waitList.map fun e => (e.lane, e.wanted))

theorem Scanned.refl (s : State) : Scanned s s := ⟨.refl s, fun _ h => h, .refl _⟩

theorem Scanned.trans (h : Scanned s t) (g : Scanned t u) : Scanned s u :=
  ⟨h.may.trans g.may, fun z hz => g.held z (h.held z hz), g.list.trans h.list⟩

theorem grant_holders (e : WaitEntry) (s : State) : (grant e s).holders = (setHolders e.wanted (some e.lane) s).holders := by
  have last : ∀ (l : LaneId) (v : State), (enterArming l v).holders = v.holders := fun l v => by
    unfold enterArming; split
    · rfl
    · rw [(suspendTune_sameBut _).1, updLane_holders, armOrder, updDrive_holders]
  unfold grant; dsimp only; rw [last]; split
  · rfl
  · rfl

theorem scanned_grant (e : WaitEntry) (s : State) : Scanned s (grant e s) := by
  refine ⟨maySuspend_grant e s, fun z hz => ?_, ?_⟩
  · rw [grant_holders, setHolders]; dsimp only; rw [tab_get]; split
    · rfl
    · exact hz
  · rw [grant_waitList]; exact (List.filter_sublist ..).map _

theorem yieldTest_kept (e : WaitEntry) (s : State) : (yieldTest e s).holders = s.holders ∧
    (yieldTest e s).waitList.map (fun e => (e.lane, e.wanted)) = s.waitList.map fun e => (e.lane, e.wanted) := by
  unfold yieldTest; split
  · refine ⟨(suspendTune_sameBut _).1, ?_⟩
    rw [suspendTune_waitList, List.map_map]
    refine List.map_congr_left fun x _ => ?_
    dsimp only [Function.comp_apply]; split <;> rfl
  · exact ⟨rfl, rfl⟩

theorem scanned_yieldTest (e : WaitEntry) (s : State) : Scanned s (yieldTest e s) := by
  obtain ⟨holders, list⟩ := yieldTest_kept e s
  exact ⟨maySuspend_yieldTest e s, fun z hz => by rw [holders]; exact hz, by rw [list]⟩

theorem scanned_visit (s : State) (l : LaneId) : Scanned s (visit s l) := by
  unfold visit; split
  · exact .refl s
  · split
    · exact scanned_grant ..
    · exact scanned_yieldTest ..

theorem scanned_visits (ls : List LaneId) (s : State) : Scanned s (ls.foldl visit s) := by
  induction ls generalizing s with
  | nil => exact .refl s
  | cons l ls ih => exact (scanned_visit s l).trans (ih _)

theorem Scanned.tune (h : Scanned s t) (idle : s.presence.tune = none) : t.presence.tune = none := by
  rcases h.may.chans with ⟨-, e⟩ | ⟨-, e⟩
  · rw [e, idle]
  · exact e

theorem Scanned.steady_of (h : Scanned s t) (g : Scanned t u) (e : u.presence.tune.isSome = s.presence.tune.isSome) :
    t.presence.tune.isSome = s.presence.tune.isSome ∧ u.presence.tune.isSome = t.presence.tune.isSome := by
  cases hs : s.presence.tune with
  | none => rw [hs] at e; rw [e, h.tune hs]; exact ⟨rfl, rfl⟩
  | some k =>
    cases ht : t.presence.tune with
    | none => rw [g.tune ht, hs] at e; cases e
    | some k' => rw [e, hs]; exact ⟨rfl, rfl⟩

/-- What cannot be granted cannot be granted after more of the scan, unless a tune was suspended. -/
theorem Scanned.refused (h : Scanned s t) (e : t.presence.tune.isSome = s.presence.tune.isSome) {w : ZoneSet}
    (r : meets w (allHeld s ||| fenced s) = true) : meets w (allHeld t ||| fenced t) = true := by
  have fence : fenced t = fenced s := by
    refine fenced_congr ?_ (by rw [h.may.ram])
    rcases h.may.chans with ⟨c, -⟩ | ⟨c, none⟩
    · exact c
    · rw [c, restedChans_idle]
      rw [none] at e
      exact Option.isNone_iff_eq_none.1 (by rw [← Option.not_isSome, ← e]; rfl)
  rw [meets_iff] at r ⊢
  obtain ⟨z, want, busy⟩ := r
  refine ⟨z, want, ?_⟩
  rw [has_or, has_allHeld, Bool.or_eq_true] at busy ⊢
  exact busy.imp (h.held z) fun q => by rw [fence]; exact q

theorem Scanned.nodup (h : Scanned s t) (n : (s.waitList.map fun e => e.lane).Nodup) :
    (t.waitList.map fun e => e.lane).Nodup := by
  have sub := h.list.map Prod.fst
  rw [List.map_map, List.map_map] at sub
  exact n.sublist sub

theorem Scanned.listed (h : Scanned s t) (he : e ∈ t.waitList) :
    ∃ x ∈ s.waitList, x.lane = e.lane ∧ x.wanted = e.wanted := by
  obtain ⟨x, hx, q⟩ := List.mem_map.1 (h.list.subset (List.mem_map.2 ⟨e, he, rfl⟩))
  exact ⟨x, hx, congrArg Prod.fst q, congrArg Prod.snd q⟩

theorem entryOf_of_mem (n : (s.waitList.map fun e => e.lane).Nodup) (he : e ∈ s.waitList) : entryOf s e.lane = some e := by
  cases h : entryOf s e.lane with
  | none => exact absurd (decide_eq_true rfl) (List.find?_eq_none.1 h e he)
  | some x =>
    obtain ⟨hx, q⟩ := entryOf_some s h
    rw [List.inj_on_of_nodup_map n hx he q]

/-- A visit that suspends no tune leaves no entry of its lane that could be granted. -/
theorem visit_refused (n : (s.waitList.map fun e => e.lane).Nodup)
    (steady : (visit s l).presence.tune.isSome = s.presence.tune.isSome) (he : e ∈ (visit s l).waitList)
    (hl : e.lane = l) : meets e.wanted (allHeld (visit s l) ||| fenced (visit s l)) = true := by
  have done := scanned_visit s l
  obtain ⟨x, hx, lane, wanted⟩ := done.listed he
  refine done.refused steady ?_
  have found : entryOf s l = some x := by rw [← hl, ← lane]; exact entryOf_of_mem n hx
  have no : grantable s x.wanted ≠ true := fun g => by
    unfold visit at he; rw [found] at he; dsimp only at he
    rw [if_pos g, grant_waitList, leaveList, List.mem_filter] at he
    exact absurd (hl.trans (lane.trans hl).symm) (of_decide_eq_true he.2)
  rw [grantable, wanted] at no
  simpa using no

theorem visits_refused (ls : List LaneId) (n : (s.waitList.map fun e => e.lane).Nodup)
    (steady : (ls.foldl visit s).presence.tune.isSome = s.presence.tune.isSome) :
    ∀ e ∈ (ls.foldl visit s).waitList, e.lane ∈ ls →
      meets e.wanted (allHeld (ls.foldl visit s) ||| fenced (ls.foldl visit s)) = true := by
  induction ls generalizing s with
  | nil => exact fun _ _ h => nomatch h
  | cons l ls ih =>
    rw [List.foldl_cons] at steady ⊢
    intro e he hl
    have first := scanned_visit s l
    have rest := scanned_visits ls (visit s l)
    obtain ⟨quiet, quiet'⟩ := first.steady_of rest steady
    by_cases q : e.lane = l
    · obtain ⟨x, hx, lane, wanted⟩ := rest.listed he
      rw [← wanted]
      exact rest.refused quiet' (visit_refused n quiet hx (lane.trans q))
    · exact ih (first.nodup n) quiet' e he ((List.mem_cons.1 hl).resolve_left q)

/-- A pass that suspends no tune leaves no entry that could be granted. -/
theorem scanOnce_refused (n : (s.waitList.map fun e => e.lane).Nodup)
    (steady : (scanOnce s).presence.tune.isSome = s.presence.tune.isSome) :
    ∀ e ∈ (scanOnce s).waitList, meets e.wanted (allHeld (scanOnce s) ||| fenced (scanOnce s)) = true := by
  intro e he
  refine visits_refused _ n steady e he ?_
  obtain ⟨x, hx, lane, -⟩ := (scanned_visits (s.waitList.map fun e => e.lane) s).listed he
  exact List.mem_map.2 ⟨x, hx, lane⟩

/-- After a scan no entry left could be granted: a pass that suspends the tune is followed by another (R103, R175). -/
theorem scan_refused (n : (s.waitList.map fun e => e.lane).Nodup) :
    ∀ e ∈ (scan s).waitList, meets e.wanted (allHeld (scan s) ||| fenced (scan s)) = true := by
  have done : Scanned s (scanOnce s) := scanned_visits _ s
  unfold scan rescanned
  by_cases h : (s.presence.tune.isSome && (scanOnce s).presence.tune.isNone) = true
  · rw [if_pos h]
    obtain ⟨-, idle⟩ := Bool.and_eq_true_iff.1 h
    have idle := Option.isNone_iff_eq_none.1 idle
    have again : Scanned (scanOnce s) (scanOnce (scanOnce s)) := scanned_visits _ _
    exact scanOnce_refused (done.nodup n) (by rw [idle, again.tune idle])
  · rw [if_neg h]
    refine scanOnce_refused n ?_
    cases hs : s.presence.tune with
    | none => rw [done.tune hs]
    | some k =>
      rw [hs, Option.isSome_some, Bool.true_and, Option.isNone_iff_eq_none] at h
      exact Option.isSome_iff_ne_none.2 h

/-! ### O4 -/

/-- Settles O4: the pass is followed entry by entry, and what it refuses stays refused until it ends or starts anew. -/
theorem grantScanServesTheWaitListInOrder : Obligations.GrantScanServesTheWaitListInOrder := by
  unfold Obligations.GrantScanServesTheWaitListInOrder
  intro s w
  obtain ⟨-, nodup, claiming, claims⟩ := id w
  refine ⟨fun tune tuning g hg => ?_, scan_refused nodup⟩
  have once : scan s = scanOnce s := by unfold scan rescanned; rw [tune]; rfl
  have served := served_visits tune tuning (fun e he => entryOf_of_mem nodup he) nodup
    fun e he => (claims _ (claiming e he)).2.1
  rw [← hg] at served
  have within : ∀ e ∈ g, e ∈ s.waitList := fun e he => by rw [hg] at he; exact (mem_granted he).1
  obtain ⟨list, own, others, zones⟩ := served
  rw [once]
  refine ⟨list.trans (List.filter_congr fun x hx => ?_), fun e he c ctx => ?_, others, zones⟩
  · rw [Bool.eq_iff_iff]
    simp only [List.all_eq_true, decide_eq_true_eq, Bool.not_eq_true', List.contains_eq_mem, decide_eq_false_iff_not]
    exact ⟨fun h he => h x he rfl, fun h e he q => h (List.inj_on_of_nodup_map nodup hx (within e he) q ▸ he)⟩
  · obtain ⟨lane, drive, holds⟩ := own e he c ctx
    refine ⟨lane, ?_, ?_, ?_, holds⟩
    · exact congrArg Drive.phase drive
    · exact congrArg Drive.connected drive
    · exact congrArg Drive.makeTimer drive

end
end Sys2Proof.Proofs
end

section
/-! The clear timer of a FENCED lane through the fence events of a round (R106 to R110). -/

namespace Sys2Proof.Proofs

open Sys2Proof Sys2Proof.Machine Sys2Proof.Safety

section
variable {s t u : State} {l k : LaneId} {p p' : ZoneId → Prop} {q q' : Prop} {F : State → Prop}

/-! ### What the scans keep -/

/-- A property that the fences of a lane settle and that the suspension of a tune keeps. -/
structure FenceBound (l : LaneId) (F : State → Prop) : Prop where
  same : ∀ {s t}, F s → SameFences l s t → F t
  suspends : ∀ {s}, F s → F (suspendTune s)
  list : ∀ {s}, F s → Unlisted s l

theorem FenceBound.grant (b : FenceBound l F) (f : F s) (e : WaitEntry) (h : e.lane ≠ l) (g : grantable s e.wanted = true) :
    F (grant e s) := by
  have zones : heldBy (setHolders e.wanted (some e.lane) s) l = heldBy s l :=
    (apart_setHolders s e.wanted (some e.lane) (fun x => h (Option.some.inj x)) fun z hz => by
      rw [((grantable_iff s _).1 g z hz).1]; simp).zones
  have listed : ∀ v : State, v.waitList = (leaveList e.lane s).waitList → Unlisted s l → Unlisted v l := fun v hv u x hx =>
    u x (List.mem_of_mem_filter (by rw [hv] at hx; exact hx))
  have last : ∀ v : State, SameFences l s v → F (enterArming e.lane v) := fun v hv => by
    unfold enterArming; split
    · exact b.same f hv
    · refine b.suspends (b.same (b.same f hv) ?_)
      refine .of ?_ ?_ ?_ ?_ ?_ ?_ <;> simp [-Fin.getElem_fin, put_other _ (Ne.symm h)]
  unfold Machine.grant; dsimp only; split
  · exact last _ ⟨rfl, zones, rfl, rfl, rfl, listed _ rfl⟩
  · exact last _ ⟨rfl, zones, rfl, rfl, rfl, listed _ rfl⟩

theorem FenceBound.yieldTest (b : FenceBound l F) (f : F s) (e : WaitEntry) : F (yieldTest e s) := by
  unfold Machine.yieldTest; split
  · refine b.suspends (b.same f ⟨rfl, rfl, rfl, rfl, rfl, fun u x hx => ?_⟩)
    obtain ⟨y, hy, rfl⟩ := List.mem_map.1 hx
    split <;> exact u y hy
  · exact f

theorem FenceBound.foldl {α : Type} {g : State → α → State} (h : ∀ s x, F s → F (g s x)) (xs : List α) (f : F s) :
    F (xs.foldl g s) := by
  induction xs generalizing s with
  | nil => exact f
  | cons x xs ih => exact ih (h s x f)

theorem FenceBound.scanOnce (b : FenceBound l F) (f : F s) : F (scanOnce s) := by
  refine FenceBound.foldl (fun s k f => ?_) _ f
  unfold visit; split
  · exact f
  · next e he =>
    split
    · next g => exact b.grant f e (b.list f e (entryOf_some s he).1) g
    · exact b.yieldTest f e

theorem FenceBound.rescanned (b : FenceBound l F) (r : State) (f : F s) : F (rescanned r s) := by
  unfold Machine.rescanned; split
  · exact b.scanOnce f
  · exact f

theorem FenceBound.scan (b : FenceBound l F) (f : F s) : F (scan s) := b.rescanned _ (b.scanOnce f)

theorem FenceBound.yieldTests (b : FenceBound l F) (f : F s) : F (yieldTests s) := by
  refine b.rescanned _ (FenceBound.foldl (fun s k f => ?_) _ f)
  split
  · exact f
  · exact b.yieldTest f _

/-! ### The timer -/

/-- A FENCED lane off the wait list, whose clear timer is stopped while it holds a fenced zone outside `p`, and has
started when it holds no fenced zone, unless `q`; the channel of a tune in progress is outside CLEAR. -/
structure Timed (l : LaneId) (p : ZoneId → Prop) (q : Prop) (s : State) : Prop where
  state : s.lanes[l].state = .fenced
  list : Unlisted s l
  tune : ∀ k : Tune, s.presence.tune = some k → s.chans[k.channel].state ≠ .clear
  busy : ∀ z : ZoneId, has (heldBy s l) z = true → has (fenced s) z = true → p z ∨ s.lanes[l].clearTimer = none
  free : meets (heldBy s l) (fenced s) = false → q ∨ s.lanes[l].clearTimer = some clearTime

theorem Timed.mono (h : Timed l p q s) (hp : ∀ z, p z → p' z) (hq : q → q') : Timed l p' q' s := by
  obtain ⟨state, list, tune, busy, free⟩ := h
  exact ⟨state, list, tune, fun z hz fz => (busy z hz fz).imp_left (hp z), fun m => (free m).imp_left hq⟩

theorem Timed.same (f : Timed l p q s) (h : SameFences l s t) : Timed l p q t := by
  obtain ⟨lane, held, chans, guards, tune, list⟩ := h
  refine ⟨by rw [lane, f.state], list f.list, fun k hk => ?_, ?_, ?_⟩
  · rw [chans]; rw [tune] at hk; exact f.tune k hk
  · rw [lane, held, fenced_congr chans guards]; exact f.busy
  · rw [lane, held, fenced_congr chans guards]; exact f.free

/-- `Fencing` is the case without exceptions. -/
theorem Timed.fencing (f : Timed l (fun _ => False) False s) : Fencing l s := by
  refine ⟨f.state, f.list, ?_, f.tune⟩
  cases m : meets (heldBy s l) (fenced s) with
  | true =>
    obtain ⟨z, hz, fz⟩ := meets_iff.1 m
    exact (f.busy z hz fz).resolve_left id
  | false => exact (f.free m).resolve_left id

theorem Fencing.timed (f : Fencing l s) : Timed l (fun _ => False) False s := by
  refine ⟨f.state, f.list, f.tune, fun z hz fz => .inr ?_, fun m => .inr ?_⟩
  · rw [f.timer, if_pos (meets_iff.2 ⟨z, hz, fz⟩)]
  · rw [f.timer, m]; rfl

/-- An unfence of a zone that the lane holds starts the timer of a lane with no fenced zone (R110). -/
theorem Timed.deliverUnfence (f : Timed l p q s) (left : ZoneSet) :
    Timed l p (q ∧ meets left (heldBy s l) = false) (deliverUnfence left s) := by
  obtain ⟨hol, cha, ram, pre, wl⟩ := deliverUnfence_sameBut left s
  have lane := deliverUnfence_lane left s l
  refine ⟨?_, by rw [Unlisted, wl]; exact f.list, fun k => by rw [pre, cha]; exact f.tune k, fun z hz fz => ?_, fun m => ?_⟩
  · rw [lane]; split <;> exact f.state
  · rw [heldBy_congr hol] at hz
    rw [fenced_congr cha (by rw [ram])] at fz
    have held : meets (heldBy s l) (fenced s) = true := meets_iff.2 ⟨z, hz, fz⟩
    rw [lane, if_neg (by rw [unfences, held, Bool.not_true, Bool.and_false]; decide)]
    exact f.busy z hz fz
  · rw [heldBy_congr hol, fenced_congr cha (by rw [ram])] at m
    rw [lane]
    cases h : meets left (heldBy s l) with
    | true => rw [if_pos (by rw [unfences, f.state, h, m]; rfl)]; exact .inr rfl
    | false =>
      rw [if_neg (by rw [unfences, h, Bool.and_false, Bool.false_and]; decide)]
      exact (f.free m).imp_left fun q => ⟨q, rfl⟩

theorem Timed.suspendTune (f : Timed l p q s) : Timed l p q (suspendTune s) := by
  unfold Machine.suspendTune; split
  · exact f
  · next k hk =>
    extract_lets before a b u after v w
    have chans : v.chans = put s.chans k.channel { s.chans[k.channel].runsCleared with
        state := k.savedState, baseline := k.savedBaseline, filtered := k.savedFiltered } := markIf_chans ..
    have lanes : v.lanes = s.lanes := markIf_lanes ..
    have held : heldBy v l = heldBy s l := heldBy_congr (markIf_holders ..) l
    have ram : v.ram = s.ram := markIf_ram ..
    have list : v.waitList = s.waitList := markIf_waitList ..
    have tune : v.presence.tune = none := by simp [v, u]
    have left : before.all &&& ~~~after.all = fenced s &&& ~~~fenced v := by
      rw [fenced_congr (s := u) (t := v) (markIf_chans ..) (by rw [markIf_ram])]; rfl
    have fewer : ∀ z, has (fenced v) z = true → has (fenced s) z = true := fun z hz => by
      rw [has_fenced] at hz ⊢
      obtain ⟨c, h, g⟩ := hz
      rw [ram] at g
      refine ⟨c, ?_, g⟩
      by_cases e : c = k.channel
      · exact e ▸ f.tune k hk
      · rwa [chans, put_other _ e] at h
    have rested : Timed l p (q ∨ meets (before.all &&& ~~~after.all) (heldBy v l) = true) v := by
      refine ⟨by rw [lanes]; exact f.state, by rw [Unlisted, list]; exact f.list, fun j h => ?_, fun z hz fz => ?_, fun m => ?_⟩
      · rw [tune] at h; cases h
      · rw [held] at hz; rw [lanes]; exact f.busy z hz (fewer z fz)
      · rw [lanes]
        cases was : meets (heldBy s l) (fenced s) with
        | false => exact (f.free was).imp_left .inl
        | true =>
          obtain ⟨z, hz, fz⟩ := meets_iff.1 was
          rw [held, meets_eq_false] at m
          refine .inl (.inr (meets_iff.2 ⟨z, ?_, by rw [held]; exact hz⟩))
          rw [left, has_and, has_not, fz, m z hz]; rfl
    have done := (rested.deliverUnfence (before.all &&& ~~~after.all)).mono (q' := q) (fun _ h => h) fun h =>
      h.1.resolve_right (by rw [h.2]; decide)
    exact done.same (sameFences_activate w)

theorem fenceBound_timed : FenceBound l (Timed l p q) := ⟨Timed.same, Timed.suspendTune, Timed.list⟩

/-! ### A fence event -/

theorem Timed.fenceLanes (f : Timed l p q s) {entered : ZoneSet} (h : ∀ z, has entered z = true → has (fenced s) z = true) :
    Timed l (fun z => p z ∧ has entered z = false) q (allLanes.foldl (fenceLane entered) s) := by
  obtain ⟨hol, cha, ram, pre, wl⟩ := fenceLanes_sameBut entered s
  have lane := fenceLanes_fenced entered f.state
  have held := heldBy_congr hol l
  have fences := fenced_congr cha (by rw [ram] : _ = s.ram.channels)
  refine ⟨?_, by rw [Unlisted, wl]; exact f.list, fun k => by rw [pre, cha]; exact f.tune k, fun z hz fz => ?_, fun m => ?_⟩
  · rw [lane]; split <;> exact f.state
  · rw [held] at hz; rw [fences] at fz
    by_cases m : meets entered (heldBy s l) = true
    · rw [lane, if_pos m]; exact .inr rfl
    · rw [lane, if_neg m]
      rw [Bool.not_eq_true, meets_eq_false] at m
      refine (f.busy z hz fz).imp_left fun hp => ⟨hp, ?_⟩
      rw [← Bool.not_eq_true]; exact fun e => by rw [m z e] at hz; cases hz
  · rw [held, fences] at m
    have apart : ¬ meets entered (heldBy s l) = true := fun e => by
      obtain ⟨z, ez, hz⟩ := meets_iff.1 e
      have := meets_eq_false.1 m z hz
      rw [h z ez] at this; cases this
    rw [lane, if_neg apart]; exact f.free m

theorem fencesChange_same (l : LaneId) (entered left : ZoneSet) (s : State) :
    heldBy (deliverUnfence left (allLanes.foldl (fenceLane entered) s)) l = heldBy s l ∧
    fenced (deliverUnfence left (allLanes.foldl (fenceLane entered) s)) = fenced s := by
  obtain ⟨hol, cha, ram, -, -⟩ := fenceLanes_sameBut entered s
  obtain ⟨hol', cha', ram', -, -⟩ := deliverUnfence_sameBut left (allLanes.foldl (fenceLane entered) s)
  exact ⟨heldBy_congr (hol'.trans hol) l, fenced_congr (cha'.trans cha) (by rw [ram', ram])⟩

theorem Timed.fencesChange (f : Timed l p q s) {entered : ZoneSet}
    (h : ∀ z, has entered z = true → has (fenced s) z = true) (left : ZoneSet) :
    Timed l (fun z => p z ∧ has entered z = false) (q ∧ meets left (heldBy s l) = false)
      (Machine.deliverUnfence left (allLanes.foldl (fenceLane entered) s)) := by
  obtain ⟨hol, -, -, -, -⟩ := fenceLanes_sameBut entered s
  have done := (f.fenceLanes h).deliverUnfence left
  rwa [heldBy_congr hol l] at done

/-- A fence event after the view `v` of the guard set `g`: a held zone that is fenced has stopped the timer if it was not
fenced in `v`, and with no held zone fenced the timer has started if one was in `v` (R107, R110). -/
theorem Timed.fenceEvent (f : Timed l p q s) (v : FenceView) (g : ZoneSet) :
    Timed l (fun z => p z ∧ (has g z = true → has v.all z = true))
      (q ∧ ∀ z, has g z = true → has (heldBy s l) z = true → has v.all z = false)
      (fenceEvent (v.within g) ((fenceView s).within g) s) := by
  have now : ∀ z, has (fenceView s).all z = has (fenced s) z := fun _ => rfl
  unfold Machine.fenceEvent; split
  · next e =>
    have seen : ∀ z, has g z = true → has v.all z = has (fenced s) z := fun z gz => by
      have := congrArg (fun x : FenceView => has x.all z) e
      simp only [has_within, gz, Bool.and_true] at this
      rw [this, now]
    refine ⟨f.state, f.list, f.tune, fun z hz fz => ?_, fun m => ?_⟩
    · exact (f.busy z hz fz).imp_left fun hp => ⟨hp, fun gz => by rw [seen z gz]; exact fz⟩
    · exact (f.free m).imp_left fun hq => ⟨hq, fun z gz hz => by rw [seen z gz]; exact meets_eq_false.1 m z hz⟩
  · extract_lets entered left a b c
    have done : Timed l (fun z => p z ∧ has entered z = false) (q ∧ meets left (heldBy s l) = false) c :=
      Timed.fencesChange (s := a) (f.same (.of rfl rfl rfl rfl rfl rfl)) (fun z hz => by
        rw [has_and, has_within, now, Bool.and_eq_true, Bool.and_eq_true] at hz
        exact hz.1.1) left
    have third : Timed l (fun z => p z ∧ (has g z = true → has v.all z = true))
        (q ∧ ∀ z, has g z = true → has (heldBy s l) z = true → has v.all z = false) c := by
      obtain ⟨held, fences⟩ := fencesChange_same l entered left a
      have held : heldBy c l = heldBy s l := held
      have fences : fenced c = fenced s := fences
      clear_value a b c
      obtain ⟨state, list, tune, busy, free⟩ := done
      refine ⟨state, list, tune, fun z hz fz => ?_, fun m => ?_⟩
      · refine (busy z hz fz).imp_left fun ⟨hp, out⟩ => ⟨hp, fun gz => ?_⟩
        rw [fences] at fz
        rw [has_and, has_not, has_within, has_within, now, gz, fz] at out
        simpa using out
      · refine (free m).imp_left fun ⟨hq, out⟩ => ⟨hq, fun z gz hz => ?_⟩
        rw [held, fences] at m
        rw [meets_eq_false] at out
        rw [← Bool.not_eq_true]
        intro vz
        have := out z (by rw [has_and, has_not, has_within, has_within, now, gz, vz, meets_eq_false.1 m z hz]; rfl)
        rw [hz] at this; cases this
    split
    · exact fenceBound_timed.yieldTests third
    · exact fenceBound_timed.scan third

theorem Timed.handOn (f : Timed l p q s) (v : FenceView) (c : ChanId) :
    Timed l (fun z => p z ∧ (has s.ram.channels[c].guard z = true → has v.all z = true))
      (q ∧ ∀ z, has s.ram.channels[c].guard z = true → has (heldBy s l) z = true → has v.all z = false) (handOn v c s) :=
  (f.fenceEvent v s.ram.channels[c].guard).same (sameFences_handedOn c _)

/-! ### The whole round -/

theorem has_refreshed (v w : FenceView) (g : ZoneSet) (z : ZoneId) :
    has (v.refreshed w g).all z = if has g z = true then has w.all z else has v.all z := by
  simp only [FenceView.refreshed, FenceView.all, has_or, has_and, has_not]
  cases has g z <;> simp

theorem handOnAll_cons (v : FenceView) (c : ChanId) (cs : List ChanId) (s : State) :
    handOnAll v (c :: cs) s = handOnAll (v.refreshed (fenceView s) s.ram.channels[c].guard) cs (handOn v c s) := rfl

theorem Timed.handOnAll {cs : List ChanId} {v : FenceView} (f : Timed l p q s)
    (held : ∀ (w : FenceView) (c : ChanId) (t : State), Unlisted t l → t.lanes[l].state = .fenced →
      heldBy (Machine.handOn w c t) l = heldBy t l) :
    Timed l (fun z => p z ∧ ∀ c ∈ cs, has s.ram.channels[c].guard z = true → has v.all z = true)
      (q ∧ ∀ c ∈ cs, ∀ z, has s.ram.channels[c].guard z = true → has (heldBy s l) z = true → has v.all z = false)
      (Machine.handOnAll v cs s) := by
  induction cs generalizing s v p q with
  | nil => exact f.mono (fun _ h => ⟨h, fun _ hc => nomatch hc⟩) fun h => ⟨h, fun _ hc => nomatch hc⟩
  | cons c cs ih =>
    have ram : (Machine.handOn v c s).ram = s.ram := (maySuspend_handOn v c s).ram
    rw [handOnAll_cons]
    refine (ih (f.handOn v c)).mono (fun z ⟨⟨hp, first⟩, rest⟩ => ⟨hp, fun d hd gz => ?_⟩)
      fun ⟨⟨hq, first⟩, rest⟩ => ⟨hq, fun d hd z gz hz => ?_⟩
    · rcases List.mem_cons.1 hd with rfl | hd
      · exact first gz
      · have seen := rest d hd (by rw [ram]; exact gz)
        rw [has_refreshed] at seen
        split at seen
        · next g => exact first g
        · exact seen
    · rcases List.mem_cons.1 hd with rfl | hd
      · exact first z gz hz
      · have seen := rest d hd z (by rw [ram]; exact gz) (by rw [held v c s f.list f.state]; exact hz)
        rw [has_refreshed] at seen
        split at seen
        · next g => exact first z g hz
        · exact seen

/-- The start of a tune keeps the timer as right as it was (R107, R172). -/
theorem Timed.tryTune (f : Timed l p q s) : Timed l p q (tryTune s) := by
  rcases tryTune_eq s with e | ⟨c, -, -, e⟩
  · rw [e]; exact f
  · rw [e]
    have more : ∀ z, has (fenced s) z = true → has (fenced (tuningOf c s)) z = true := fun z hz => by
      rw [has_fenced] at hz ⊢
      obtain ⟨d, out, g⟩ := hz
      refine ⟨d, ?_, g⟩
      by_cases h : d = c
      · subst h; rw [tuningOf_self]; decide
      · rw [tuningOf_other s h]; exact out
    have fresh : ∀ z, has (fenced (tuningOf c s)) z = true → has (fenced s) z = true ∨ has s.ram.channels[c].guard z = true := by
      intro z hz
      rw [has_fenced] at hz
      obtain ⟨d, out, g⟩ := hz
      by_cases h : d = c
      · exact .inr (h ▸ g)
      · exact .inl ((has_fenced s z).2 ⟨d, by rw [tuningOf_other s h] at out; exact out, g⟩)
    have tuning : Timed l (fun z => p z ∨ (has (fenced s) z = false ∧ has s.ram.channels[c].guard z = true)) q
        (tuningOf c s) := by
      refine ⟨f.state, f.list, fun k hk => ?_, fun z hz fz => ?_, fun m => f.free ?_⟩
      · cases hk; rw [tuningOf_self]; decide
      · cases was : has (fenced s) z with
        | true => exact (f.busy z hz was).imp_left .inl
        | false => exact .inl (.inr ⟨rfl, (fresh z fz).resolve_left (by rw [was]; decide)⟩)
      · rw [meets_eq_false] at m ⊢
        intro z hz
        rw [← Bool.not_eq_true]
        exact fun fz => by have := m z hz; rw [more z fz] at this; cases this
    refine (tuning.handOn (fenceView s) c).mono (fun z ⟨hp, seen⟩ => hp.resolve_right fun ⟨no, g⟩ => ?_) And.left
    have yes : has (fenced s) z = true := seen g
    rw [no] at yes; cases yes

end
end Sys2Proof.Proofs
end

section
/-! O47: the fence changes of a sample round and the lanes that hold the zones (R76, R77, R106 to R110). -/

namespace Sys2Proof.Proofs

open Sys2Proof Sys2Proof.Machine Sys2Proof.Safety

section
variable {s t u v w : State} {l k : LaneId} {c d : ChanId} {z : ZoneId} {entered : ZoneSet} {R : State → Prop}

/-! ### The round before its changes are handed on -/

/-- The state of a round in which the channels have taken their counts (R162 to R167). -/
def roundSampled (counts : Vector (BitVec 16) 12) (s : State) : State :=
  let v := workRef counts[refChan].toNat { s with presence := { s.presence with
    roundTimer := some (if s.power.mode = .doze then roundDoze else roundActive) } }
  sensingChans.foldl (fun s c => workChannel (refDelta v) counts[c].toNat c s) v

/-- The channels whose state the round has changed (R168). -/
def changedChans (counts : Vector (BitVec 16) 12) (s : State) : List ChanId :=
  sensingChans.filter fun c => (roundSampled counts s).chans[c].state ≠ s.chans[c].state

theorem sampleRound_eq (counts : Vector (BitVec 16) 12) (s : State) :
    sampleRound counts s = handOnAll (fenceView s) (changedChans counts s) (roundSampled counts s) := rfl

theorem driftTest_other (s : State) (h : d ≠ c) : (driftTest c s).chans[d] = s.chans[d] := by
  have put : ∀ f : ChanRun → ChanRun, (updChan c f s).chans[d] = s.chans[d] := fun f => by
    rw [updChan_chans, put_other _ h]
  have queued : ∀ u : State, (dequeue c u).chans[d] = u.chans[d] := fun _ => rfl
  unfold driftTest; dsimp only; split
  · rfl
  · split
    · split
      · exact (queued _).trans (put _)
      · exact put _
    · split
      · exact put _
      · exact put _

theorem driftTest_tune (c : ChanId) (s : State) : (driftTest c s).presence.tune = s.presence.tune := by
  unfold driftTest; dsimp only; (repeat' split) <;> rfl

theorem workChannel_other (x : Int) (raw : Nat) (s : State) (h : d ≠ c) :
    (workChannel x raw c s).chans[d] = s.chans[d] := by
  unfold workChannel; dsimp only; split
  · rw [updChan_chans, put_other _ h]
  · rfl
  all_goals rw [updChan_chans, put_other _ h, driftTest_other _ h, updChan_chans, put_other _ h]

theorem workChannel_tuning (x : Int) (raw : Nat) (c : ChanId) (h : s.chans[d].state = .tuning) :
    (workChannel x raw c s).chans[d].state = .tuning := by
  by_cases e : d = c
  · subst e; unfold workChannel; dsimp only; rw [h]; exact h
  · rw [workChannel_other _ _ _ e, h]

/-- What a channel's sample leaves alone. -/
def unsampled (s : State) :=
  (s.lanes, s.drives, s.holders, s.waitList, s.ram, s.presence.tune.map Tune.channel)

theorem workChannel_unsampled (x : Int) (raw : Nat) (c : ChanId) (s : State) :
    unsampled (workChannel x raw c s) = unsampled s := by
  have trial : (s.presence.tune.map (trialSample raw)).map Tune.channel = s.presence.tune.map Tune.channel := by
    rw [Option.map_map]
    refine Option.map_congr fun k _ => ?_
    dsimp only [Function.comp_apply]; unfold trialSample; split <;> rfl
  unfold workChannel unsampled; dsimp only; split
  · rfl
  · dsimp only; rw [trial]
  all_goals
    simp only [updChan_lanes, updChan_drives, updChan_holders, updChan_waitList, updChan_ram, updChan_presence,
      driftTest_lanes, driftTest_drives, driftTest_holders, driftTest_waitList, driftTest_ram, driftTest_tune]

/-- The lanes and zones are as before the samples, and only the states of the changed channels differ. -/
structure RoundSampled (counts : Vector (BitVec 16) 12) (s v : State) : Prop where
  kept : unsampled v = unsampled s
  tuning : ∀ c : ChanId, s.chans[c].state = .tuning → v.chans[c].state = .tuning
  state : ∀ c : ChanId, v.chans[c].state = s.chans[c].state ∨ c ∈ changedChans counts s

theorem workRef_state (raw : Nat) (c : ChanId) (s : State) : (workRef raw s).chans[c].state = s.chans[c].state := by
  rw [workRef, updChan_chans, put_get]; split
  · next e =>
    subst e; split
    · unfold seedSample; split <;> rfl
    · rfl
  · rfl

theorem roundSampled_sampled (counts : Vector (BitVec 16) 12) (s : State) : RoundSampled counts s (roundSampled counts s) := by
  unfold roundSampled; dsimp only
  generalize hv : workRef counts[refChan].toNat _ = v
  have state : ∀ c : ChanId, v.chans[c].state = s.chans[c].state := fun c => by rw [← hv, workRef_state]
  have folded : sensingChans.foldl (fun s c => workChannel (refDelta v) counts[c].toNat c s) v = roundSampled counts s := by
    rw [← hv]; rfl
  rw [folded]
  refine ⟨?_, fun c hc => ?_, fun c => ?_⟩
  · rw [← folded, foldl_keeps unsampled (fun u d => workChannel_unsampled _ _ d u), ← hv]; rfl
  · have keeps : ∀ (cs : List ChanId) (u : State), u.chans[c].state = .tuning →
        (cs.foldl (fun s c => workChannel (refDelta v) counts[c].toNat c s) u).chans[c].state = .tuning := by
      intro cs
      induction cs with
      | nil => exact fun _ h => h
      | cons d ds ih => exact fun u h => ih _ (workChannel_tuning _ _ d h)
    rw [← folded]; exact keeps _ _ (by rw [state, hc])
  · by_cases e : c = refChan
    · subst e
      have same : (roundSampled counts s).chans[refChan] = v.chans[refChan] := by
        have keeps : ∀ (cs : List ChanId) (u : State), refChan ∉ cs →
            (cs.foldl (fun s c => workChannel (refDelta v) counts[c].toNat c s) u).chans[refChan] = u.chans[refChan] := by
          intro cs
          induction cs with
          | nil => exact fun _ _ => rfl
          | cons d ds ih =>
            intro u h
            rw [List.mem_cons, not_or] at h
            rw [List.foldl_cons, ih _ h.2, workChannel_other _ _ _ h.1]
        rw [← folded]; exact keeps _ _ (by decide)
      exact .inl (by rw [same, state])
    · have sensing : c ∈ sensingChans := by revert c; decide
      by_cases h : (roundSampled counts s).chans[c].state = s.chans[c].state
      · exact .inl h
      · exact .inr (List.mem_filter.2 ⟨sensing, decide_eq_true h⟩)

/-- The channel of the tune in progress, if there is one, is outside CLEAR. -/
def TuneAway (s : State) : Prop := ∀ k : Tune, s.presence.tune = some k → s.chans[k.channel].state ≠ .clear

theorem RoundSampled.tuneAway {counts : Vector (BitVec 16) 12} (h : RoundSampled counts s v) (f : TuneFits s) : TuneAway v := by
  intro k hk
  obtain ⟨-, tune, -, -, -⟩ := f
  have same : v.presence.tune.map Tune.channel = s.presence.tune.map Tune.channel := by
    have := h.kept; simp only [unsampled, Prod.mk.injEq] at this; exact this.2.2.2.2.2
  rw [hk, Option.map_some] at same
  obtain ⟨k', hk', e⟩ := Option.map_eq_some_iff.1 same.symm
  rw [hk', Option.all_some, Bool.and_eq_true, beq_iff_eq] at tune
  rw [h.tuning k.channel (by rw [← e]; exact tune.1)]; decide

/-- A zone that the round fences or frees is guarded by a channel that it has changed. -/
theorem RoundSampled.changed {counts : Vector (BitVec 16) 12} (h : RoundSampled counts s v)
    (e : has (fenced v) z ≠ has (fenced s) z) :
    ∃ c ∈ changedChans counts s, has v.ram.channels[c].guard z = true := by
  by_contra no
  have ram : v.ram = s.ram := by
    have := h.kept; simp only [unsampled, Prod.mk.injEq] at this; exact this.2.2.2.2.1
  have guards : ∀ c : ChanId, has v.ram.channels[c].guard z = true → v.chans[c].state = s.chans[c].state := fun c g =>
    (h.state c).resolve_right fun m => no ⟨c, m, g⟩
  refine e (Bool.eq_iff_iff.2 ?_)
  rw [has_fenced, has_fenced]
  refine exists_congr fun c => ?_
  rw [← ram]
  constructor
  · rintro ⟨out, g⟩; exact ⟨by rw [← guards c g]; exact out, g⟩
  · rintro ⟨out, g⟩; exact ⟨by rw [guards c g]; exact out, g⟩

/-! ### Fewer zones are fenced once a tune is suspended -/

theorem MaySuspend.tuneAway (m : MaySuspend s t) (a : TuneAway s) : TuneAway t := by
  rcases m.chans with ⟨chans, tune⟩ | ⟨-, none⟩
  · intro k hk; rw [chans]; exact a k (tune.symm.trans hk)
  · intro k hk; rw [none] at hk; cases hk

theorem MaySuspend.fewer (m : MaySuspend s t) (a : TuneAway s) (h : has (fenced t) z = true) : has (fenced s) z = true := by
  rw [has_fenced] at h ⊢
  obtain ⟨c, out, g⟩ := h
  rw [m.ram] at g
  refine ⟨c, ?_, g⟩
  rcases m.chans with ⟨chans, -⟩ | ⟨chans, -⟩
  · rw [← chans]; exact out
  · rw [chans] at out
    unfold restedChans at out; split at out
    · exact out
    · next k hk =>
      by_cases e : c = k.channel
      · exact e ▸ a k hk
      · rwa [put_other _ e] at out

theorem maySuspend_handOnAll (v : FenceView) (cs : List ChanId) (s : State) : MaySuspend s (handOnAll v cs s) := by
  induction cs generalizing v s with
  | nil => exact .refl s
  | cons c cs ih => rw [handOnAll_cons]; exact (maySuspend_handOn v c s).trans (ih _ _)

/-! ### A lane that a fence event reaches or spares -/

theorem spared_fenceLane (miss : k = l → meets entered (heldBy s l) = true →
      ¬ (s.lanes[l].state = .moving ∨ s.lanes[l].state = .arming)) (list : Unlisted s l) :
    Spared l s (fenceLane entered s k) := by
  by_cases m : meets entered (heldBy s k) = true
  · refine (moves_fenceLane (L := (· ≠ l)) s entered fun g e => ?_).spared (fun n => n rfl) list
    subst e; exact miss rfl m g
  · unfold fenceLane; rw [if_neg m]; exact .refl

theorem spared_fenceLanes (xs : List LaneId) (miss : meets entered (heldBy s l) = true →
      ¬ (s.lanes[l].state = .moving ∨ s.lanes[l].state = .arming)) (list : Unlisted s l) :
    Spared l s (xs.foldl (fenceLane entered) s) := by
  induction xs generalizing s with
  | nil => exact .refl
  | cons x xs ih =>
    have one : Spared l s (fenceLane entered s x) := spared_fenceLane (fun _ => miss) list
    refine one.trans (ih ?_ (one.apart.list list))
    rw [one.apart.zones, one.apart.state]; exact miss

/-- The rest of a fence event, after its fences (R103, R110). -/
def fencesTail (left : ZoneSet) (s : State) : State :=
  if left = 0#12 then yieldTests (deliverUnfence left s) else scan (deliverUnfence left s)

/-- The rest of the handing on of a state change, after its fence event (R168). -/
def handedOn (c : ChanId) (s : State) : State :=
  if (activate s).chans[c].state = .clear || (activate s).chans[c].state = .tuning then activate s
  else dequeue c (activate s)

/-- A fence event that fences a zone in the guard set has its fences, and then the rest (R106, R168). -/
theorem handOn_hit (v : FenceView) (g : has s.ram.channels[c].guard z = true) (now : has (fenced s) z = true)
    (not : has v.all z = false) : ∃ entered left, has entered z = true ∧
      (∀ y, has entered y = true → has (fenced s) y = true) ∧
      handOn v c s = handedOn c (fencesTail left (allLanes.foldl (fenceLane entered) (mark .sets s))) := by
  have differ : v.within s.ram.channels[c].guard ≠ (fenceView s).within s.ram.channels[c].guard := fun e => by
    have := congrArg (fun x : FenceView => has x.all z) e
    simp only [has_within, g, Bool.and_true, not] at this
    exact absurd (this.trans now) (by decide)
  refine ⟨_, _, ?_, fun y hy => ?_, (congrArg (handedOn c) (if_neg differ) :)⟩
  · rw [has_and, has_not, has_within, has_within, g, not]
    exact (congrArg (fun b => b && true && !(false && true)) now :)
  · rw [has_and, has_within, Bool.and_eq_true, Bool.and_eq_true] at hy
    exact hy.1.1

/-- A state change that fences no zone of the lane leaves it alone, but for the clear timer of a FENCED lane. -/
theorem spared_handOn (v : FenceView) (c : ChanId) (list : Unlisted s l)
    (miss : (s.lanes[l].state = .moving ∨ s.lanes[l].state = .arming) → ∀ z, has (heldBy s l) z = true →
      has s.ram.channels[c].guard z = true → has (fenced s) z = true → has v.all z = true) :
    Spared l s (handOn v c s) := by
  have rest : ∀ u : State, Spared l s u → Spared l s (handedOn c u) := fun u h => by
    have on : Moves (fun _ => False) u (handedOn c u) := by
      unfold handedOn; split
      · exact (Move.activate u).one
      · exact (Move.activate u).one.tail (.dequeue _ c)
    exact h.trans (on.spared id (h.apart.list list))
  refine rest _ ?_
  unfold fenceEvent; dsimp only; split
  · exact .refl
  · have fences : Spared l s (allLanes.foldl (fenceLane (((fenceView s).within s.ram.channels[c].guard).all &&&
        ~~~(v.within s.ram.channels[c].guard).all)) (mark .sets s)) := by
      have marked : Spared l s (mark .sets s) := .of_same rfl rfl rfl rfl rfl
      refine marked.trans (spared_fenceLanes allLanes (fun m go => ?_) list)
      obtain ⟨z, ez, hz⟩ := meets_iff.1 m
      rw [has_and, has_not, has_within, has_within, Bool.and_eq_true, Bool.and_eq_true] at ez
      obtain ⟨⟨fz, gz⟩, out⟩ := ez
      rw [miss go z hz gz fz, gz] at out
      cases out
    have tail : ∀ u : State, Unlisted u l → ∀ left : ZoneSet, Spared l u
        (if left = 0#12 then yieldTests (deliverUnfence left u) else scan (deliverUnfence left u)) := fun u hu left => by
      refine Moves.spared (L := fun _ => False) ?_ id hu
      split
      · exact (moves_deliverUnfence u left).trans (moves_yieldTests _)
      · exact (moves_deliverUnfence u left).trans (moves_scan _)
    exact fences.trans (tail _ (fences.apart.list list) _)

theorem spared_tail (left : ZoneSet) (c : ChanId) (list : Unlisted s l) : Spared l s (handedOn c (fencesTail left s)) := by
  have tail : Moves (fun _ => False) s (fencesTail left s) := by
    unfold fencesTail; split
    · exact (moves_deliverUnfence s left).trans (moves_yieldTests _)
    · exact (moves_deliverUnfence s left).trans (moves_scan _)
  refine Moves.spared (L := fun _ => False) (tail.trans ?_) id list
  unfold handedOn; split
  · exact (Move.activate _).one
  · exact (Move.activate _).one.tail (.dequeue _ c)

theorem fencing_tail (left : ZoneSet) (c : ChanId) (f : Fencing l s) : Fencing l (handedOn c (fencesTail left s)) := by
  have lifted : Timed l (fun _ => False) False (deliverUnfence left s) :=
    (f.timed.deliverUnfence left).mono (fun _ h => h) And.left
  have tail : Timed l (fun _ => False) False (fencesTail left s) := by
    unfold fencesTail; split
    · exact fenceBound_timed.yieldTests lifted
    · exact fenceBound_timed.scan lifted
  exact (tail.same (sameFences_handedOn c _)).fencing

theorem Fencing.handOn (f : Fencing l s) (v : FenceView) (c : ChanId) : Fencing l (handOn v c s) :=
  ((f.timed.handOn v c).mono (fun _ h => h.1) And.left).fencing

/-! ### What a fence does to a moving or arming lane -/

/-- What a fence changes of the lane depends on, and the fences themselves. -/
def laneView (l : LaneId) (s : State) := (s.lanes[l], s.drives[l], s.holders, s.chans, s.ram)

theorem laneView_fenceLane (entered : ZoneSet) (s : State) (h : k ≠ l) :
    laneView l (fenceLane entered s k) = laneView l s := by
  have drive : ∀ d, (enterStopping k d s).drives[l] = s.drives[l] := fun d =>
    (laneAndDrive_eq.1 (laneAndDrive_enterStopping d s (Ne.symm h))).2
  have lane : ∀ d, (enterStopping k d s).lanes[l] = s.lanes[l] := fun d =>
    (laneAndDrive_eq.1 (laneAndDrive_enterStopping d s (Ne.symm h))).1
  unfold fenceLane; split
  · split
    · simp only [laneView, lane, drive, enterStopping_holders, enterStopping_chans, enterStopping_ram]
    · simp [laneView, -Fin.getElem_fin, put_other _ (Ne.symm h)]
    · simp [laneView, -Fin.getElem_fin, put_other _ (Ne.symm h)]
    · rfl
  · rfl

/-- After the fences the lane stands as its own fence has left it (R107). -/
theorem fenceLanes_at (entered : ZoneSet) (l : LaneId) (s : State) : ∃ v, laneView l v = laneView l s ∧
    laneView l (allLanes.foldl (fenceLane entered) s) = laneView l (fenceLane entered v l) :=
  foldl_allLanes_at (laneView l) l (fun s _ h => laneView_fenceLane entered s h) s

/-- The lane of `s` is in STOPPING toward FENCED in a 50 ms brake (R77, R107). -/
structure Stopped (l : LaneId) (s v : State) : Prop where
  state : v.lanes[l].state = .stopping
  dest : v.lanes[l].stopDest = some .fenced
  brake : Braking v l 50 false
  list : Unlisted v l
  zones : heldBy v l = heldBy s l

theorem Stopped.spared (h : Stopped l s v) (sp : Spared l v w) : Stopped l s w := by
  obtain ⟨state, dest, brake, list, zones⟩ := h
  exact ⟨sp.apart.state.trans state, sp.apart.stopDest.trans dest, by rw [Braking, sp.apart.drive]; exact brake,
    sp.apart.list list, sp.apart.zones.trans zones⟩

/-- The lane of `s` is in FENCED with its relay open (R76, R108, R109). -/
structure Caught (l : LaneId) (s v : State) : Prop where
  total : v.lanes[l].totalTimer = some 10000
  seen : v.lanes[l].incidents &&& 0x04#7 = 0x04#7
  relay : RelayOpen v l
  fencing : Fencing l v
  zones : heldBy v l = heldBy s l

theorem Caught.apart (h : Caught l s v) (ap : Apart l v w) (f : Fencing l w) : Caught l s w := by
  obtain ⟨total, seen, relay, -, zones⟩ := h
  have same : w.lanes[l].totalTimer = v.lanes[l].totalTimer ∧ w.lanes[l].incidents = v.lanes[l].incidents :=
    ⟨(congrArg Lane.totalTimer ap.record :), (congrArg Lane.incidents ap.record :)⟩
  exact ⟨same.1.trans total, by rw [same.2]; exact seen, relayOpen_of_drive ap.drive relay, f, ap.zones.trans zones⟩

theorem fenced_moving (he : has entered z = true) (hz : has (heldBy s l) z = true) (hs : s.lanes[l].state = .moving)
    (driving : s.drives[l].phase = .driving) (list : Unlisted s l) :
    Stopped l s (allLanes.foldl (fenceLane entered) s) := by
  obtain ⟨holders, -, -, -, wl⟩ := fenceLanes_sameBut entered s
  obtain ⟨v, before, after⟩ := fenceLanes_at entered l s
  simp only [laneView, Prod.mk.injEq] at before after
  obtain ⟨lane, drive, hol, -, -⟩ := before
  obtain ⟨lane', drive', -, -, -⟩ := after
  have own : fenceLane entered v l = enterStopping l .fenced v := by
    unfold fenceLane
    rw [if_pos (meets_iff.2 ⟨z, he, by rw [heldBy_congr hol]; exact hz⟩), lane, hs]
  obtain ⟨stopping, brake, -, -⟩ := enterStopping_driving (s := v) .fenced (by rw [drive]; exact driving)
  refine ⟨?_, ?_, ?_, by rw [Unlisted, wl]; exact list, heldBy_congr holders l⟩
  · rw [lane', own, stopping]
  · rw [lane', own, stopping]
  · rw [Braking, drive', own]; exact brake

theorem fenced_arming (he : has entered z = true) (hz : has (heldBy s l) z = true) (fz : has (fenced s) z = true)
    (hs : s.lanes[l].state = .arming) (list : Unlisted s l) (away : TuneAway s) :
    Caught l s (allLanes.foldl (fenceLane entered) s) := by
  obtain ⟨holders, chans, ram, presence, wl⟩ := fenceLanes_sameBut entered s
  obtain ⟨v, before, after⟩ := fenceLanes_at entered l s
  simp only [laneView, Prod.mk.injEq] at before after
  obtain ⟨lane, drive, hol, cha, rm⟩ := before
  obtain ⟨lane', drive', -, -, -⟩ := after
  have held := heldBy_congr holders l
  have fences : fenced (allLanes.foldl (fenceLane entered) s) = fenced s := fenced_congr chans (by rw [ram])
  have own : fenceLane entered v l = enterFenced l (openRelay l v) := by
    unfold fenceLane
    rw [if_pos (meets_iff.2 ⟨z, he, by rw [heldBy_congr hol]; exact hz⟩), lane, hs]
  have busy : meets (heldBy (openRelay l v) l) (fenced (openRelay l v)) = true := by
    refine meets_iff.2 ⟨z, ?_, ?_⟩
    · rw [heldBy_congr (openRelay_holders l v), heldBy_congr hol]; exact hz
    · rw [fenced_congr (s := s) (by rw [openRelay_chans]; exact cha) (by rw [openRelay_ram, rm])]; exact fz
  have record : (allLanes.foldl (fenceLane entered) s).lanes[l] = { s.lanes[l].leaving with
      state := .fenced, incidents := s.lanes[l].incidents ||| incFencedSeen, totalTimer := some totalTime
      clearTimer := none } := by
    rw [lane', own, enterFenced_lanes, put_self, busy, openRelay_lanes, lane]; rfl
  refine ⟨by rw [record], by rw [record]; exact or_and_right_self .., ?_, ?_, held⟩
  · refine relayOpen_of_drive (s := openRelay l v) ?_ (relayOpen_openRelay l v)
    rw [drive', own, enterFenced_drives]
  · refine ⟨by rw [record], by rw [Unlisted, wl]; exact list, ?_, fun k hk => ?_⟩
    · rw [held, fences, if_pos (meets_iff.2 ⟨z, hz, fz⟩), record]
    · rw [chans]; rw [presence] at hk; exact away k hk

/-! ### The handing on of all the changes -/

/-- Either a change of the round fences a held zone and the lane reacts, or the lane is spared. -/
theorem reacts_or_spared {cs : List ChanId} {v : FenceView} (list : Unlisted s l) (away : TuneAway s)
    (sp : Spared l t s)
    (hit : ∀ (u : State) (v : FenceView) (c : ChanId) (z : ZoneId), Spared l t u → Unlisted u l → TuneAway u →
      has (heldBy u l) z = true → has u.ram.channels[c].guard z = true → has (fenced u) z = true → has v.all z = false →
      R (handOn v c u))
    (keep : ∀ u v c, R u → R (handOn v c u)) : R (handOnAll v cs s) ∨ (Spared l t (handOnAll v cs s) ∧
      ∀ c ∈ cs, ∀ z, has (heldBy s l) z = true → has s.ram.channels[c].guard z = true →
        has (fenced (handOnAll v cs s)) z = true → has v.all z = true) := by
  have keeps : ∀ (cs : List ChanId) (v : FenceView) (u : State), R u → R (handOnAll v cs u) := by
    intro cs
    induction cs with
    | nil => exact fun _ _ h => h
    | cons c cs ih => exact fun v u h => by rw [handOnAll_cons]; exact ih _ _ (keep u v c h)
  induction cs generalizing s v with
  | nil => exact .inr ⟨sp, fun _ h => nomatch h⟩
  | cons c cs ih =>
    rw [handOnAll_cons]
    by_cases h : ∃ z, has (heldBy s l) z = true ∧ has s.ram.channels[c].guard z = true ∧ has (fenced s) z = true ∧
        has v.all z = false
    · obtain ⟨z, hz, g, fz, out⟩ := h
      exact .inl (keeps _ _ _ (hit s v c z sp list away hz g fz out))
    · have miss : ∀ z, has (heldBy s l) z = true → has s.ram.channels[c].guard z = true → has (fenced s) z = true →
          has v.all z = true := fun z hz g fz => by
        rw [← Bool.not_eq_false]; exact fun out => h ⟨z, hz, g, fz, out⟩
      have one : Spared l s (handOn v c s) := spared_handOn v c list fun _ => miss
      have may := maySuspend_handOn v c s
      refine (ih (v := v.refreshed (fenceView s) s.ram.channels[c].guard) (one.apart.list list) (may.tuneAway away)
        (sp.trans one)).imp_right fun ⟨spared, seen⟩ => ⟨spared, fun d hd z hz g fz => ?_⟩
      have was : has (fenced s) z = true :=
        may.fewer away ((maySuspend_handOnAll _ _ _).fewer (may.tuneAway away) fz)
      rcases List.mem_cons.1 hd with rfl | hd
      · exact miss z hz g was
      · have now := seen d hd z (by rw [one.apart.zones]; exact hz) (by rw [may.ram]; exact g) fz
        rw [has_refreshed] at now
        split at now
        · next g' => exact miss z hz g' was
        · exact now

theorem spared_handOnAll (v : FenceView) (cs : List ChanId) (list : Unlisted s l)
    (still : ¬ (s.lanes[l].state = .moving ∨ s.lanes[l].state = .arming)) : Spared l s (handOnAll v cs s) := by
  induction cs generalizing v s with
  | nil => exact .refl
  | cons c cs ih =>
    have one : Spared l s (handOn v c s) := spared_handOn v c list fun h => absurd h still
    rw [handOnAll_cons]
    exact one.trans (ih _ (one.apart.list list) (by rw [one.apart.state]; exact still))

end
end Sys2Proof.Proofs
end

section
/-! O47, one state of the lane at a time (R76, R77, R106 to R110). -/

namespace Sys2Proof.Proofs

open Sys2Proof Sys2Proof.Machine Sys2Proof.Safety

section
variable {s t u v w : State} {l : LaneId} {z : ZoneId} {counts : Vector (BitVec 16) 12} {p p' : ZoneId → Prop} {q q' : Prop}

/-! ### The round around a lane that holds a zone -/

theorem RoundSampled.same (h : RoundSampled counts s v) : v.lanes = s.lanes ∧ v.drives = s.drives ∧
    v.holders = s.holders ∧ v.waitList = s.waitList ∧ v.ram = s.ram := by
  have kept := h.kept
  simp only [unsampled, Prod.mk.injEq] at kept
  obtain ⟨lanes, drives, holders, list, ram, -⟩ := kept
  exact ⟨lanes, drives, holders, list, ram⟩

theorem lane_of_stem {r r' : Lane} (h : r'.stem = r.stem) : r' = { r with clearTimer := r'.clearTimer } :=
  (congrArg (fun x : Lane => { x with clearTimer := r'.clearTimer }) h :)

/-- What a sample round starts from, in the sight of a lane that holds a zone. -/
structure Holding (counts : Vector (BitVec 16) 12) (l : LaneId) (z : ZoneId) (s v : State) : Prop where
  sampled : RoundSampled counts s v
  lane : v.lanes[l] = s.lanes[l]
  drive : v.drives[l] = s.drives[l]
  zones : heldBy v l = heldBy s l
  list : Unlisted v l
  away : TuneAway v
  held : has (heldBy v l) z = true

theorem holding (wf : WaitListFits s) (fits : TuneFits s) (hz : s.holders[z] = some l) :
    Holding counts l z s (roundSampled counts s) := by
  have sampled := roundSampled_sampled counts s
  obtain ⟨lanes, drives, holders, list, -⟩ := sampled.same
  have held : has (heldBy s l) z = true := by rw [has_heldBy, hz]; exact decide_eq_true rfl
  have claims : s.lanes[l].state ≠ .claiming := fun e => by
    obtain ⟨-, -, -, claims⟩ := wf
    rw [(claims l e).2.2, has_zero] at held; cases held
  have zones := heldBy_congr holders l
  exact ⟨sampled, by rw [lanes], by rw [drives], zones, by rw [Unlisted, list]; exact unlisted_of_state wf claims,
    sampled.tuneAway fits, by rw [zones]; exact held⟩

/-- A zone that is fenced after the round and was not before is guarded by a changed channel. -/
theorem Holding.entered (h : Holding counts l z s v) (not : has (fenced s) z = false)
    (seen : ∀ c ∈ changedChans counts s, has v.ram.channels[c].guard z = true → has (fenceView s).all z = true) :
    has (fenced (handOnAll (fenceView s) (changedChans counts s) v)) z = false := by
  rw [← Bool.not_eq_true]
  intro now
  have sampled : has (fenced v) z = true := (maySuspend_handOnAll _ _ v).fewer h.away now
  obtain ⟨c, hc, g⟩ := h.sampled.changed (z := z) (by rw [sampled, not]; decide)
  have yes : has (fenced s) z = true := seen c hc g
  rw [not] at yes; cases yes

/-! ### MOVING -/

theorem Holding.moving (h : Holding counts l z s v) (hs : s.lanes[l].state = .moving)
    (driving : s.drives[l].phase = .driving) (not : has (fenced s) z = false)
    (now : has (fenced (tryTune (handOnAll (fenceView s) (changedChans counts s) v))) z = true) :
    Stopped l v (tryTune (handOnAll (fenceView s) (changedChans counts s) v)) := by
  have outcome := reacts_or_spared (R := Stopped l v) (t := v) (v := fenceView s) (cs := changedChans counts s) h.list
    h.away .refl (fun u seen c y sp list away hy g fy out => ?_) fun u seen c r =>
      r.spared (spared_handOn seen c r.list fun go => by rw [r.state] at go; simp at go)
  · rcases outcome with stopped | ⟨sp, seen⟩
    · rw [tryTune_of_motion _ (k := l) (by rw [stopped.state]; rfl)]; exact stopped
    · have still : tryTune (handOnAll (fenceView s) (changedChans counts s) v) =
          handOnAll (fenceView s) (changedChans counts s) v :=
        tryTune_of_motion _ (k := l) (by rw [sp.apart.state, h.lane, hs]; rfl)
      rw [still] at now
      rw [h.entered not fun c hc g => seen c hc z h.held g now] at now
      cases now
  · obtain ⟨entered, left, ey, -, e⟩ := handOn_hit seen g fy out
    rw [e]
    have state : u.lanes[l].state = .moving := by rw [sp.apart.state, h.lane, hs]
    have drive : u.drives[l].phase = .driving := by rw [sp.apart.drive, h.drive, driving]
    obtain ⟨stopping, dest, brake, list, zones⟩ := fenced_moving (s := mark .sets u) ey hy state drive list
    exact Stopped.spared ⟨stopping, dest, brake, list, zones.trans sp.apart.zones⟩ (spared_tail left c list)

/-! ### ARMING -/

theorem Holding.arming (h : Holding counts l z s v) (hs : s.lanes[l].state = .arming) (not : has (fenced s) z = false)
    (now : has (fenced (tryTune (handOnAll (fenceView s) (changedChans counts s) v))) z = true) :
    Caught l v (tryTune (handOnAll (fenceView s) (changedChans counts s) v)) := by
  have outcome := reacts_or_spared (R := Caught l v) (t := v) (v := fenceView s) (cs := changedChans counts s) h.list
    h.away .refl (fun u seen c y sp list away hy g fy out => ?_) fun u seen c r =>
      r.apart (spared_handOn seen c r.fencing.list fun go => by rw [r.fencing.state] at go; simp at go).apart
        (r.fencing.handOn seen c)
  · rcases outcome with caught | ⟨sp, seen⟩
    · exact caught.apart (spared_tryTune caught.fencing.list).apart caught.fencing.tryTune
    · have still : tryTune (handOnAll (fenceView s) (changedChans counts s) v) =
          handOnAll (fenceView s) (changedChans counts s) v :=
        tryTune_of_motion _ (k := l) (by rw [sp.apart.state, h.lane, hs]; rfl)
      rw [still] at now
      rw [h.entered not fun c hc g => seen c hc z h.held g now] at now
      cases now
  · obtain ⟨entered, left, ey, -, e⟩ := handOn_hit seen g fy out
    rw [e]
    have state : u.lanes[l].state = .arming := by rw [sp.apart.state, h.lane, hs]
    obtain ⟨total, fence, relay, fencing, zones⟩ := fenced_arming (s := mark .sets u) ey hy fy state list away
    exact Caught.apart ⟨total, fence, relay, fencing, zones.trans sp.apart.zones⟩ (spared_tail left c fencing.list).apart
      (fencing_tail left c fencing)

/-! ### FENCED -/

theorem Timed.weaken (h : Timed l p q s)
    (hp : ∀ z, has (fenced s) z = true → p z → p' z) (hq : meets (heldBy s l) (fenced s) = false → q → q') :
    Timed l p' q' s := by
  obtain ⟨state, list, tune, busy, free⟩ := h
  exact ⟨state, list, tune, fun z hz fz => (busy z hz fz).imp_left (hp z fz), fun m => (free m).imp_left (hq m)⟩

theorem not_inMotion_of_fenced (h : s.lanes[l].state = .fenced) :
    ¬ (s.lanes[l].state = .moving ∨ s.lanes[l].state = .arming) := by rw [h]; simp

/-- The round and the start of a tune leave a FENCED lane alone but for its clear timer. -/
theorem Holding.apart (h : Holding counts l z s v) (still : ¬ (s.lanes[l].state = .moving ∨ s.lanes[l].state = .arming)) :
    Spared l v (tryTune (handOnAll (fenceView s) (changedChans counts s) v)) := by
  have round := spared_handOnAll (fenceView s) (changedChans counts s) h.list (by rw [h.lane]; exact still)
  exact round.trans (spared_tryTune (round.apart.list h.list))

theorem Timed.round (f : Timed l p q v) (counts : Vector (BitVec 16) 12) (s : State) :
    Timed l (fun z => p z ∧ ∀ c ∈ changedChans counts s, has v.ram.channels[c].guard z = true → has (fenceView s).all z = true)
      (q ∧ ∀ c ∈ changedChans counts s, ∀ z, has v.ram.channels[c].guard z = true → has (heldBy v l) z = true →
        has (fenceView s).all z = false) (Machine.handOnAll (fenceView s) (changedChans counts s) v) :=
  f.handOnAll fun w c _ list state =>
    (spared_handOn w c list fun go => absurd go (not_inMotion_of_fenced state)).apart.zones

/-- A zone that enters the fences stops the clear timer (R107). -/
theorem Holding.stops (h : Holding counts l z s v) (hs : s.lanes[l].state = .fenced) (not : has (fenced s) z = false)
    (now : has (fenced (tryTune (handOnAll (fenceView s) (changedChans counts s) v))) z = true) :
    (tryTune (handOnAll (fenceView s) (changedChans counts s) v)).lanes[l].clearTimer = none := by
  have start : Timed l (fun _ => True) True v :=
    ⟨by rw [h.lane, hs], h.list, h.away, fun _ _ _ => .inl trivial, fun _ => .inl trivial⟩
  have round : Timed l (· ≠ z) True (handOnAll (fenceView s) (changedChans counts s) v) :=
    (start.round counts s).weaken (fun y fy seen e => by
      subst e; rw [h.entered not seen.2] at fy; cases fy) fun _ _ => trivial
  have zones := (h.apart (not_inMotion_of_fenced hs)).apart.zones
  exact (round.tryTune.busy z (by rw [zones]; exact h.held) now).resolve_left fun n => n rfl

/-- The clear timer starts once the last held zone is free, and till then a stopped one stays stopped (R109, R110). -/
theorem Holding.clears (h : Holding counts l z s v) (hs : s.lanes[l].state = .fenced) (was : has (fenced s) z = true) :
    Timed l (fun _ => s.lanes[l].clearTimer ≠ none) False (tryTune (handOnAll (fenceView s) (changedChans counts s) v)) := by
  have start : Timed l (fun _ => s.lanes[l].clearTimer ≠ none) (meets (heldBy v l) (fenced v) = false) v :=
    ⟨by rw [h.lane, hs], h.list, h.away, fun _ _ _ => by rw [h.lane]; exact (em _).symm, .inl⟩
  refine ((start.round counts s).weaken (p' := fun _ => s.lanes[l].clearTimer ≠ none) (fun _ _ => And.left) fun _ => ?_).tryTune
  rintro ⟨none, out⟩
  have freed := meets_eq_false.1 none z h.held
  obtain ⟨c, hc, g⟩ := h.sampled.changed (z := z) (by rw [freed, was]; decide)
  have gone : has (fenced s) z = false := out c hc z g h.held
  rw [was] at gone; cases gone

/-! ### O47 -/

/-- Settles O47, by what each fence event of the round does to the lane that holds the zone. -/
theorem fenceChangesActOnTheirHolders : Obligations.FenceChangesActOnTheirHolders := by
  unfold Obligations.FenceChangesActOnTheirHolders
  intro s l z counts wf fits hz
  have h := holding (counts := counts) wf fits hz
  have run : exec (.presenceSampleRound counts) s = .next (if s.presence.roundTimer.isSome then
      tryTune (handOnAll (fenceView s) (changedChans counts s) (roundSampled counts s)) else s) := by
    rw [← sampleRound_eq]; rfl
  have keeps : ∀ {t : State}, heldBy t l = heldBy (roundSampled counts s) l → KeepsZones s t l := fun e =>
    keepsZones_of_heldBy (e.trans h.zones)
  rw [run]
  generalize roundSampled counts s = v at *
  refine ⟨fun not => ⟨_, rfl, ?_⟩, fun was hs => ⟨_, rfl, ?_⟩⟩
  · by_cases timer : s.presence.roundTimer.isSome = true
    · rw [if_pos timer]
      intro now
      split
      · next hs =>
        obtain ⟨channels, -⟩ := wf
        obtain ⟨state, dest, brake, -, zones⟩ := h.moving hs ((channels l).2.2.2 hs) not now
        exact ⟨state, dest, brake, keeps zones⟩
      · next hs =>
        obtain ⟨total, seen, relay, fencing, zones⟩ := h.arming hs not now
        refine ⟨fencing.state, total, ?_, seen, relay, keeps zones⟩
        rw [fencing.timer, if_pos (meets_iff.2 ⟨z, by rw [zones]; exact h.held, now⟩)]
      · next hs =>
        have sp := h.apart (not_inMotion_of_fenced hs)
        refine ⟨?_, keeps sp.apart.zones⟩
        rw [lane_of_stem sp.apart.record, h.stops hs not now, h.lane]
      · next moving arming fenced =>
        have sp := h.apart fun e => e.elim moving arming
        exact ⟨(sp.record (by rw [h.lane]; exact fenced)).trans h.lane, sp.apart.drive.trans h.drive, keeps sp.apart.zones⟩
    · rw [if_neg timer]
      intro now; rw [not] at now; cases now
  · by_cases timer : s.presence.roundTimer.isSome = true
    · rw [if_pos timer]
      have sp := h.apart (not_inMotion_of_fenced hs)
      have timed := h.clears hs was
      have zones := sp.apart.zones.trans h.zones
      refine ⟨fun m => ?_, fun none m => ?_, keeps sp.apart.zones⟩
      · rw [lane_of_stem sp.apart.record, (timed.free (by rw [zones]; exact m)).resolve_left id, h.lane]
      · obtain ⟨y, hy, fy⟩ := meets_iff.1 m
        have stopped := (timed.busy y (by rw [zones]; exact hy) fy).resolve_left fun n => n none
        rw [lane_of_stem sp.apart.record, stopped, h.lane, ← none]
    · rw [if_neg timer]
      refine ⟨fun m => ?_, fun _ _ => rfl, fun _ hy => hy⟩
      have no := meets_eq_false.1 m z (by rw [has_heldBy, hz]; exact decide_eq_true rfl)
      rw [was] at no; cases no

end
end Sys2Proof.Proofs
end
